-- ==== Sys2Proof/Word.lean ====
section
/-! DEFINITION. The word types of the Uslum: registers are 64 bits wide (R6), memory is addressed by bytes. -/
namespace Sys2Proof

/-- R6: every register is 64 bits wide. -/
abbrev Word := BitVec 64

/-- The smallest addressable unit of brick stores, beds, HBM and host memory. -/
abbrev Byte := BitVec 8

/-- R2: one of the four compute dies, and the channel built on it. -/
abbrev Die := Fin 4

/-- R9, Table 8-7: a rope; 0-23 are external ropes 1-24, 24-33 are interposer ropes 0-9. -/
abbrev Rope := Fin 34

/-- A group rank (R7). -/
abbrev Rank := Fin 16

end Sys2Proof
end

