-- ==== Sys2Proof/Config.lean ====
section
/-! DEFINITION. What the spec leaves open and the model does not choose: free values, each an opaque constant without a
body. A claim that uses one holds for every value of it. -/
namespace Sys2Proof.Config

/-- The free values of the model: the value of draw number `k`. A step that needs a value the spec leaves open applies
this to the state's draw counter and advances the counter. Where the spec bounds the value, the user of the draw reduces
it into the bounds. Assumption 4. -/
opaque freeValue : Nat → BitVec 64

/-- R224, R232: the factory target of the back-facet current of the laser at a wavelength of a rope, in 0.1 µA. -/
opaque apcTarget : Nat → Nat → Nat

/-- R227: the factory table of a ring: the heater code at point `i` (20 °C and every 2.5 °C to 100 °C) while it is engaged. -/
opaque ringTable : Nat → Nat → Int

/-- R228: the same for a crosspoint ring that is parked, midway between grid frequencies. -/
opaque ringPark : Nat → Nat → Int

/-- R254: the gain of a summing receiver, 32,768 = 1.0. -/
opaque rxGain : Nat → Nat

/-- R184: the slice of a bed that holds the line at an offset; the spec gives no hash. -/
opaque bedSlice : Nat → Nat

/-- R227: the zone of the interposer that holds a ring. -/
opaque ringZone : Nat → Nat

/-- R364: the ceiling of an activity category, fused in the keystone image with a firmware identifier. -/
opaque ksCeiling : Nat → Nat → Nat

/-- R370: the public modulus of the keystone's key. -/
opaque ksModulus : Nat

/-- R370: Horzatre's signature on the key certificate: byte i of the octet string in bits [8 i + 7:8 i]. -/
opaque ksCertSig : Nat

/-- R370: the signature of the keystone over a body with a salt, as ksCertSig gives one. -/
opaque ksSign : Nat → Nat → Nat

/-- R378: whether a signature (as ksCertSig gives one) over a byte string holds under key 0 firmware, 1 feature, 2 debug. -/
opaque pssVerify : Nat → List Byte → Nat → Bool

end Sys2Proof.Config
end

