-- ==== Sys2Proof/Machine/Regs.lean ====
section
/-! DEFINITION. The management-space address (R6, Table 0-5) of every register card of the spec, and the bit range of
every field of those cards. The names are the spec's. Cards that the spec gives twice (an external and an interposer rope,
a die and a hub engine, a die and the hub transport endpoint) have one address function over both. -/
namespace Sys2Proof.Machine

/-- R6, Table 0-5: unit, block and byte offset of a management-space address. -/
def adr (u b o : Nat) : Nat := u * 0x100000000 + b * 0x100000 + o

/-- A named bit range of a 64-bit register. For a flag (W1C), `k` is its place among the register's flags, which is the
place of its occurrence count in the alias (R326). -/
structure Fld where
  addr : Nat
  hi : Nat
  lo : Nat
  k : Nat
  deriving DecidableEq, Repr

/-- 01, card after R19. -/
def HP_CLK_LOSS : Nat := adr 0x0 (0x10) (0xc00)
/-- 01, card after R27. -/
def HP_BL_STS (l : Nat) : Nat := adr 0x0 (0x10) (0xa00 + 8 * l)
/-- 01, card after R27. -/
def HP_BL_RMAP_SEL : Nat := adr 0x0 (0x10) (0xb00)
/-- 01, card after R27. -/
def HP_BL_RMAP_DATA : Nat := adr 0x0 (0x10) (0xb08)
/-- 01, card after R31. -/
def HP_CAPSULE (d w : Nat) : Nat := adr 0x0 (0x10) (0x100 + 64 * d + 8 * w)
/-- 01, card after R34. -/
def HP_ROLE_MAP (l h : Nat) : Nat := adr 0x0 (0x10) (0x800 + 16 * l + 8 * h)
/-- 01, card after R36. -/
def HP_CAP_EFF : Nat := adr 0x0 (0x10) (0x0)
/-- 01, card after R41. -/
def GS_CTL : Nat := adr 0x8 (0x0) (0x0)
/-- 01, card after R41. -/
def GS_TAG : Nat := adr 0x8 (0x0) (0x8)
/-- 01, card after R41. -/
def GS_WIN (i : Nat) : Nat := adr 0x8 (0x0) (0x100 + 8 * i)
/-- 01, card after R41. -/
def GS_RATE : Nat := adr 0x8 (0x0) (0x10)
/-- 01, card after R41. -/
def GS_STS : Nat := adr 0x8 (0x0) (0x18)
/-- 01, card after R45. -/
def CH_DIE_CMD (n : Nat) : Nat := adr (n + 1) (0x8f0) (0x0)
/-- 01, card after R45. -/
def CH_DIE_STS (n : Nat) : Nat := adr (n + 1) (0x8f0) (0x8)
/-- 01, card after R48. -/
def CD_HUB_STS (n : Nat) : Nat := adr (n + 1) (0x10) (0x0)
/-- 01, card after R48. -/
def CD_HUB_WAIT_LIM (n : Nat) : Nat := adr (n + 1) (0x10) (0x8)
/-- 02, card after R54. -/
def CD_SPD_MON (n i : Nat) : Nat := adr (n + 1) (0x20) (0x0 + 8 * i)
/-- 02, card after R54. -/
def CD_TEMP (n i : Nat) : Nat := adr (n + 1) (0x20) (0x100 + 8 * i)
/-- 02, card after R69. -/
def CD_BK_ARITH (n b : Nat) : Nat := adr (n + 1) (0x400 + b) (0x1000)
/-- 02, card after R69. -/
def CD_BK_SEED (n b : Nat) : Nat := adr (n + 1) (0x400 + b) (0x1008)
/-- 02, card after R79. -/
def CD_BK_SGCTX (n b j : Nat) : Nat := adr (n + 1) (0x400 + b) (0x1100 + 8 * j)
/-- 02, card after R79. -/
def CD_BK_SGCNT0 (n b : Nat) : Nat := adr (n + 1) (0x400 + b) (0x1200)
/-- 02, card after R79. -/
def CD_BK_SGCNT1 (n b : Nat) : Nat := adr (n + 1) (0x400 + b) (0x1208)
/-- 02, card after R79. -/
def CD_BK_SGCNT2 (n b : Nat) : Nat := adr (n + 1) (0x400 + b) (0x1210)
/-- 02, card after R79. -/
def CD_BK_SGCNT3 (n b : Nat) : Nat := adr (n + 1) (0x400 + b) (0x1218)
/-- 02, card after R80. -/
def CD_BK_SGSTS (n b : Nat) : Nat := adr (n + 1) (0x400 + b) (0x1240)
/-- 02, card after R80. -/
def CD_BK_SGOCC (n b : Nat) : Nat := adr (n + 1) (0x400 + b) (0x1248)
/-- 03, card after R118. -/
def CD_PLY_PC (n b q : Nat) : Nat := adr (n + 1) (0x400 + b) (0x2000 + 1024 * q)
/-- 03, card after R118. -/
def CD_PLY_STS (n b q : Nat) : Nat := adr (n + 1) (0x400 + b) (0x2008 + 1024 * q)
/-- 03, card after R118. -/
def CD_PLY_CAUSE (n b q : Nat) : Nat := adr (n + 1) (0x400 + b) (0x2010 + 1024 * q)
/-- 03, card after R118. -/
def CD_PLY_TINFO (n b q : Nat) : Nat := adr (n + 1) (0x400 + b) (0x2018 + 1024 * q)
/-- 03, card after R118. -/
def CD_PLY_TVEC (n b q : Nat) : Nat := adr (n + 1) (0x400 + b) (0x2020 + 1024 * q)
/-- 03, card after R118. -/
def CD_PLY_EPC (n b q : Nat) : Nat := adr (n + 1) (0x400 + b) (0x2028 + 1024 * q)
/-- 03, card after R118. -/
def CD_PLY_CMD (n b q : Nat) : Nat := adr (n + 1) (0x400 + b) (0x2030 + 1024 * q)
/-- 03, card after R118. -/
def CD_PLY_S (n b q i : Nat) : Nat := adr (n + 1) (0x400 + b) (0x2100 + 1024 * q + 8 * i)
/-- 03, card after R118. -/
def CD_PLY_A (n b q i : Nat) : Nat := adr (n + 1) (0x400 + b) (0x2200 + 1024 * q + 8 * i)
/-- 03, card after R118. -/
def CD_PLY_PRED (n b q : Nat) : Nat := adr (n + 1) (0x400 + b) (0x2280 + 1024 * q)
/-- 03, card after R118. -/
def CD_BK_ARRST (n b : Nat) : Nat := adr (n + 1) (0x400 + b) (0x1010)
/-- 03, card after R118. -/
def CD_BK_VREG (n b i w : Nat) : Nat := adr (n + 1) (0x400 + b) (0x4000 + 128 * i + 8 * w)
/-- 03, card after R118. -/
def CD_BK_ACC (n b k w : Nat) : Nat := adr (n + 1) (0x400 + b) (0x5000 + 512 * k + 8 * w)
/-- 03, card after R118. -/
def CD_BK_WPL (n b j w : Nat) : Nat := adr (n + 1) (0x400 + b) (0x6000 + 2048 * j + 8 * w)
/-- 04, card after R153. -/
def CD_ME_CTL (n b : Nat) : Nat := adr (n + 1) (0x400 + b) (0x8000)
/-- 04, card after R153. -/
def CD_ME_STS (n b : Nat) : Nat := adr (n + 1) (0x400 + b) (0x8008)
/-- 04, card after R153. -/
def CD_ME_OCC (n b : Nat) : Nat := adr (n + 1) (0x400 + b) (0x8010)
/-- 04, card after R153. -/
def CD_ME_TALLY (n b t : Nat) : Nat := adr (n + 1) (0x400 + b) (0x8100 + 8 * t)
/-- 04, card after R153. -/
def CD_ME_VT (n b i : Nat) : Nat := adr (n + 1) (0x400 + b) (0xc000 + 8 * i)
/-- 04, card after R153. -/
def CD_DIR (n : Nat) : Nat := adr (n + 1) (0x30) (0x0)
/-- 04, card after R153. -/
def CD_DIR_FIRST (n : Nat) : Nat := adr (n + 1) (0x30) (0x8)
/-- 04, card after R153. -/
def CD_KNOT (n i : Nat) : Nat := adr (n + 1) (0x100) (0x0 + 8 * i)
/-- 04, card after R153. -/
def CD_KNOT_WAIT (n i : Nat) : Nat := adr (n + 1) (0x101) (0x0 + 8 * i)
/-- 04, card after R153. -/
def HP_SKNOT (i : Nat) : Nat := adr 0x0 (0x20) (0x0 + 8 * i)
/-- 04, card after R153. -/
def HP_SKNOT_OCC (i : Nat) : Nat := adr 0x0 (0x21) (0x0 + 8 * i)
/-- 04, card after R153. -/
def CD_BK_SCHED (n b : Nat) : Nat := adr (n + 1) (0x400 + b) (0x1020)
/-- 04, card after R153. -/
def CD_BK_LSLOT (n b i : Nat) : Nat := adr (n + 1) (0x400 + b) (0x1080 + 8 * i)
/-- 04, card after R153. -/
def CD_BK_LSARG (n b i : Nat) : Nat := adr (n + 1) (0x400 + b) (0x10c0 + 8 * i)
/-- 04, card after R153. -/
def CD_PLY_WAIT (n b q : Nat) : Nat := adr (n + 1) (0x400 + b) (0x2038 + 1024 * q)
/-- 05, card after R157. -/
def CD_EPOCH (n : Nat) : Nat := adr (n + 1) (0x40) (0x0)
/-- 05, card after R160. -/
def HP_SPAN_CMD : Nat := adr 0x0 (0x30) (0x0)
/-- 05, card after R160. -/
def HP_SPAN_STS : Nat := adr 0x0 (0x30) (0x8)
/-- 05, card after R170. -/
def CH_SLEW_CTL (n : Nat) : Nat := adr (n + 1) (0x900) (0x100)
/-- 05, card after R170. -/
def CH_SLEW_STS (n : Nat) : Nat := adr (n + 1) (0x900) (0x108)
/-- 05, card after R179. -/
def CH_SAT (n r : Nat) : Nat := adr (n + 1) (0x900) (0x200 + 8 * r)
/-- 05, card after R180. -/
def CH_ADM_CTL (n : Nat) : Nat := adr (n + 1) (0x900) (0x0)
/-- 05, card after R180. -/
def CH_ADM_SUBMIT (n : Nat) : Nat := adr (n + 1) (0x900) (0x8)
/-- 05, card after R180. -/
def CH_ADM_RESP0 (n : Nat) : Nat := adr (n + 1) (0x900) (0x10)
/-- 05, card after R180. -/
def CH_ADM_RESP1 (n : Nat) : Nat := adr (n + 1) (0x900) (0x18)
/-- 05, card after R180. -/
def CH_ADM_STS (n : Nat) : Nat := adr (n + 1) (0x900) (0x20)
/-- 05, card after R180. -/
def CH_ADM_AVAIL (n : Nat) : Nat := adr (n + 1) (0x900) (0x28)
/-- 05, card after R180. -/
def CH_ADM_ROPES (n : Nat) : Nat := adr (n + 1) (0x900) (0x48)
/-- 05, card after R180. -/
def CH_PIN_CAP (n : Nat) : Nat := adr (n + 1) (0x900) (0x30)
/-- 05, card after R180. -/
def CH_ADM_PRQ (n : Nat) : Nat := adr (n + 1) (0x900) (0x38)
/-- 05, card after R180. -/
def CH_ADM_PRQ_PTR (n : Nat) : Nat := adr (n + 1) (0x900) (0x40)
/-- 05, card after R180. -/
def CH_LEDGER (n i w : Nat) : Nat := adr (n + 1) (0x901) (0x0 + 32 * i + 8 * w)
/-- 06, card after R220. -/
def CH_XLT_ROOT (n a : Nat) : Nat := adr (n + 1) (0x910) (0x0 + 8 * a)
/-- 06, card after R220. -/
def CH_XLT_INV (n : Nat) : Nat := adr (n + 1) (0x911) (0x0)
/-- 06, card after R220. -/
def CH_PIN_POOL (n t : Nat) : Nat := adr (n + 1) (0x900) (0x300 + 8 * t)
/-- 06, card after R220. -/
def CD_BK_DMA (n b : Nat) : Nat := adr (n + 1) (0x400 + b) (0x1028)
/-- 06, card after R220. -/
def CH_DMA_CMD (n : Nat) : Nat := adr (n + 1) (0x902) (0x0)
/-- 06, card after R220. -/
def CH_FQ (n : Nat) : Nat := adr (n + 1) (0x903) (0x0)
/-- 06, card after R220. -/
def CH_FQ_PTR (n : Nat) : Nat := adr (n + 1) (0x903) (0x8)
/-- 06, card after R220. -/
def CH_FQ_KN (n : Nat) : Nat := adr (n + 1) (0x903) (0x10)
/-- 06, card after R220. -/
def CH_FQ_STS (n : Nat) : Nat := adr (n + 1) (0x903) (0x18)
/-- 06, card after R220. -/
def CD_HBM_STS (n k : Nat) : Nat := adr (n + 1) (0x60) (0x0 + 8 * k)
/-- 06, card after R220. -/
def CH_PRE_SUBMIT (n : Nat) : Nat := adr (n + 1) (0x904) (0x0)
/-- 06, card after R220. -/
def CH_PRE_RESP (n : Nat) : Nat := adr (n + 1) (0x904) (0x8)
/-- 06, card after R220. -/
def CH_PRE_REQ (n k : Nat) : Nat := adr (n + 1) (0x904) (0x100 + 8 * k)
/-- 07, card after R260. -/
def OE_STS (k : Nat) : Nat := adr 0x5 (0x0 + 16 * k) (0x0)
/-- 07, card after R260. -/
def OE_CMD (k : Nat) : Nat := adr 0x5 (0x0 + 16 * k) (0x8)
/-- 07, card after R260. -/
def OE_EVT (k : Nat) : Nat := adr 0x5 (0x0 + 16 * k) (0x10)
/-- 07, card after R260. -/
def OE_EVT_OCC (k h : Nat) : Nat := adr 0x5 (0x0 + 16 * k) (0x18 + 8 * h)
/-- 07, card after R260. -/
def OE_TEMP (k i : Nat) : Nat := adr 0x5 (0x0 + 16 * k) (0x100 + 8 * i)
/-- 07, card after R260. -/
def OE_RING (k i : Nat) : Nat := adr 0x5 (0x2 + 16 * k) (0x0 + 8 * i)
/-- 07, card after R260. -/
def OE_CAL_CTL : Nat := adr 0x5 (0xf0) (0x0)
/-- 07, card after R260. -/
def PI_CAL_CTL : Nat := adr 0x6 (0x0) (0x0)
/-- 07, card after R260. -/
def PI_EVT : Nat := adr 0x6 (0x0) (0x10)
/-- 07, card after R260. -/
def PI_EVT_OCC (h : Nat) : Nat := adr 0x6 (0x0) (0x18 + 8 * h)
/-- 07, card after R260. -/
def PI_ZONE (z : Nat) : Nat := adr 0x6 (0x0) (0x100 + 8 * z)
/-- 07, card after R260. -/
def PI_RING (i : Nat) : Nat := adr 0x6 (0x2) (0x0 + 8 * i)
/-- 07, card after R260. -/
def PI_STEER_CFG (c : Nat) : Nat := adr 0x6 (0x10) (0x0 + 8 * c)
/-- 07, card after R260. -/
def PI_STEER_CMD : Nat := adr 0x6 (0x10) (0x80)
/-- 07, card after R260. -/
def PI_STEER_STS : Nat := adr 0x6 (0x10) (0x88)
/-- 07, card after R260. -/
def PI_STEER_TRIG (t : Nat) : Nat := adr 0x6 (0x10) (0x100 + 8 * t)
/-- 07, card after R260. -/
def PI_AOR_CMD : Nat := adr 0x6 (0x20) (0x0)
/-- 07, card after R260. -/
def PI_AOR_STS (s w : Nat) : Nat := adr 0x6 (0x20) (0x100 + 16 * s + 8 * w)
/-- 07, card after R260. -/
def PI_AOR_CHK (s : Nat) : Nat := adr 0x6 (0x20) (0x200 + 8 * s)
/-- 07, card after R260. -/
def PI_AOR_SRC (s j : Nat) : Nat := adr 0x6 (0x20) (0x1000 + 128 * s + 8 * j)
/-- 08, card after R299. -/
def CD_TR_ROUTE (n r : Nat) : Nat := adr (n + 1) (0x70) (0x0 + 8 * r)
/-- 08, card after R299. -/
def CD_TR_STS (n : Nat) : Nat := adr (n + 1) (0x70) (0x100)
/-- 08, card after R299. -/
def CD_GW_CNT (n d : Nat) : Nat := adr (n + 1) (0x73) (0x0 + 8 * d)
/-- 09, card after R320. -/
def HP_ROLE : Nat := adr 0x0 (0x60) (0x0)
/-- 09, card after R320. -/
def HP_BRIDGE_CMD : Nat := adr 0x0 (0x60) (0x8)
/-- 09, card after R320. -/
def HP_LEASE_CFG : Nat := adr 0x0 (0x60) (0x10)
/-- 09, card after R320. -/
def HP_HB_STS : Nat := adr 0x0 (0x60) (0x18)
/-- 09, card after R320. -/
def HP_CKPT_AREA : Nat := adr 0x0 (0x60) (0x20)
/-- 09, card after R320. -/
def HP_CKPT_STS : Nat := adr 0x0 (0x60) (0x28)
/-- 09, card after R320. -/
def HP_FWD_CTL : Nat := adr 0x0 (0x60) (0x30)
/-- 09, card after R320. -/
def HP_GRP_STS : Nat := adr 0x0 (0x60) (0x38)
/-- 09, card after R320. -/
def HP_GRP_MEMBER (r w : Nat) : Nat := adr 0x0 (0x60) (0x100 + 16 * r + 8 * w)
/-- 09, card after R320. -/
def HP_HOST_SHARE (h : Nat) : Nat := adr 0x0 (0x60) (0x200 + 8 * h)
/-- 09, card after R320. -/
def HP_HQ (q w : Nat) : Nat := adr 0x0 (0x60) (0x1000 + 32 * q + 8 * w)
/-- 09, card after R320. -/
def HP_HQ_DB (q : Nat) : Nat := adr 0x0 (0x60) (0x10000 + 8 * q)
/-- 10, card after R324. -/
def SN_DISC (u : Nat) : Nat := adr 0xa (0x0) (0x200 + 8 * u)
/-- 10, card after R324. -/
def SN_DISC_LAST (u : Nat) : Nat := adr 0xa (0x0) (0x280 + 8 * u)
/-- 10, card after R326. -/
def HP_CLK_OCC (g : Nat) : Nat := adr 0x0 (0x10) (0xc80 + 8 * g)
/-- 10, card after R327. -/
def SN_CCLR : Nat := adr 0xa (0x0) (0x100)
/-- 10, card after R327. -/
def SN_CCLR_RES : Nat := adr 0xa (0x0) (0x108)
/-- 10, card after R328. -/
def CD_BK_SB (n b e : Nat) : Nat := adr (n + 1) (0x400 + b) (0x1400 + 8 * e)
/-- 10, card after R329. -/
def CD_DMAQ (n i w : Nat) : Nat := adr (n + 1) (0x51) (0x0 + 64 * i + 8 * w)
/-- 10, card after R329. -/
def CD_DMAQ_STS (n : Nat) : Nat := adr (n + 1) (0x50) (0x800)
/-- 10, card after R335. -/
def SN_CMD : Nat := adr 0xa (0x0) (0x0)
/-- 10, card after R335. -/
def SN_STS : Nat := adr 0xa (0x0) (0x8)
/-- 10, card after R335. -/
def SN_CTL : Nat := adr 0xa (0x0) (0x10)
/-- 10, card after R337. -/
def SN_TRC_CTL : Nat := adr 0xa (0x1) (0x0)
/-- 10, card after R337. -/
def SN_TRC_RING : Nat := adr 0xa (0x1) (0x8)
/-- 10, card after R337. -/
def SN_TRC_PTR : Nat := adr 0xa (0x1) (0x10)
/-- 10, card after R337. -/
def SN_TRC_STS : Nat := adr 0xa (0x1) (0x18)
/-- 10, card after R337. -/
def SN_TRC_KNOT (i : Nat) : Nat := adr 0xa (0x1) (0x100 + 8 * i)
/-- 10, card after R337. -/
def SN_TRC_MARK : Nat := adr 0xa (0x1) (0x20)
/-- 11, card after R357. -/
def FC_PKG : Nat := adr 0x9 (0x0) (0x0)
/-- 11, card after R357. -/
def FC_GRAVE (w : Nat) : Nat := adr 0x9 (0x0) (0x8 + 8 * w)
/-- 11, card after R357. -/
def FC_CTL (c : Nat) : Nat := adr 0x9 (0x10 + c) (0x0)
/-- 11, card after R357. -/
def FC_STS (c : Nat) : Nat := adr 0x9 (0x10 + c) (0x8)
/-- 11, card after R357. -/
def FC_CMD (c : Nat) : Nat := adr 0x9 (0x10 + c) (0x10)
/-- 11, card after R357. -/
def FC_LOG_PTR (c : Nat) : Nat := adr 0x9 (0x10 + c) (0x18)
/-- 11, card after R357. -/
def FC_INJ : Nat := adr 0x9 (0x0) (0x100)
/-- 11, card after R357. -/
def FC_INJ_SLOT (j : Nat) : Nat := adr 0x9 (0x0) (0x108 + 8 * j)
/-- 12, card after R377. -/
def KS_ID : Nat := adr 0x7 (0x0) (0x0)
/-- 12, card after R377. -/
def KS_INFO : Nat := adr 0x7 (0x0) (0x8)
/-- 12, card after R377. -/
def KS_STS : Nat := adr 0x7 (0x0) (0x10)
/-- 12, card after R377. -/
def KS_E_PKG : Nat := adr 0x7 (0x0) (0x18)
/-- 12, card after R377. -/
def KS_E_CH (n : Nat) : Nat := adr 0x7 (0x0) (0x20 + 8 * n)
/-- 12, card after R377. -/
def KS_CNT : Nat := adr 0x7 (0x0) (0x40)
/-- 12, card after R377. -/
def KS_RAIL (e : Nat) : Nat := adr 0x7 (0x1) (0x0 + 8 * e)
/-- 12, card after R377. -/
def KS_AUDIT (i w : Nat) : Nat := adr 0x7 (0x2) (0x0 + 32 * i + 8 * w)
/-- 12, card after R377. -/
def KS_PUBKEY (w : Nat) : Nat := adr 0x7 (0x3) (0x0 + 8 * w)
/-- 12, card after R377. -/
def HP_KS_MB : Nat := adr 0x0 (0x70) (0x0)
/-- 12, card after R377. -/
def HP_KS_MBAUX : Nat := adr 0x0 (0x70) (0x8)
/-- 12, card after R377. -/
def HP_KS_MBBUF (i : Nat) : Nat := adr 0x0 (0x70) (0x1000 + 8 * i)
/-- 13, card after R397. -/
def HP_BOOT_STS : Nat := adr 0x0 (0x80) (0x0)
/-- 13, card after R397. -/
def HP_FW_CMD : Nat := adr 0x0 (0x80) (0x8)
/-- 13, card after R397. -/
def HP_FW_ARG0 : Nat := adr 0x0 (0x80) (0x10)
/-- 13, card after R397. -/
def HP_FW_ARG1 : Nat := adr 0x0 (0x80) (0x18)
/-- 13, card after R397. -/
def HP_FW_STS : Nat := adr 0x0 (0x80) (0x20)
/-- 13, card after R397. -/
def HP_FW_VER : Nat := adr 0x0 (0x80) (0x28)
/-- 13, card after R397. -/
def HP_SVN : Nat := adr 0x0 (0x80) (0x30)
/-- 13, card after R397. -/
def HP_FW_COMP (i : Nat) : Nat := adr 0x0 (0x80) (0x100 + 8 * i)
/-- 13, card after R397. -/
def HP_CERT_CMD : Nat := adr 0x0 (0x80) (0x40)
/-- 13, card after R397. -/
def HP_CERT_ADDR : Nat := adr 0x0 (0x80) (0x48)
/-- 13, card after R397. -/
def HP_CERT (i : Nat) : Nat := adr 0x0 (0x80) (0x200 + 8 * i)
/-- 14, card after R401. -/
def HP_VCORE (n : Nat) : Nat := adr 0x0 (0x90) (0x0 + 8 * n)
/-- 14, card after R408. -/
def HP_THERM : Nat := adr 0x0 (0x90) (0x100)
/-- 14, card after R408. -/
def HP_THERM_OCC (g : Nat) : Nat := adr 0x0 (0x90) (0x180 + 8 * g)
/-- R299 (08): the registers of rope `r`: external rope `q = r + 1` for `r < 24`, interposer rope `r - 24` otherwise. -/
def ropeAdr (r o : Nat) : Nat := if r < 24 then adr 0x5 (0x80 + r) o else adr 0x6 (0x30 + (r - 24)) o
/-- Optical engine of external rope `r` (R4, Table 0-3). -/
def ropeOe (r : Nat) : Nat := if r < 12 then 2 * (r / 3) else 2 * ((r - 12) / 3) + 1
/-- Index of external rope `r` within its optical engine (R4). -/
def ropeInOe (r : Nat) : Nat := r % 3
/-- 08, card after R299: OE_ROPE_STS and PI_ROPE_STS, by rope `r` of `ropeAdr`. -/
def OE_ROPE_STS (r : Nat) : Nat := ropeAdr r 0x0
def OE_ROPE_PEER (r w : Nat) : Nat := ropeAdr r (0x8 + 8 * w)
def OE_ROPE_CNT (r w : Nat) : Nat := ropeAdr r (0x18 + 8 * w)
def OE_ROPE_CMD (r : Nat) : Nat := ropeAdr r 0x38
def OE_ROPE_EVT (r : Nat) : Nat := ropeAdr r 0x40
def OE_ROPE_OCC (r h : Nat) : Nat := ropeAdr r (0x48 + 8 * h)
/-- 07, cards after R260: OE_LAS_BIAS(k, 18r + l) and PI_LAS_BIAS(17r + l), by rope and wavelength. -/
def OE_LAS_BIAS (r l : Nat) : Nat :=
  if r < 24 then adr 0x5 (16 * ropeOe r + 1) (8 * (18 * ropeInOe r + l)) else adr 0x6 0x1 (8 * (17 * (r - 24) + l))
/-- 07, cards after R260: OE_STRAND(k, 18r + l) and PI_STRAND(17r + l), by rope and wavelength. -/
def OE_STRAND (r l : Nat) : Nat :=
  if r < 24 then adr 0x5 (16 * ropeOe r + 3) (8 * (18 * ropeInOe r + l)) else adr 0x6 0x3 (8 * (17 * (r - 24) + l))
/-- 06, cards after R220: CD_DMA_ENG(e, w) for `e < 64`, CH_DMA_HENG(e - 64, w) otherwise. -/
def CD_DMA_ENG (n e w : Nat) : Nat :=
  if e < 64 then adr (n + 1) 0x50 (32 * e + 8 * w) else adr (n + 1) 0x902 (0x100 + 32 * (e - 64) + 8 * w)
/-- 08, cards after R299: CD_TR_TX for endpoints 0-3 and HP_TR_TX for the hub (`n = 4`). -/
def CD_TR_TX (n i w : Nat) : Nat := if n < 4 then adr (n + 1) 0x71 (16 * i + 8 * w) else adr 0x0 0x40 (16 * i + 8 * w)
/-- 08, cards after R299: CD_TR_RX for endpoints 0-3 and HP_TR_RX for the hub (`n = 4`). -/
def CD_TR_RX (n i w : Nat) : Nat := if n < 4 then adr (n + 1) 0x72 (16 * i + 8 * w) else adr 0x0 0x41 (16 * i + 8 * w)
/-- 11, card after R357: the DF and C rings of collector slice `c`. -/
def FC_LOG_DF (c i w : Nat) : Nat := adr 0x9 (0x20 + c) (64 * i + 8 * w)
def FC_LOG_C (c i w : Nat) : Nat := adr 0x9 (0x30 + c) (64 * i + 8 * w)

def HP_CLK_LOSS_DOMAIN : Fld := ⟨HP_CLK_LOSS, 59, 0, 0⟩
def HP_CLK_LOSS_REFCLK : Fld := ⟨HP_CLK_LOSS, 63, 63, 60⟩
def HP_BL_STS_GOOD (l : Nat) : Fld := ⟨HP_BL_STS l, 4, 0, 0⟩
def HP_BL_STS_FAILED_NOW (l : Nat) : Fld := ⟨HP_BL_STS l, 9, 5, 0⟩
def HP_BL_STS_FUSED (l : Nat) : Fld := ⟨HP_BL_STS l, 15, 10, 0⟩
def HP_BL_STS_FIELD (l : Nat) : Fld := ⟨HP_BL_STS l, 21, 16, 0⟩
def HP_BL_STS_USABLE (l : Nat) : Fld := ⟨HP_BL_STS l, 22, 22, 0⟩
def HP_BL_STS_LINK_FAIL (l : Nat) : Fld := ⟨HP_BL_STS l, 23, 23, 0⟩
def HP_BL_STS_REPLAYS (l : Nat) : Fld := ⟨HP_BL_STS l, 39, 24, 0⟩
def HP_BL_RMAP_SEL_LINK : Fld := ⟨HP_BL_RMAP_SEL, 4, 0, 0⟩
def HP_BL_RMAP_SEL_BUNDLE : Fld := ⟨HP_BL_RMAP_SEL, 9, 5, 0⟩
def HP_BL_RMAP_SEL_DIR : Fld := ⟨HP_BL_RMAP_SEL, 10, 10, 0⟩
def HP_BL_RMAP_DATA_REPLACED : Fld := ⟨HP_BL_RMAP_DATA, 6, 0, 0⟩
def HP_BL_RMAP_DATA_SOURCE : Fld := ⟨HP_BL_RMAP_DATA, 7, 7, 0⟩
def HP_BL_RMAP_DATA_FAILED : Fld := ⟨HP_BL_RMAP_DATA, 8, 8, 0⟩
def HP_BL_RMAP_DATA_FAILED_NOW : Fld := ⟨HP_BL_RMAP_DATA, 9, 9, 0⟩
def HP_BL_RMAP_DATA_PRBS_ERR : Fld := ⟨HP_BL_RMAP_DATA, 41, 10, 0⟩
def HP_CAP_EFF_CH_ADMITTED : Fld := ⟨HP_CAP_EFF, 3, 0, 0⟩
def HP_CAP_EFF_OE_ADMITTED : Fld := ⟨HP_CAP_EFF, 11, 4, 0⟩
def HP_CAP_EFF_N3 : Fld := ⟨HP_CAP_EFF, 15, 12, 0⟩
def HP_CAP_EFF_SPAN01 : Fld := ⟨HP_CAP_EFF, 16, 16, 0⟩
def HP_CAP_EFF_SPAN23 : Fld := ⟨HP_CAP_EFF, 17, 17, 0⟩
def HP_CAP_EFF_SPAN0123 : Fld := ⟨HP_CAP_EFF, 18, 18, 0⟩
def HP_CAP_EFF_SPAN_KNOT_EXT : Fld := ⟨HP_CAP_EFF, 19, 19, 0⟩
def HP_CAP_EFF_CERT_ROPE : Fld := ⟨HP_CAP_EFF, 20, 20, 0⟩
def HP_CAP_EFF_CERT_AOR : Fld := ⟨HP_CAP_EFF, 21, 21, 0⟩
def HP_CAP_EFF_CERT_GUEST : Fld := ⟨HP_CAP_EFF, 22, 22, 0⟩
def HP_CAP_EFF_CERT_MERGE4 : Fld := ⟨HP_CAP_EFF, 23, 23, 0⟩
def GS_CTL_EN : Fld := ⟨GS_CTL, 0, 0, 0⟩
def GS_CTL_WIDTH8 : Fld := ⟨GS_CTL, 1, 1, 0⟩
def GS_CTL_VIOL_LIM : Fld := ⟨GS_CTL, 17, 2, 0⟩
def GS_CTL_LOCK : Fld := ⟨GS_CTL, 63, 63, 0⟩
def GS_TAG_ID : Fld := ⟨GS_TAG, 11, 0, 0⟩
def GS_TAG_SRC : Fld := ⟨GS_TAG, 15, 12, 0⟩
def GS_WIN_BASE (i : Nat) : Fld := ⟨GS_WIN i, 31, 0, 0⟩
def GS_WIN_SIZE (i : Nat) : Fld := ⟨GS_WIN i, 59, 32, 0⟩
def GS_WIN_R (i : Nat) : Fld := ⟨GS_WIN i, 60, 60, 0⟩
def GS_WIN_W (i : Nat) : Fld := ⟨GS_WIN i, 61, 61, 0⟩
def GS_WIN_EN (i : Nat) : Fld := ⟨GS_WIN i, 63, 63, 0⟩
def GS_RATE_RD_LINES : Fld := ⟨GS_RATE, 15, 0, 0⟩
def GS_RATE_WR_LINES : Fld := ⟨GS_RATE, 31, 16, 0⟩
def GS_RATE_REQS : Fld := ⟨GS_RATE, 47, 32, 0⟩
def GS_STS_TRAINED : Fld := ⟨GS_STS, 0, 0, 0⟩
def GS_STS_X8 : Fld := ⟨GS_STS, 1, 1, 0⟩
def GS_STS_FENCED : Fld := ⟨GS_STS, 2, 2, 0⟩
def GS_STS_VIOL : Fld := ⟨GS_STS, 3, 3, 0⟩
def GS_STS_VIOL_CNT : Fld := ⟨GS_STS, 35, 4, 0⟩
def CH_DIE_CMD_OP (n : Nat) : Fld := ⟨CH_DIE_CMD n, 3, 0, 0⟩
def CH_DIE_CMD_STATUS (n : Nat) : Fld := ⟨CH_DIE_CMD n, 7, 4, 0⟩
def CH_DIE_STS_STATE (n : Nat) : Fld := ⟨CH_DIE_STS n, 2, 0, 0⟩
def CH_DIE_STS_REJOIN (n : Nat) : Fld := ⟨CH_DIE_STS n, 3, 3, 0⟩
def CH_DIE_STS_CAUSE (n : Nat) : Fld := ⟨CH_DIE_STS n, 7, 4, 0⟩
def CH_DIE_STS_REFUSE (n : Nat) : Fld := ⟨CH_DIE_STS n, 11, 8, 0⟩
def CH_DIE_STS_LOST_CNT (n : Nat) : Fld := ⟨CH_DIE_STS n, 27, 12, 0⟩
def CD_HUB_STS_ABSENT (n : Nat) : Fld := ⟨CD_HUB_STS n, 0, 0, 0⟩
def CD_HUB_STS_WAIT_EXP (n : Nat) : Fld := ⟨CD_HUB_STS n, 1, 1, 1⟩
def CD_HUB_STS_LAST_US (n : Nat) : Fld := ⟨CD_HUB_STS n, 47, 16, 0⟩
def CD_HUB_STS_ATTACH_GEN (n : Nat) : Fld := ⟨CD_HUB_STS n, 63, 48, 0⟩
def CD_HUB_WAIT_LIM_LIM (n : Nat) : Fld := ⟨CD_HUB_WAIT_LIM n, 23, 0, 0⟩
def CD_SPD_MON_STEP (n i : Nat) : Fld := ⟨CD_SPD_MON n i, 19, 0, 0⟩
def CD_SPD_MON_STALE (n i : Nat) : Fld := ⟨CD_SPD_MON n i, 20, 20, 0⟩
def CD_SPD_MON_VALID (n i : Nat) : Fld := ⟨CD_SPD_MON n i, 21, 21, 0⟩
def CD_SPD_MON_SEQ (n i : Nat) : Fld := ⟨CD_SPD_MON n i, 47, 32, 0⟩
def CD_TEMP_TEMP (n i : Nat) : Fld := ⟨CD_TEMP n i, 15, 0, 0⟩
def CD_TEMP_STALE (n i : Nat) : Fld := ⟨CD_TEMP n i, 16, 16, 0⟩
def CD_TEMP_VALID (n i : Nat) : Fld := ⟨CD_TEMP n i, 17, 17, 0⟩
def CD_TEMP_TRIM_FUSED (n i : Nat) : Fld := ⟨CD_TEMP n i, 18, 18, 0⟩
def CD_TEMP_SEQ (n i : Nat) : Fld := ⟨CD_TEMP n i, 47, 32, 0⟩
def CD_BK_ARITH_RND (n b : Nat) : Fld := ⟨CD_BK_ARITH n b, 0, 0, 0⟩
def CD_BK_ARITH_BANK_F32 (n b : Nat) : Fld := ⟨CD_BK_ARITH n b, 7, 4, 0⟩
def CD_BK_ARITH_BANK_SATF (n b : Nat) : Fld := ⟨CD_BK_ARITH n b, 11, 8, 0⟩
def CD_BK_ARITH_BANK_ESCF (n b : Nat) : Fld := ⟨CD_BK_ARITH n b, 15, 12, 0⟩
def CD_BK_ARITH_BANK_EXP (n b : Nat) : Fld := ⟨CD_BK_ARITH n b, 47, 16, 0⟩
def CD_BK_ARITH_SHQ (n b : Nat) : Fld := ⟨CD_BK_ARITH n b, 50, 48, 0⟩
def CD_BK_SEED_STATE (n b : Nat) : Fld := ⟨CD_BK_SEED n b, 31, 0, 0⟩
def CD_BK_SGCTX_K (n b j : Nat) : Fld := ⟨CD_BK_SGCTX n b j, 3, 0, 0⟩
def CD_BK_SGCTX_PHASE (n b j : Nat) : Fld := ⟨CD_BK_SGCTX n b j, 13, 4, 0⟩
def CD_BK_SGCTX_TOL (n b j : Nat) : Fld := ⟨CD_BK_SGCTX n b j, 29, 14, 0⟩
def CD_BK_SGCTX_SAT_LIM (n b j : Nat) : Fld := ⟨CD_BK_SGCTX n b j, 40, 30, 0⟩
def CD_BK_SGCNT0_SAT_NARROW (n b : Nat) : Fld := ⟨CD_BK_SGCNT0 n b, 31, 0, 0⟩
def CD_BK_SGCNT0_UNDER_NARROW (n b : Nat) : Fld := ⟨CD_BK_SGCNT0 n b, 63, 32, 0⟩
def CD_BK_SGCNT1_CHECKS (n b : Nat) : Fld := ⟨CD_BK_SGCNT1 n b, 31, 0, 0⟩
def CD_BK_SGCNT1_TRIPS (n b : Nat) : Fld := ⟨CD_BK_SGCNT1 n b, 63, 32, 0⟩
def CD_BK_SGCNT2_ESC (n b : Nat) : Fld := ⟨CD_BK_SGCNT2 n b, 23, 0, 0⟩
def CD_BK_SGCNT2_POISON (n b : Nat) : Fld := ⟨CD_BK_SGCNT2 n b, 47, 24, 0⟩
def CD_BK_SGCNT2_MALFORMED (n b : Nat) : Fld := ⟨CD_BK_SGCNT2 n b, 63, 48, 0⟩
def CD_BK_SGCNT3_BLOCKS (n b : Nat) : Fld := ⟨CD_BK_SGCNT3 n b, 31, 0, 0⟩
def CD_BK_SGCNT3_SAT_STEP (n b : Nat) : Fld := ⟨CD_BK_SGCNT3 n b, 47, 32, 0⟩
def CD_BK_SGCNT3_STALL (n b : Nat) : Fld := ⟨CD_BK_SGCNT3 n b, 63, 48, 0⟩
def CD_BK_SGSTS_TRIP (n b : Nat) : Fld := ⟨CD_BK_SGSTS n b, 0, 0, 0⟩
def CD_BK_SGSTS_ESC (n b : Nat) : Fld := ⟨CD_BK_SGSTS n b, 1, 1, 1⟩
def CD_BK_SGSTS_POISON (n b : Nat) : Fld := ⟨CD_BK_SGSTS n b, 2, 2, 2⟩
def CD_BK_SGSTS_ACC_SAT (n b : Nat) : Fld := ⟨CD_BK_SGSTS n b, 3, 3, 3⟩
def CD_BK_SGOCC_TRIP_OCC (n b : Nat) : Fld := ⟨CD_BK_SGOCC n b, 15, 0, 0⟩
def CD_BK_SGOCC_ESC_OCC (n b : Nat) : Fld := ⟨CD_BK_SGOCC n b, 31, 16, 0⟩
def CD_BK_SGOCC_POISON_OCC (n b : Nat) : Fld := ⟨CD_BK_SGOCC n b, 47, 32, 0⟩
def CD_BK_SGOCC_ACC_SAT_OCC (n b : Nat) : Fld := ⟨CD_BK_SGOCC n b, 63, 48, 0⟩
def CD_PLY_PC_PC (n b q : Nat) : Fld := ⟨CD_PLY_PC n b q, 19, 3, 0⟩
def CD_PLY_STS_STATE (n b q : Nat) : Fld := ⟨CD_PLY_STS n b q, 2, 0, 0⟩
def CD_PLY_STS_TH (n b q : Nat) : Fld := ⟨CD_PLY_STS n b q, 3, 3, 0⟩
def CD_PLY_STS_DOUBLE (n b q : Nat) : Fld := ⟨CD_PLY_STS n b q, 4, 4, 0⟩
def CD_PLY_STS_CHK_PEND (n b q : Nat) : Fld := ⟨CD_PLY_STS n b q, 5, 5, 0⟩
def CD_PLY_STS_ESC_PEND (n b q : Nat) : Fld := ⟨CD_PLY_STS n b q, 6, 6, 0⟩
def CD_PLY_STS_ISSUED (n b q : Nat) : Fld := ⟨CD_PLY_STS n b q, 63, 32, 0⟩
def CD_PLY_CAUSE_CAUSE (n b q : Nat) : Fld := ⟨CD_PLY_CAUSE n b q, 7, 0, 0⟩
def CD_PLY_TVEC_EN (n b q : Nat) : Fld := ⟨CD_PLY_TVEC n b q, 0, 0, 0⟩
def CD_PLY_TVEC_BASE (n b q : Nat) : Fld := ⟨CD_PLY_TVEC n b q, 19, 3, 0⟩
def CD_PLY_EPC_EPC (n b q : Nat) : Fld := ⟨CD_PLY_EPC n b q, 19, 3, 0⟩
def CD_PLY_CMD_OP (n b q : Nat) : Fld := ⟨CD_PLY_CMD n b q, 3, 0, 0⟩
def CD_PLY_CMD_STATUS (n b q : Nat) : Fld := ⟨CD_PLY_CMD n b q, 7, 4, 0⟩
def CD_PLY_PRED_P0 (n b q : Nat) : Fld := ⟨CD_PLY_PRED n b q, 0, 0, 0⟩
def CD_PLY_PRED_P (n b q : Nat) : Fld := ⟨CD_PLY_PRED n b q, 7, 1, 0⟩
def CD_BK_ARRST_WACT (n b : Nat) : Fld := ⟨CD_BK_ARRST n b, 1, 0, 0⟩
def CD_BK_ARRST_CTX (n b : Nat) : Fld := ⟨CD_BK_ARRST n b, 4, 2, 0⟩
def CD_BK_ARRST_WBUSY (n b : Nat) : Fld := ⟨CD_BK_ARRST n b, 11, 8, 0⟩
def CD_BK_ACC_LO (n b k w : Nat) : Fld := ⟨CD_BK_ACC n b k w, 31, 0, 0⟩
def CD_BK_ACC_HI (n b k w : Nat) : Fld := ⟨CD_BK_ACC n b k w, 63, 32, 0⟩
def CD_BK_WPL_SHADOW (n b j : Nat) : Fld := ⟨CD_BK_WPL n b j 160, 19, 6, 0⟩
def CD_BK_WPL_MODE (n b j : Nat) : Fld := ⟨CD_BK_WPL n b j 160, 23, 20, 0⟩
def CD_ME_CTL_IBK (n b : Nat) : Fld := ⟨CD_ME_CTL n b, 15, 0, 0⟩
def CD_ME_CTL_IBK_EN (n b : Nat) : Fld := ⟨CD_ME_CTL n b, 16, 16, 0⟩
def CD_ME_CTL_STALL_LIM (n b : Nat) : Fld := ⟨CD_ME_CTL n b, 47, 32, 0⟩
def CD_ME_STS_OB_OCC (n b : Nat) : Fld := ⟨CD_ME_STS n b, 6, 0, 0⟩
def CD_ME_STS_IB_OCC (n b : Nat) : Fld := ⟨CD_ME_STS n b, 15, 7, 0⟩
def CD_ME_STS_IB_STALL (n b : Nat) : Fld := ⟨CD_ME_STS n b, 16, 16, 0⟩
def CD_ME_STS_BAD_DEST (n b : Nat) : Fld := ⟨CD_ME_STS n b, 17, 17, 1⟩
def CD_ME_STS_ESC_IN (n b : Nat) : Fld := ⟨CD_ME_STS n b, 18, 18, 2⟩
def CD_ME_STS_BAD_CNT (n b : Nat) : Fld := ⟨CD_ME_STS n b, 47, 32, 0⟩
def CD_ME_STS_OB_STALL (n b : Nat) : Fld := ⟨CD_ME_STS n b, 63, 48, 0⟩
def CD_ME_OCC_IB_STALL_OCC (n b : Nat) : Fld := ⟨CD_ME_OCC n b, 15, 0, 0⟩
def CD_ME_OCC_BAD_DEST_OCC (n b : Nat) : Fld := ⟨CD_ME_OCC n b, 31, 16, 0⟩
def CD_ME_OCC_ESC_IN_OCC (n b : Nat) : Fld := ⟨CD_ME_OCC n b, 47, 32, 0⟩
def CD_ME_TALLY_KNOT (n b t : Nat) : Fld := ⟨CD_ME_TALLY n b t, 15, 0, 0⟩
def CD_ME_TALLY_EVERY (n b t : Nat) : Fld := ⟨CD_ME_TALLY n b t, 31, 16, 0⟩
def CD_ME_TALLY_COUNT (n b t : Nat) : Fld := ⟨CD_ME_TALLY n b t, 47, 32, 0⟩
def CD_ME_TALLY_ARRIVALS (n b t : Nat) : Fld := ⟨CD_ME_TALLY n b t, 63, 48, 0⟩
def CD_ME_VT_BASE (n b i : Nat) : Fld := ⟨CD_ME_VT n b i, 14, 0, 0⟩
def CD_ME_VT_STRIDE (n b i : Nat) : Fld := ⟨CD_ME_VT n b i, 22, 15, 0⟩
def CD_ME_VT_LAST (n b i : Nat) : Fld := ⟨CD_ME_VT n b i, 26, 23, 0⟩
def CD_ME_VT_RFMT (n b i : Nat) : Fld := ⟨CD_ME_VT n b i, 30, 27, 0⟩
def CD_ME_VT_VALID (n b i : Nat) : Fld := ⟨CD_ME_VT n b i, 31, 31, 0⟩
def CD_ME_VT_SBASE (n b i : Nat) : Fld := ⟨CD_ME_VT n b i, 49, 32, 0⟩
def CD_ME_VT_SEP (n b i : Nat) : Fld := ⟨CD_ME_VT n b i, 50, 50, 0⟩
def CD_ME_VT_NOFLAG (n b i : Nat) : Fld := ⟨CD_ME_VT n b i, 51, 51, 0⟩
def CD_DIR_BASE (n : Nat) : Fld := ⟨CD_DIR n, 26, 0, 0⟩
def CD_DIR_LEN (n : Nat) : Fld := ⟨CD_DIR n, 51, 27, 0⟩
def CD_DIR_EN (n : Nat) : Fld := ⟨CD_DIR n, 63, 63, 0⟩
def CD_DIR_FIRST_FIRST (n : Nat) : Fld := ⟨CD_DIR_FIRST n, 39, 0, 0⟩
def CD_KNOT_COUNT (n i : Nat) : Fld := ⟨CD_KNOT n i, 15, 0, 0⟩
def CD_KNOT_TARGET (n i : Nat) : Fld := ⟨CD_KNOT n i, 31, 16, 0⟩
def CD_KNOT_GEN (n i : Nat) : Fld := ⟨CD_KNOT n i, 47, 32, 0⟩
def CD_KNOT_ARMED (n i : Nat) : Fld := ⟨CD_KNOT n i, 48, 48, 0⟩
def CD_KNOT_AUTO (n i : Nat) : Fld := ⟨CD_KNOT n i, 49, 49, 0⟩
def CD_KNOT_STRAY (n i : Nat) : Fld := ⟨CD_KNOT n i, 50, 50, 0⟩
def CD_KNOT_WAIT_COURSES (n i : Nat) : Fld := ⟨CD_KNOT_WAIT n i, 15, 0, 0⟩
def CD_KNOT_WAIT_DIES (n i : Nat) : Fld := ⟨CD_KNOT_WAIT n i, 19, 16, 0⟩
def CD_KNOT_WAIT_STRAY_OCC (n i : Nat) : Fld := ⟨CD_KNOT_WAIT n i, 47, 32, 0⟩
def HP_SKNOT_COUNT (i : Nat) : Fld := ⟨HP_SKNOT i, 15, 0, 0⟩
def HP_SKNOT_TARGET (i : Nat) : Fld := ⟨HP_SKNOT i, 31, 16, 0⟩
def HP_SKNOT_GEN (i : Nat) : Fld := ⟨HP_SKNOT i, 47, 32, 0⟩
def HP_SKNOT_ARMED (i : Nat) : Fld := ⟨HP_SKNOT i, 48, 48, 0⟩
def HP_SKNOT_AUTO (i : Nat) : Fld := ⟨HP_SKNOT i, 49, 49, 0⟩
def HP_SKNOT_STRAY (i : Nat) : Fld := ⟨HP_SKNOT i, 50, 50, 0⟩
def HP_SKNOT_SPAN (i : Nat) : Fld := ⟨HP_SKNOT i, 53, 52, 0⟩
def HP_SKNOT_DIES (i : Nat) : Fld := ⟨HP_SKNOT i, 59, 56, 0⟩
def HP_SKNOT_OCC_STRAY_OCC (i : Nat) : Fld := ⟨HP_SKNOT_OCC i, 15, 0, 0⟩
def CD_BK_SCHED_PRIO (n b : Nat) : Fld := ⟨CD_BK_SCHED n b, 3, 0, 0⟩
def CD_BK_SCHED_SB_USED (n b : Nat) : Fld := ⟨CD_BK_SCHED n b, 13, 8, 0⟩
def CD_BK_SCHED_SB_FULL (n b : Nat) : Fld := ⟨CD_BK_SCHED n b, 31, 16, 0⟩
def CD_BK_LSLOT_EPOCH (n b i : Nat) : Fld := ⟨CD_BK_LSLOT n b i, 47, 0, 0⟩
def CD_BK_LSLOT_ARMED (n b i : Nat) : Fld := ⟨CD_BK_LSLOT n b i, 48, 48, 0⟩
def CD_BK_LSLOT_LATE (n b i : Nat) : Fld := ⟨CD_BK_LSLOT n b i, 49, 49, 0⟩
def CD_BK_LSLOT_HELD (n b i : Nat) : Fld := ⟨CD_BK_LSLOT n b i, 50, 50, 0⟩
def CD_BK_LSLOT_ADM (n b i : Nat) : Fld := ⟨CD_BK_LSLOT n b i, 51, 51, 0⟩
def CD_BK_LSARG_ARG (n b i : Nat) : Fld := ⟨CD_BK_LSARG n b i, 19, 0, 0⟩
def CD_PLY_WAIT_KIND (n b q : Nat) : Fld := ⟨CD_PLY_WAIT n b q, 3, 0, 0⟩
def CD_PLY_WAIT_OBJ (n b q : Nat) : Fld := ⟨CD_PLY_WAIT n b q, 51, 4, 0⟩
def CD_EPOCH_EPOCH (n : Nat) : Fld := ⟨CD_EPOCH n, 47, 0, 0⟩
def CD_EPOCH_STALE (n : Nat) : Fld := ⟨CD_EPOCH n, 48, 48, 0⟩
def HP_SPAN_CMD_OP : Fld := ⟨HP_SPAN_CMD, 1, 0, 0⟩
def HP_SPAN_CMD_SPAN : Fld := ⟨HP_SPAN_CMD, 3, 2, 0⟩
def HP_SPAN_CMD_FORCE : Fld := ⟨HP_SPAN_CMD, 4, 4, 0⟩
def HP_SPAN_CMD_STATUS : Fld := ⟨HP_SPAN_CMD, 11, 8, 0⟩
def HP_SPAN_CMD_REASON : Fld := ⟨HP_SPAN_CMD, 15, 12, 0⟩
def HP_SPAN_STS_S01 : Fld := ⟨HP_SPAN_STS, 1, 0, 0⟩
def HP_SPAN_STS_S23 : Fld := ⟨HP_SPAN_STS, 3, 2, 0⟩
def HP_SPAN_STS_S0123 : Fld := ⟨HP_SPAN_STS, 5, 4, 0⟩
def HP_SPAN_STS_LOST : Fld := ⟨HP_SPAN_STS, 9, 6, 0⟩
def HP_SPAN_STS_LOST_MSG : Fld := ⟨HP_SPAN_STS, 47, 16, 0⟩
def CH_SLEW_CTL_LIM (n : Nat) : Fld := ⟨CH_SLEW_CTL n, 11, 0, 0⟩
def CH_SLEW_STS_P_EST (n : Nat) : Fld := ⟨CH_SLEW_STS n, 11, 0, 0⟩
def CH_SLEW_STS_E (n : Nat) : Fld := ⟨CH_SLEW_STS n, 23, 12, 0⟩
def CH_SLEW_STS_OVER (n : Nat) : Fld := ⟨CH_SLEW_STS n, 24, 24, 0⟩
def CH_SLEW_STS_DEFER (n : Nat) : Fld := ⟨CH_SLEW_STS n, 47, 32, 0⟩
def CH_SLEW_STS_OVER_OCC (n : Nat) : Fld := ⟨CH_SLEW_STS n, 63, 48, 0⟩
def CH_SAT_NS (n r : Nat) : Fld := ⟨CH_SAT n r, 47, 0, 0⟩
def CH_ADM_CTL_ALLOW (n : Nat) : Fld := ⟨CH_ADM_CTL n, 5, 0, 0⟩
def CH_ADM_CTL_EN (n : Nat) : Fld := ⟨CH_ADM_CTL n, 6, 6, 0⟩
def CH_ADM_SUBMIT_ADDR (n : Nat) : Fld := ⟨CH_ADM_SUBMIT n, 51, 6, 0⟩
def CH_ADM_SUBMIT_STATUS (n : Nat) : Fld := ⟨CH_ADM_SUBMIT n, 55, 52, 0⟩
def CH_ADM_STS_LIVE (n : Nat) : Fld := ⟨CH_ADM_STS n, 12, 0, 0⟩
def CH_ADM_STS_VLOCK (n : Nat) : Fld := ⟨CH_ADM_STS n, 13, 13, 0⟩
def CH_ADM_STS_PRQ_FULL (n : Nat) : Fld := ⟨CH_ADM_STS n, 14, 14, 0⟩
def CH_ADM_STS_REFUSED (n : Nat) : Fld := ⟨CH_ADM_STS n, 39, 16, 0⟩
def CH_ADM_STS_BROKEN (n : Nat) : Fld := ⟨CH_ADM_STS n, 63, 40, 0⟩
def CH_ADM_AVAIL_PLIES (n : Nat) : Fld := ⟨CH_ADM_AVAIL n, 10, 0, 0⟩
def CH_ADM_AVAIL_DMA (n : Nat) : Fld := ⟨CH_ADM_AVAIL n, 17, 11, 0⟩
def CH_ADM_AVAIL_MORTAR (n : Nat) : Fld := ⟨CH_ADM_AVAIL n, 24, 18, 0⟩
def CH_ADM_AVAIL_HOST (n : Nat) : Fld := ⟨CH_ADM_AVAIL n, 29, 25, 0⟩
def CH_ADM_ROPES_FREE (n : Nat) : Fld := ⟨CH_ADM_ROPES n, 39, 0, 0⟩
def CH_PIN_CAP_BED_FREE (n : Nat) : Fld := ⟨CH_PIN_CAP n, 11, 0, 0⟩
def CH_PIN_CAP_HBM_FREE (n : Nat) : Fld := ⟨CH_PIN_CAP n, 35, 12, 0⟩
def CH_PIN_CAP_XLT_FREE (n : Nat) : Fld := ⟨CH_PIN_CAP n, 51, 36, 0⟩
def CH_ADM_PRQ_SIZE (n : Nat) : Fld := ⟨CH_ADM_PRQ n, 3, 0, 0⟩
def CH_ADM_PRQ_BASE (n : Nat) : Fld := ⟨CH_ADM_PRQ n, 51, 12, 0⟩
def CH_ADM_PRQ_PTR_TAIL (n : Nat) : Fld := ⟨CH_ADM_PRQ_PTR n, 15, 0, 0⟩
def CH_ADM_PRQ_PTR_HEAD (n : Nat) : Fld := ⟨CH_ADM_PRQ_PTR n, 31, 16, 0⟩
def CH_LEDGER_STATE (n i : Nat) : Fld := ⟨CH_LEDGER n i 0, 2, 0, 0⟩
def CH_LEDGER_P (n i : Nat) : Fld := ⟨CH_LEDGER n i 0, 3, 3, 0⟩
def CH_LEDGER_KIND (n i : Nat) : Fld := ⟨CH_LEDGER n i 0, 6, 4, 0⟩
def CH_LEDGER_RISK (n i : Nat) : Fld := ⟨CH_LEDGER n i 0, 15, 8, 0⟩
def CH_LEDGER_TAG (n i : Nat) : Fld := ⟨CH_LEDGER n i 0, 47, 16, 0⟩
def CH_LEDGER_SPLICES (n i : Nat) : Fld := ⟨CH_LEDGER n i 0, 55, 48, 0⟩
def CH_LEDGER_END (n i : Nat) : Fld := ⟨CH_LEDGER n i 0, 59, 56, 0⟩
def CH_LEDGER_DEADLINE (n i : Nat) : Fld := ⟨CH_LEDGER n i 2, 47, 0, 0⟩
def CH_LEDGER_EPOCH (n i : Nat) : Fld := ⟨CH_LEDGER n i 1, 47, 0, 0⟩
def CH_LEDGER_MODEL (n i : Nat) : Fld := ⟨CH_LEDGER n i 3, 31, 0, 0⟩
def CH_LEDGER_LATE (n i : Nat) : Fld := ⟨CH_LEDGER n i 3, 63, 32, 0⟩
def CH_XLT_ROOT_V (n a : Nat) : Fld := ⟨CH_XLT_ROOT n a, 0, 0, 0⟩
def CH_XLT_ROOT_BASE (n a : Nat) : Fld := ⟨CH_XLT_ROOT n a, 51, 9, 0⟩
def CH_XLT_INV_OP (n : Nat) : Fld := ⟨CH_XLT_INV n, 2, 0, 0⟩
def CH_XLT_INV_ASID (n : Nat) : Fld := ⟨CH_XLT_INV n, 10, 3, 0⟩
def CH_XLT_INV_VA (n : Nat) : Fld := ⟨CH_XLT_INV n, 47, 16, 0⟩
def CH_XLT_INV_STATUS (n : Nat) : Fld := ⟨CH_XLT_INV n, 51, 48, 0⟩
def CH_XLT_INV_LOCKED_SKIP (n : Nat) : Fld := ⟨CH_XLT_INV n, 63, 52, 0⟩
def CH_PIN_POOL_BASE (n t : Nat) : Fld := ⟨CH_PIN_POOL n t, 35, 0, 0⟩
def CH_PIN_POOL_COUNT (n t : Nat) : Fld := ⟨CH_PIN_POOL n t, 59, 36, 0⟩
def CD_BK_DMA_ASID (n b : Nat) : Fld := ⟨CD_BK_DMA n b, 7, 0, 0⟩
def CD_BK_DMA_OUT (n b : Nat) : Fld := ⟨CD_BK_DMA n b, 11, 8, 0⟩
def CD_BK_DMA_NEXT_TICKET (n b : Nat) : Fld := ⟨CD_BK_DMA n b, 27, 12, 0⟩
def CD_DMA_ENG_STATE (n e : Nat) : Fld := ⟨CD_DMA_ENG n e 0, 2, 0, 0⟩
def CD_DMA_ENG_RSVD (n e : Nat) : Fld := ⟨CD_DMA_ENG n e 0, 3, 3, 0⟩
def CD_DMA_ENG_ENTRY (n e : Nat) : Fld := ⟨CD_DMA_ENG n e 0, 15, 4, 0⟩
def CD_DMA_ENG_KIND (n e : Nat) : Fld := ⟨CD_DMA_ENG n e 0, 19, 16, 0⟩
def CD_DMA_ENG_TICKET (n e : Nat) : Fld := ⟨CD_DMA_ENG n e 0, 35, 20, 0⟩
def CD_DMA_ENG_RESENT (n e : Nat) : Fld := ⟨CD_DMA_ENG n e 0, 47, 36, 0⟩
def CD_DMA_ENG_PARK_OCC (n e : Nat) : Fld := ⟨CD_DMA_ENG n e 0, 63, 48, 0⟩
def CD_DMA_ENG_POS (n e : Nat) : Fld := ⟨CD_DMA_ENG n e 2, 39, 0, 0⟩
def CD_DMA_ENG_BLOCK (n e : Nat) : Fld := ⟨CD_DMA_ENG n e 2, 63, 40, 0⟩
def CH_DMA_CMD_OP (n : Nat) : Fld := ⟨CH_DMA_CMD n, 3, 0, 0⟩
def CH_DMA_CMD_ENGINE (n : Nat) : Fld := ⟨CH_DMA_CMD n, 10, 4, 0⟩
def CH_DMA_CMD_STATUS (n : Nat) : Fld := ⟨CH_DMA_CMD n, 15, 12, 0⟩
def CH_FQ_SIZE (n : Nat) : Fld := ⟨CH_FQ n, 3, 0, 0⟩
def CH_FQ_BASE (n : Nat) : Fld := ⟨CH_FQ n, 51, 12, 0⟩
def CH_FQ_PTR_TAIL (n : Nat) : Fld := ⟨CH_FQ_PTR n, 15, 0, 0⟩
def CH_FQ_PTR_HEAD (n : Nat) : Fld := ⟨CH_FQ_PTR n, 31, 16, 0⟩
def CH_FQ_KN_KNOT (n : Nat) : Fld := ⟨CH_FQ_KN n, 15, 0, 0⟩
def CH_FQ_KN_EN (n : Nat) : Fld := ⟨CH_FQ_KN n, 16, 16, 0⟩
def CH_FQ_STS_FULL (n : Nat) : Fld := ⟨CH_FQ_STS n, 0, 0, 0⟩
def CH_FQ_STS_FULL_OCC (n : Nat) : Fld := ⟨CH_FQ_STS n, 31, 16, 0⟩
def CH_FQ_STS_RECORDS (n : Nat) : Fld := ⟨CH_FQ_STS n, 63, 32, 0⟩
def CD_HBM_STS_STATE (n k : Nat) : Fld := ⟨CD_HBM_STS n k, 2, 0, 0⟩
def CD_HBM_STS_UE (n k : Nat) : Fld := ⟨CD_HBM_STS n k, 3, 3, 0⟩
def CD_HBM_STS_UE_OCC (n k : Nat) : Fld := ⟨CD_HBM_STS n k, 31, 16, 0⟩
def CD_HBM_STS_CE_CNT (n k : Nat) : Fld := ⟨CD_HBM_STS n k, 47, 32, 0⟩
def CD_HBM_STS_TEMP (n k : Nat) : Fld := ⟨CD_HBM_STS n k, 55, 48, 0⟩
def CH_PRE_SUBMIT_ADDR (n : Nat) : Fld := ⟨CH_PRE_SUBMIT n, 51, 6, 0⟩
def CH_PRE_SUBMIT_STATUS (n : Nat) : Fld := ⟨CH_PRE_SUBMIT n, 55, 52, 0⟩
def CH_PRE_RESP_REQ (n : Nat) : Fld := ⟨CH_PRE_RESP n, 5, 0, 0⟩
def CH_PRE_RESP_ACCEPTED (n : Nat) : Fld := ⟨CH_PRE_RESP n, 6, 6, 0⟩
def CH_PRE_RESP_REASON (n : Nat) : Fld := ⟨CH_PRE_RESP n, 11, 8, 0⟩
def CH_PRE_REQ_STATE (n k : Nat) : Fld := ⟨CH_PRE_REQ n k, 3, 0, 0⟩
def CH_PRE_REQ_PLIES (n k : Nat) : Fld := ⟨CH_PRE_REQ n k, 7, 4, 0⟩
def CH_PRE_REQ_STOPPED (n k : Nat) : Fld := ⟨CH_PRE_REQ n k, 11, 8, 0⟩
def CH_PRE_REQ_BRICK (n k : Nat) : Fld := ⟨CH_PRE_REQ n k, 20, 12, 0⟩
def CH_PRE_REQ_DIE (n k : Nat) : Fld := ⟨CH_PRE_REQ n k, 22, 21, 0⟩
def CH_PRE_REQ_KIND (n k : Nat) : Fld := ⟨CH_PRE_REQ n k, 27, 24, 0⟩
def CH_PRE_REQ_TAG (n k : Nat) : Fld := ⟨CH_PRE_REQ n k, 63, 32, 0⟩
def OE_STS_STATE (k : Nat) : Fld := ⟨OE_STS k, 2, 0, 0⟩
def OE_STS_WREF (k : Nat) : Fld := ⟨OE_STS k, 3, 3, 0⟩
def OE_STS_OPEN_FIBRE (k : Nat) : Fld := ⟨OE_STS k, 6, 4, 0⟩
def OE_STS_LAST_OL_US (k : Nat) : Fld := ⟨OE_STS k, 31, 16, 0⟩
def OE_CMD_OP (k : Nat) : Fld := ⟨OE_CMD k, 3, 0, 0⟩
def OE_CMD_ROPE (k : Nat) : Fld := ⟨OE_CMD k, 5, 4, 0⟩
def OE_CMD_S (k : Nat) : Fld := ⟨OE_CMD k, 11, 6, 0⟩
def OE_CMD_STATUS (k : Nat) : Fld := ⟨OE_CMD k, 15, 12, 0⟩
def OE_EVT_WARN (k : Nat) : Fld := ⟨OE_EVT k, 0, 0, 0⟩
def OE_EVT_MIGRATE (k : Nat) : Fld := ⟨OE_EVT k, 1, 1, 1⟩
def OE_EVT_FAIL (k : Nat) : Fld := ⟨OE_EVT k, 2, 2, 2⟩
def OE_EVT_DEATH (k : Nat) : Fld := ⟨OE_EVT k, 3, 3, 3⟩
def OE_EVT_DEGRADED (k : Nat) : Fld := ⟨OE_EVT k, 4, 4, 4⟩
def OE_EVT_CAL_FAIL (k : Nat) : Fld := ⟨OE_EVT k, 5, 5, 5⟩
def OE_EVT_NO_SPARE (k : Nat) : Fld := ⟨OE_EVT k, 6, 6, 6⟩
def OE_EVT_OPEN_FIBRE (k : Nat) : Fld := ⟨OE_EVT k, 7, 7, 7⟩
def OE_LAS_BIAS_BIAS (r l : Nat) : Fld := ⟨OE_LAS_BIAS r l, 13, 0, 0⟩
def OE_LAS_BIAS_BFM (r l : Nat) : Fld := ⟨OE_LAS_BIAS r l, 23, 14, 0⟩
def OE_LAS_BIAS_STATE (r l : Nat) : Fld := ⟨OE_LAS_BIAS r l, 26, 24, 0⟩
def OE_LAS_BIAS_STALE (r l : Nat) : Fld := ⟨OE_LAS_BIAS r l, 27, 27, 0⟩
def OE_LAS_BIAS_HIGH (r l : Nat) : Fld := ⟨OE_LAS_BIAS r l, 28, 28, 0⟩
def OE_LAS_BIAS_SAVED_BIAS (r l : Nat) : Fld := ⟨OE_LAS_BIAS r l, 45, 32, 0⟩
def OE_LAS_BIAS_SAVED_HTR (r l : Nat) : Fld := ⟨OE_LAS_BIAS r l, 61, 46, 0⟩
def OE_RING_CODE (k i : Nat) : Fld := ⟨OE_RING k i, 13, 0, 0⟩
def OE_RING_ENGAGED (k i : Nat) : Fld := ⟨OE_RING k i, 14, 14, 0⟩
def OE_RING_PRESENT (k i : Nat) : Fld := ⟨OE_RING k i, 15, 15, 0⟩
def OE_RING_OFFSET (k i : Nat) : Fld := ⟨OE_RING k i, 31, 16, 0⟩
def OE_RING_TRACK (k i : Nat) : Fld := ⟨OE_RING k i, 39, 32, 0⟩
def OE_RING_PILOT (k i : Nat) : Fld := ⟨OE_RING k i, 44, 40, 0⟩
def OE_RING_DEGRADED (k i : Nat) : Fld := ⟨OE_RING k i, 45, 45, 0⟩
def OE_RING_STALE (k i : Nat) : Fld := ⟨OE_RING k i, 46, 46, 0⟩
def OE_RING_FAILED (k i : Nat) : Fld := ⟨OE_RING k i, 47, 47, 0⟩
def OE_RING_PCORR (k i : Nat) : Fld := ⟨OE_RING k i, 63, 48, 0⟩
def OE_STRAND_MARGIN (r l : Nat) : Fld := ⟨OE_STRAND r l, 15, 0, 0⟩
def OE_STRAND_RX_MARGIN (r l : Nat) : Fld := ⟨OE_STRAND r l, 31, 16, 0⟩
def OE_STRAND_LOGICAL (r l : Nat) : Fld := ⟨OE_STRAND r l, 35, 32, 0⟩
def OE_STRAND_LEVEL (r l : Nat) : Fld := ⟨OE_STRAND r l, 37, 36, 0⟩
def OE_STRAND_DEGRADED (r l : Nat) : Fld := ⟨OE_STRAND r l, 38, 38, 0⟩
def OE_STRAND_STALE (r l : Nat) : Fld := ⟨OE_STRAND r l, 39, 39, 0⟩
def OE_STRAND_REPORTS (r l : Nat) : Fld := ⟨OE_STRAND r l, 63, 48, 0⟩
def OE_CAL_CTL_PERIOD : Fld := ⟨OE_CAL_CTL, 7, 0, 0⟩
def OE_CAL_CTL_DRIFT : Fld := ⟨OE_CAL_CTL, 15, 8, 0⟩
def PI_EVT_FLAGS : Fld := ⟨PI_EVT, 6, 0, 0⟩
def PI_EVT_STEER_REFUSED : Fld := ⟨PI_EVT, 7, 7, 7⟩
def PI_EVT_AOR_FALLBACK : Fld := ⟨PI_EVT, 8, 8, 8⟩
def PI_EVT_AOR_ERROR : Fld := ⟨PI_EVT, 9, 9, 9⟩
def PI_STEER_CFG_DEST (c : Nat) : Fld := ⟨PI_STEER_CFG c, 49, 0, 0⟩
def PI_STEER_CFG_VALID (c : Nat) : Fld := ⟨PI_STEER_CFG c, 63, 63, 0⟩
def PI_STEER_CMD_OP : Fld := ⟨PI_STEER_CMD, 3, 0, 0⟩
def PI_STEER_CMD_CFG : Fld := ⟨PI_STEER_CMD, 6, 4, 0⟩
def PI_STEER_CMD_MASK : Fld := ⟨PI_STEER_CMD, 16, 7, 0⟩
def PI_STEER_CMD_STATUS : Fld := ⟨PI_STEER_CMD, 23, 20, 0⟩
def PI_STEER_CMD_REASON : Fld := ⟨PI_STEER_CMD, 27, 24, 0⟩
def PI_STEER_STS_DEST : Fld := ⟨PI_STEER_STS, 49, 0, 0⟩
def PI_STEER_STS_QUEUED : Fld := ⟨PI_STEER_STS, 54, 50, 0⟩
def PI_STEER_STS_BUSY : Fld := ⟨PI_STEER_STS, 55, 55, 0⟩
def PI_STEER_TRIG_KNOT (t : Nat) : Fld := ⟨PI_STEER_TRIG t, 9, 0, 0⟩
def PI_STEER_TRIG_CFG (t : Nat) : Fld := ⟨PI_STEER_TRIG t, 12, 10, 0⟩
def PI_STEER_TRIG_MASK (t : Nat) : Fld := ⟨PI_STEER_TRIG t, 22, 13, 0⟩
def PI_STEER_TRIG_EN (t : Nat) : Fld := ⟨PI_STEER_TRIG t, 23, 23, 0⟩
def PI_STEER_TRIG_FIRED (t : Nat) : Fld := ⟨PI_STEER_TRIG t, 47, 32, 0⟩
def PI_AOR_CMD_OP : Fld := ⟨PI_AOR_CMD, 3, 0, 0⟩
def PI_AOR_CMD_SESS : Fld := ⟨PI_AOR_CMD, 7, 4, 0⟩
def PI_AOR_CMD_ADDR : Fld := ⟨PI_AOR_CMD, 53, 8, 0⟩
def PI_AOR_CMD_STATUS : Fld := ⟨PI_AOR_CMD, 57, 54, 0⟩
def PI_AOR_CMD_REASON : Fld := ⟨PI_AOR_CMD, 61, 58, 0⟩
def PI_AOR_STS_STATE (s : Nat) : Fld := ⟨PI_AOR_STS s 0, 2, 0, 0⟩
def PI_AOR_STS_END (s : Nat) : Fld := ⟨PI_AOR_STS s 0, 6, 3, 0⟩
def PI_AOR_STS_RX (s : Nat) : Fld := ⟨PI_AOR_STS s 0, 10, 8, 0⟩
def PI_AOR_STS_NSRC (s : Nat) : Fld := ⟨PI_AOR_STS s 0, 15, 11, 0⟩
def PI_AOR_STS_PEND (s : Nat) : Fld := ⟨PI_AOR_STS s 0, 31, 16, 0⟩
def PI_AOR_STS_DONE (s : Nat) : Fld := ⟨PI_AOR_STS s 0, 63, 32, 0⟩
def PI_AOR_STS_SAT (s : Nat) : Fld := ⟨PI_AOR_STS s 1, 31, 0, 0⟩
def PI_AOR_STS_POISON (s : Nat) : Fld := ⟨PI_AOR_STS s 1, 63, 32, 0⟩
def PI_AOR_CHK_CHECKS (s : Nat) : Fld := ⟨PI_AOR_CHK s, 15, 0, 0⟩
def PI_AOR_CHK_TRIPS (s : Nat) : Fld := ⟨PI_AOR_CHK s, 31, 16, 0⟩
def PI_AOR_CHK_ENOB_EST (s : Nat) : Fld := ⟨PI_AOR_CHK s, 39, 32, 0⟩
def PI_AOR_CHK_STALE (s : Nat) : Fld := ⟨PI_AOR_CHK s, 40, 40, 0⟩
def PI_AOR_SRC_GAIN (s j : Nat) : Fld := ⟨PI_AOR_SRC s j, 15, 0, 0⟩
def PI_AOR_SRC_OFFSET (s j : Nat) : Fld := ⟨PI_AOR_SRC s j, 27, 16, 0⟩
def PI_AOR_SRC_STALE (s j : Nat) : Fld := ⟨PI_AOR_SRC s j, 28, 28, 0⟩
def PI_AOR_SRC_ALIGN (s j : Nat) : Fld := ⟨PI_AOR_SRC s j, 47, 32, 0⟩
def OE_ROPE_STS_STATE (r : Nat) : Fld := ⟨OE_ROPE_STS r, 2, 0, 0⟩
def OE_ROPE_STS_TX15 (r : Nat) : Fld := ⟨OE_ROPE_STS r, 3, 3, 0⟩
def OE_ROPE_STS_RX15 (r : Nat) : Fld := ⟨OE_ROPE_STS r, 4, 4, 0⟩
def OE_ROPE_STS_SPLICE (r : Nat) : Fld := ⟨OE_ROPE_STS r, 5, 5, 0⟩
def OE_ROPE_STS_LEAD (r : Nat) : Fld := ⟨OE_ROPE_STS r, 6, 6, 0⟩
def OE_ROPE_STS_ACK_TX (r : Nat) : Fld := ⟨OE_ROPE_STS r, 19, 8, 0⟩
def OE_ROPE_STS_ACK_RX (r : Nat) : Fld := ⟨OE_ROPE_STS r, 31, 20, 0⟩
def OE_ROPE_STS_UNACK (r : Nat) : Fld := ⟨OE_ROPE_STS r, 43, 32, 0⟩
def OE_ROPE_STS_REORD (r : Nat) : Fld := ⟨OE_ROPE_STS r, 53, 44, 0⟩
def OE_ROPE_STS_ATTEMPT (r : Nat) : Fld := ⟨OE_ROPE_STS r, 55, 54, 0⟩
def OE_ROPE_PEER_RANK (r : Nat) : Fld := ⟨OE_ROPE_PEER r 1, 3, 0, 0⟩
def OE_ROPE_PEER_ROPE (r : Nat) : Fld := ⟨OE_ROPE_PEER r 1, 8, 4, 0⟩
def OE_ROPE_PEER_CHAN (r : Nat) : Fld := ⟨OE_ROPE_PEER r 1, 10, 9, 0⟩
def OE_ROPE_PEER_CERT (r : Nat) : Fld := ⟨OE_ROPE_PEER r 1, 11, 11, 0⟩
def OE_ROPE_CNT_TX (r : Nat) : Fld := ⟨OE_ROPE_CNT r 0, 31, 0, 0⟩
def OE_ROPE_CNT_RX (r : Nat) : Fld := ⟨OE_ROPE_CNT r 0, 63, 32, 0⟩
def OE_ROPE_CNT_CRC_FAIL (r : Nat) : Fld := ⟨OE_ROPE_CNT r 1, 31, 0, 0⟩
def OE_ROPE_CNT_RESENT (r : Nat) : Fld := ⟨OE_ROPE_CNT r 1, 63, 32, 0⟩
def OE_ROPE_CNT_UNCORR (r : Nat) : Fld := ⟨OE_ROPE_CNT r 2, 31, 0, 0⟩
def OE_ROPE_CNT_REPLAYS (r : Nat) : Fld := ⟨OE_ROPE_CNT r 2, 47, 32, 0⟩
def OE_ROPE_CNT_RETRAINS (r : Nat) : Fld := ⟨OE_ROPE_CNT r 2, 63, 48, 0⟩
def OE_ROPE_CNT_CORR_SYM (r : Nat) : Fld := ⟨OE_ROPE_CNT r 3, 31, 0, 0⟩
def OE_ROPE_CNT_DUP (r : Nat) : Fld := ⟨OE_ROPE_CNT r 3, 47, 32, 0⟩
def OE_ROPE_CNT_DROPPED (r : Nat) : Fld := ⟨OE_ROPE_CNT r 3, 63, 48, 0⟩
def OE_ROPE_CMD_OP (r : Nat) : Fld := ⟨OE_ROPE_CMD r, 3, 0, 0⟩
def OE_ROPE_CMD_STATUS (r : Nat) : Fld := ⟨OE_ROPE_CMD r, 7, 4, 0⟩
def OE_ROPE_EVT_RETRAIN (r : Nat) : Fld := ⟨OE_ROPE_EVT r, 0, 0, 0⟩
def OE_ROPE_EVT_WIDTH (r : Nat) : Fld := ⟨OE_ROPE_EVT r, 1, 1, 1⟩
def OE_ROPE_EVT_REPLAY (r : Nat) : Fld := ⟨OE_ROPE_EVT r, 2, 2, 2⟩
def OE_ROPE_EVT_DOWN (r : Nat) : Fld := ⟨OE_ROPE_EVT r, 3, 3, 3⟩
def OE_ROPE_EVT_COLLISION (r : Nat) : Fld := ⟨OE_ROPE_EVT r, 4, 4, 4⟩
def OE_ROPE_EVT_PEER_CHANGED (r : Nat) : Fld := ⟨OE_ROPE_EVT r, 5, 5, 5⟩
def OE_ROPE_EVT_SPLICE_FAIL (r : Nat) : Fld := ⟨OE_ROPE_EVT r, 6, 6, 6⟩
def CD_TR_ROUTE_P0 (n r : Nat) : Fld := ⟨CD_TR_ROUTE n r, 15, 0, 0⟩
def CD_TR_ROUTE_P1 (n r : Nat) : Fld := ⟨CD_TR_ROUTE n r, 31, 16, 0⟩
def CD_TR_ROUTE_P2 (n r : Nat) : Fld := ⟨CD_TR_ROUTE n r, 47, 32, 0⟩
def CD_TR_ROUTE_P3 (n r : Nat) : Fld := ⟨CD_TR_ROUTE n r, 63, 48, 0⟩
def CD_TR_STS_UNREACH (n : Nat) : Fld := ⟨CD_TR_STS n, 15, 0, 0⟩
def CD_TR_STS_UNREACH_EVT (n : Nat) : Fld := ⟨CD_TR_STS n, 16, 16, 0⟩
def CD_TR_STS_SINGLE (n : Nat) : Fld := ⟨CD_TR_STS n, 17, 17, 1⟩
def CD_TR_STS_RELAY_DROP (n : Nat) : Fld := ⟨CD_TR_STS n, 47, 32, 0⟩
def CD_TR_STS_UNREACH_OCC (n : Nat) : Fld := ⟨CD_TR_STS n, 63, 48, 0⟩
def CD_TR_TX_NEXT (n i : Nat) : Fld := ⟨CD_TR_TX n i 0, 31, 0, 0⟩
def CD_TR_TX_ACKED (n i : Nat) : Fld := ⟨CD_TR_TX n i 0, 63, 32, 0⟩
def CD_TR_TX_GEN (n i : Nat) : Fld := ⟨CD_TR_TX n i 1, 15, 0, 0⟩
def CD_TR_TX_OUT (n i : Nat) : Fld := ⟨CD_TR_TX n i 1, 28, 16, 0⟩
def CD_TR_TX_RESENDS (n i : Nat) : Fld := ⟨CD_TR_TX n i 1, 47, 32, 0⟩
def CD_TR_TX_PATH (n i : Nat) : Fld := ⟨CD_TR_TX n i 1, 49, 48, 0⟩
def CD_TR_RX_CUM (n i : Nat) : Fld := ⟨CD_TR_RX n i 0, 31, 0, 0⟩
def CD_TR_RX_GEN (n i : Nat) : Fld := ⟨CD_TR_RX n i 0, 47, 32, 0⟩
def CD_TR_RX_DUP (n i : Nat) : Fld := ⟨CD_TR_RX n i 0, 63, 48, 0⟩
def CD_GW_CNT_SEGMENTS (n d : Nat) : Fld := ⟨CD_GW_CNT n d, 31, 0, 0⟩
def CD_GW_CNT_RESENT (n d : Nat) : Fld := ⟨CD_GW_CNT n d, 47, 32, 0⟩
def CD_GW_CNT_RELAYED (n d : Nat) : Fld := ⟨CD_GW_CNT n d, 63, 48, 0⟩
def HP_ROLE_STATE : Fld := ⟨HP_ROLE, 3, 0, 0⟩
def HP_ROLE_CAUSE : Fld := ⟨HP_ROLE, 7, 4, 0⟩
def HP_ROLE_CHANGED : Fld := ⟨HP_ROLE, 8, 8, 0⟩
def HP_ROLE_CHANGED_OCC : Fld := ⟨HP_ROLE, 31, 16, 0⟩
def HP_BRIDGE_CMD_OP : Fld := ⟨HP_BRIDGE_CMD, 3, 0, 0⟩
def HP_BRIDGE_CMD_CLAIM : Fld := ⟨HP_BRIDGE_CMD, 4, 4, 0⟩
def HP_BRIDGE_CMD_RANK : Fld := ⟨HP_BRIDGE_CMD, 8, 5, 0⟩
def HP_BRIDGE_CMD_STATUS : Fld := ⟨HP_BRIDGE_CMD, 15, 12, 0⟩
def HP_BRIDGE_CMD_REASON : Fld := ⟨HP_BRIDGE_CMD, 19, 16, 0⟩
def HP_LEASE_CFG_EN : Fld := ⟨HP_LEASE_CFG, 0, 0, 0⟩
def HP_LEASE_CFG_ADDR : Fld := ⟨HP_LEASE_CFG, 50, 3, 0⟩
def HP_HB_STS_ROPE_LOST : Fld := ⟨HP_HB_STS, 0, 0, 0⟩
def HP_HB_STS_SB_LOST : Fld := ⟨HP_HB_STS, 1, 1, 0⟩
def HP_HB_STS_SPLIT : Fld := ⟨HP_HB_STS, 2, 2, 0⟩
def HP_HB_STS_NO_CKPT : Fld := ⟨HP_HB_STS, 3, 3, 1⟩
def HP_HB_STS_PATH_OCC : Fld := ⟨HP_HB_STS, 31, 16, 0⟩
def HP_HB_STS_LEASE_RD : Fld := ⟨HP_HB_STS, 63, 32, 0⟩
def HP_CKPT_AREA_EN : Fld := ⟨HP_CKPT_AREA, 0, 0, 0⟩
def HP_CKPT_AREA_BASE : Fld := ⟨HP_CKPT_AREA, 51, 17, 0⟩
def HP_CKPT_STS_VALID : Fld := ⟨HP_CKPT_STS, 31, 0, 0⟩
def HP_CKPT_STS_CRC_FAIL : Fld := ⟨HP_CKPT_STS, 47, 32, 0⟩
def HP_FWD_CTL_TMO : Fld := ⟨HP_FWD_CTL, 13, 0, 0⟩
def HP_FWD_CTL_FWD_CA : Fld := ⟨HP_FWD_CTL, 47, 32, 0⟩
def HP_GRP_STS_RANK : Fld := ⟨HP_GRP_STS, 3, 0, 0⟩
def HP_GRP_STS_SELF_CONFLICT : Fld := ⟨HP_GRP_STS, 4, 4, 0⟩
def HP_GRP_STS_BRIDGE_V : Fld := ⟨HP_GRP_STS, 5, 5, 0⟩
def HP_GRP_STS_BRIDGE : Fld := ⟨HP_GRP_STS, 9, 6, 0⟩
def HP_GRP_STS_PRESENT : Fld := ⟨HP_GRP_STS, 31, 16, 0⟩
def HP_GRP_STS_CONFLICT : Fld := ⟨HP_GRP_STS, 47, 32, 0⟩
def HP_GRP_MEMBER_ROPE (r : Nat) : Fld := ⟨HP_GRP_MEMBER r 1, 4, 0, 0⟩
def HP_HQ_SIZE (q : Nat) : Fld := ⟨HP_HQ q 0, 3, 0, 0⟩
def HP_HQ_EN (q : Nat) : Fld := ⟨HP_HQ q 0, 4, 4, 0⟩
def HP_HQ_BASE (q : Nat) : Fld := ⟨HP_HQ q 0, 50, 12, 0⟩
def HP_HQ_SQ_HEAD (q : Nat) : Fld := ⟨HP_HQ q 2, 15, 0, 0⟩
def HP_HQ_CQ_TAIL (q : Nat) : Fld := ⟨HP_HQ q 2, 31, 16, 0⟩
def HP_HQ_PHASE (q : Nat) : Fld := ⟨HP_HQ q 2, 32, 32, 0⟩
def HP_HQ_STOPPED (q : Nat) : Fld := ⟨HP_HQ q 2, 33, 33, 0⟩
def HP_HQ_OUT (q : Nat) : Fld := ⟨HP_HQ q 2, 40, 34, 0⟩
def HP_HQ_DB_SQ_TAIL (q : Nat) : Fld := ⟨HP_HQ_DB q, 15, 0, 0⟩
def HP_HQ_DB_CQ_HEAD (q : Nat) : Fld := ⟨HP_HQ_DB q, 31, 16, 0⟩
def SN_DISC_COUNT (u : Nat) : Fld := ⟨SN_DISC u, 31, 0, 0⟩
def SN_DISC_LAST_ADDR (u : Nat) : Fld := ⟨SN_DISC_LAST u, 35, 0, 0⟩
def SN_DISC_LAST_WRITE (u : Nat) : Fld := ⟨SN_DISC_LAST u, 36, 36, 0⟩
def SN_DISC_LAST_CAUSE (u : Nat) : Fld := ⟨SN_DISC_LAST u, 39, 37, 0⟩
def SN_CCLR_ADDR : Fld := ⟨SN_CCLR, 35, 3, 0⟩
def SN_CCLR_BIT : Fld := ⟨SN_CCLR, 41, 36, 0⟩
def SN_CCLR_EXPECT : Fld := ⟨SN_CCLR, 57, 42, 0⟩
def SN_CCLR_STATUS : Fld := ⟨SN_CCLR, 61, 58, 0⟩
def SN_CCLR_RES_OUTCOME : Fld := ⟨SN_CCLR_RES, 2, 0, 0⟩
def SN_CCLR_RES_COUNT : Fld := ⟨SN_CCLR_RES, 31, 16, 0⟩
def CD_BK_SB_VALID (n b e : Nat) : Fld := ⟨CD_BK_SB n b e, 0, 0, 0⟩
def CD_BK_SB_PLY (n b e : Nat) : Fld := ⟨CD_BK_SB n b e, 2, 1, 0⟩
def CD_BK_SB_PC (n b e : Nat) : Fld := ⟨CD_BK_SB n b e, 19, 3, 0⟩
def CD_BK_SB_OPC (n b e : Nat) : Fld := ⟨CD_BK_SB n b e, 31, 20, 0⟩
def CD_BK_SB_D (n b e : Nat) : Fld := ⟨CD_BK_SB n b e, 36, 32, 0⟩
def CD_BK_SB_AWAIT (n b e : Nat) : Fld := ⟨CD_BK_SB n b e, 38, 37, 0⟩
def CD_BK_SB_SHARED (n b e : Nat) : Fld := ⟨CD_BK_SB n b e, 39, 39, 0⟩
def CD_DMAQ_GEN (n i : Nat) : Fld := ⟨CD_DMAQ n i 7, 15, 0, 0⟩
def CD_DMAQ_OCCUPIED (n i : Nat) : Fld := ⟨CD_DMAQ n i 7, 16, 16, 0⟩
def CD_DMAQ_STS_COUNT (n : Nat) : Fld := ⟨CD_DMAQ_STS n, 12, 0, 0⟩
def CD_DMAQ_STS_OLDEST (n : Nat) : Fld := ⟨CD_DMAQ_STS n, 27, 16, 0⟩
def SN_CMD_ID : Fld := ⟨SN_CMD, 15, 0, 0⟩
def SN_CMD_OP : Fld := ⟨SN_CMD, 19, 16, 0⟩
def SN_CMD_STATUS : Fld := ⟨SN_CMD, 23, 20, 0⟩
def SN_STS_ID : Fld := ⟨SN_STS, 15, 0, 0⟩
def SN_STS_CUT : Fld := ⟨SN_STS, 19, 16, 0⟩
def SN_STS_SKIPPED : Fld := ⟨SN_STS, 23, 20, 0⟩
def SN_STS_LATE : Fld := ⟨SN_STS, 27, 24, 0⟩
def SN_STS_TORN : Fld := ⟨SN_STS, 28, 28, 0⟩
def SN_STS_REFUSE : Fld := ⟨SN_STS, 29, 29, 0⟩
def SN_STS_HOLD_NS : Fld := ⟨SN_STS, 47, 32, 0⟩
def SN_STS_DONE_CNT : Fld := ⟨SN_STS, 63, 48, 0⟩
def SN_CTL_HOLD_LIM : Fld := ⟨SN_CTL, 16, 0, 0⟩
def SN_TRC_CTL_EN : Fld := ⟨SN_TRC_CTL, 0, 0, 0⟩
def SN_TRC_CTL_STOP : Fld := ⟨SN_TRC_CTL, 1, 1, 0⟩
def SN_TRC_CTL_KINDS : Fld := ⟨SN_TRC_CTL, 15, 8, 0⟩
def SN_TRC_CTL_SRCS : Fld := ⟨SN_TRC_CTL, 23, 16, 0⟩
def SN_TRC_RING_SIZE : Fld := ⟨SN_TRC_RING, 3, 0, 0⟩
def SN_TRC_RING_BASE : Fld := ⟨SN_TRC_RING, 51, 12, 0⟩
def SN_TRC_PTR_TAIL : Fld := ⟨SN_TRC_PTR, 20, 0, 0⟩
def SN_TRC_PTR_HEAD : Fld := ⟨SN_TRC_PTR, 52, 32, 0⟩
def SN_TRC_STS_STOPPED : Fld := ⟨SN_TRC_STS, 0, 0, 0⟩
def SN_TRC_STS_WRAPPED : Fld := ⟨SN_TRC_STS, 1, 1, 1⟩
def SN_TRC_STS_LOST : Fld := ⟨SN_TRC_STS, 47, 16, 0⟩
def SN_TRC_KNOT_HANDLE (i : Nat) : Fld := ⟨SN_TRC_KNOT i, 15, 0, 0⟩
def SN_TRC_KNOT_CHAN (i : Nat) : Fld := ⟨SN_TRC_KNOT i, 17, 16, 0⟩
def SN_TRC_KNOT_EN (i : Nat) : Fld := ⟨SN_TRC_KNOT i, 18, 18, 0⟩
def SN_TRC_MARK_VALUE : Fld := ⟨SN_TRC_MARK, 31, 0, 0⟩
def SN_TRC_MARK_STATUS : Fld := ⟨SN_TRC_MARK, 35, 32, 0⟩
def FC_PKG_SAFE : Fld := ⟨FC_PKG, 0, 0, 0⟩
def FC_PKG_FAULT_N : Fld := ⟨FC_PKG, 1, 1, 0⟩
def FC_PKG_SAFE_N : Fld := ⟨FC_PKG, 2, 2, 0⟩
def FC_PKG_FENCED : Fld := ⟨FC_PKG, 7, 3, 0⟩
def FC_GRAVE_CAUSE : Fld := ⟨FC_GRAVE 0, 15, 0, 0⟩
def FC_GRAVE_UNIT : Fld := ⟨FC_GRAVE 0, 19, 16, 0⟩
def FC_GRAVE_INSTANCE : Fld := ⟨FC_GRAVE 0, 35, 20, 0⟩
def FC_GRAVE_VALID : Fld := ⟨FC_GRAVE 0, 36, 36, 0⟩
def FC_GRAVE_TIME : Fld := ⟨FC_GRAVE 1, 47, 0, 0⟩
def FC_CTL_WINDOW (c : Nat) : Fld := ⟨FC_CTL c, 19, 0, 0⟩
def FC_CTL_CIRQ (c : Nat) : Fld := ⟨FC_CTL c, 20, 20, 0⟩
def FC_CTL_KNOT (c : Nat) : Fld := ⟨FC_CTL c, 47, 32, 0⟩
def FC_CTL_KEN (c : Nat) : Fld := ⟨FC_CTL c, 48, 48, 0⟩
def FC_STS_C (c : Nat) : Fld := ⟨FC_STS c, 0, 0, 0⟩
def FC_STS_D (c : Nat) : Fld := ⟨FC_STS c, 1, 1, 1⟩
def FC_STS_F (c : Nat) : Fld := ⟨FC_STS c, 2, 2, 2⟩
def FC_STS_ESC (c : Nat) : Fld := ⟨FC_STS c, 3, 3, 3⟩
def FC_STS_FENCED (c : Nat) : Fld := ⟨FC_STS c, 4, 4, 0⟩
def FC_STS_OPEN_D (c : Nat) : Fld := ⟨FC_STS c, 24, 16, 0⟩
def FC_STS_FENCE_CAUSE (c : Nat) : Fld := ⟨FC_STS c, 47, 32, 0⟩
def FC_CMD_OP (c : Nat) : Fld := ⟨FC_CMD c, 3, 0, 0⟩
def FC_CMD_STATUS (c : Nat) : Fld := ⟨FC_CMD c, 7, 4, 0⟩
def FC_CMD_REASON (c : Nat) : Fld := ⟨FC_CMD c, 11, 8, 0⟩
def FC_CMD_SEQ (c : Nat) : Fld := ⟨FC_CMD c, 63, 32, 0⟩
def FC_LOG_PTR_C_TAIL (c : Nat) : Fld := ⟨FC_LOG_PTR c, 8, 0, 0⟩
def FC_LOG_PTR_C_HEAD (c : Nat) : Fld := ⟨FC_LOG_PTR c, 17, 9, 0⟩
def FC_LOG_PTR_DF_TAIL (c : Nat) : Fld := ⟨FC_LOG_PTR c, 25, 18, 0⟩
def FC_LOG_PTR_DF_HEAD (c : Nat) : Fld := ⟨FC_LOG_PTR c, 33, 26, 0⟩
def FC_LOG_PTR_DF_LOST (c : Nat) : Fld := ⟨FC_LOG_PTR c, 47, 34, 0⟩
def FC_LOG_PTR_C_LOST (c : Nat) : Fld := ⟨FC_LOG_PTR c, 63, 48, 0⟩
def FC_INJ_OP : Fld := ⟨FC_INJ, 3, 0, 0⟩
def FC_INJ_KIND : Fld := ⟨FC_INJ, 11, 4, 0⟩
def FC_INJ_INSTANCE : Fld := ⟨FC_INJ, 27, 12, 0⟩
def FC_INJ_N : Fld := ⟨FC_INJ, 43, 28, 0⟩
def FC_INJ_STATUS : Fld := ⟨FC_INJ, 47, 44, 0⟩
def FC_INJ_REASON : Fld := ⟨FC_INJ, 51, 48, 0⟩
def FC_INJ_SLOT_KIND (j : Nat) : Fld := ⟨FC_INJ_SLOT j, 7, 0, 0⟩
def FC_INJ_SLOT_INSTANCE (j : Nat) : Fld := ⟨FC_INJ_SLOT j, 23, 8, 0⟩
def FC_INJ_SLOT_REMAINING (j : Nat) : Fld := ⟨FC_INJ_SLOT j, 39, 24, 0⟩
def FC_INJ_SLOT_ARMED (j : Nat) : Fld := ⟨FC_INJ_SLOT j, 40, 40, 0⟩
def KS_INFO_HWTYPE : Fld := ⟨KS_INFO, 15, 0, 0⟩
def KS_INFO_VERSION : Fld := ⟨KS_INFO, 31, 16, 0⟩
def KS_INFO_POWERON : Fld := ⟨KS_INFO, 63, 32, 0⟩
def KS_STS_LINK : Fld := ⟨KS_STS, 0, 0, 0⟩
def KS_STS_STALE : Fld := ⟨KS_STS, 1, 1, 0⟩
def KS_STS_CAL : Fld := ⟨KS_STS, 2, 2, 0⟩
def KS_STS_CLK : Fld := ⟨KS_STS, 3, 3, 0⟩
def KS_STS_SENSE : Fld := ⟨KS_STS, 4, 4, 0⟩
def KS_STS_LOG_FULL : Fld := ⟨KS_STS, 5, 5, 0⟩
def KS_STS_UID_MISMATCH : Fld := ⟨KS_STS, 6, 6, 0⟩
def KS_STS_PULSE_SRC : Fld := ⟨KS_STS, 9, 7, 0⟩
def KS_STS_INTERVAL : Fld := ⟨KS_STS, 63, 32, 0⟩
def KS_CNT_AUDIT : Fld := ⟨KS_CNT, 31, 0, 0⟩
def KS_CNT_FALLBACK : Fld := ⟨KS_CNT, 63, 32, 0⟩
def KS_RAIL_V (e : Nat) : Fld := ⟨KS_RAIL e, 15, 0, 0⟩
def KS_RAIL_I (e : Nat) : Fld := ⟨KS_RAIL e, 30, 16, 0⟩
def KS_RAIL_STALE (e : Nat) : Fld := ⟨KS_RAIL e, 31, 31, 0⟩
def HP_KS_MB_OP : Fld := ⟨HP_KS_MB, 3, 0, 0⟩
def HP_KS_MB_LEN : Fld := ⟨HP_KS_MB, 16, 4, 0⟩
def HP_KS_MB_STATE : Fld := ⟨HP_KS_MB, 23, 20, 0⟩
def HP_KS_MB_STATUS : Fld := ⟨HP_KS_MB, 31, 24, 0⟩
def HP_KS_MB_ARG : Fld := ⟨HP_KS_MB, 63, 32, 0⟩
def HP_KS_MBAUX_AUX : Fld := ⟨HP_KS_MBAUX, 31, 0, 0⟩
def HP_BOOT_STS_STAGE : Fld := ⟨HP_BOOT_STS, 3, 0, 0⟩
def HP_BOOT_STS_SLOT : Fld := ⟨HP_BOOT_STS, 4, 4, 0⟩
def HP_BOOT_STS_BOOT : Fld := ⟨HP_BOOT_STS, 6, 5, 0⟩
def HP_BOOT_STS_FAILS : Fld := ⟨HP_BOOT_STS, 8, 7, 0⟩
def HP_BOOT_STS_RECOV : Fld := ⟨HP_BOOT_STS, 10, 9, 0⟩
def HP_BOOT_STS_DEBUG : Fld := ⟨HP_BOOT_STS, 11, 11, 0⟩
def HP_BOOT_STS_ERR : Fld := ⟨HP_BOOT_STS, 19, 12, 0⟩
def HP_BOOT_STS_BOOT_MS : Fld := ⟨HP_BOOT_STS, 63, 32, 0⟩
def HP_FW_CMD_OP : Fld := ⟨HP_FW_CMD, 3, 0, 0⟩
def HP_FW_CMD_STATUS : Fld := ⟨HP_FW_CMD, 7, 4, 0⟩
def HP_FW_CMD_REASON : Fld := ⟨HP_FW_CMD, 15, 8, 0⟩
def HP_FW_CMD_LEN : Fld := ⟨HP_FW_CMD, 32, 16, 0⟩
def HP_FW_ARG1_OFFSET : Fld := ⟨HP_FW_ARG1, 24, 0, 0⟩
def HP_FW_ARG1_CRC : Fld := ⟨HP_FW_ARG1, 63, 32, 0⟩
def HP_FW_STS_B_STATE : Fld := ⟨HP_FW_STS, 2, 0, 0⟩
def HP_FW_STS_BLOCKS : Fld := ⟨HP_FW_STS, 19, 4, 0⟩
def HP_FW_VER_A : Fld := ⟨HP_FW_VER, 31, 0, 0⟩
def HP_FW_VER_B : Fld := ⟨HP_FW_VER, 63, 32, 0⟩
def HP_SVN_G0 : Fld := ⟨HP_SVN, 6, 0, 0⟩
def HP_SVN_G1 : Fld := ⟨HP_SVN, 14, 8, 0⟩
def HP_SVN_G2 : Fld := ⟨HP_SVN, 22, 16, 0⟩
def HP_SVN_G3 : Fld := ⟨HP_SVN, 30, 24, 0⟩
def HP_FW_COMP_VER (i : Nat) : Fld := ⟨HP_FW_COMP i, 31, 0, 0⟩
def HP_FW_COMP_SVN (i : Nat) : Fld := ⟨HP_FW_COMP i, 38, 32, 0⟩
def HP_FW_COMP_SLOT (i : Nat) : Fld := ⟨HP_FW_COMP i, 39, 39, 0⟩
def HP_FW_COMP_READY (i : Nat) : Fld := ⟨HP_FW_COMP i, 40, 40, 0⟩
def HP_FW_COMP_SKIPPED (i : Nat) : Fld := ⟨HP_FW_COMP i, 41, 41, 0⟩
def HP_FW_COMP_OL_US (i : Nat) : Fld := ⟨HP_FW_COMP i, 63, 48, 0⟩
def HP_CERT_CMD_OP : Fld := ⟨HP_CERT_CMD, 3, 0, 0⟩
def HP_CERT_CMD_STATUS : Fld := ⟨HP_CERT_CMD, 7, 4, 0⟩
def HP_CERT_CMD_REASON : Fld := ⟨HP_CERT_CMD, 11, 8, 0⟩
def HP_CERT_KIND (i : Nat) : Fld := ⟨HP_CERT i, 7, 0, 0⟩
def HP_CERT_VALID (i : Nat) : Fld := ⟨HP_CERT i, 8, 8, 0⟩
def HP_CERT_INFORCE (i : Nat) : Fld := ⟨HP_CERT i, 9, 9, 0⟩
def HP_CERT_SERIAL (i : Nat) : Fld := ⟨HP_CERT i, 63, 32, 0⟩
def HP_VCORE_TARGET (n : Nat) : Fld := ⟨HP_VCORE n, 9, 0, 0⟩
def HP_VCORE_ACTUAL (n : Nat) : Fld := ⟨HP_VCORE n, 25, 16, 0⟩
def HP_VCORE_MOVING (n : Nat) : Fld := ⟨HP_VCORE n, 26, 26, 0⟩
def HP_VCORE_RETENTION (n : Nat) : Fld := ⟨HP_VCORE n, 27, 27, 0⟩
def HP_VCORE_AVS_ERR (n : Nat) : Fld := ⟨HP_VCORE n, 28, 28, 0⟩
def HP_THERM_HOT_CD : Fld := ⟨HP_THERM, 3, 0, 0⟩
def HP_THERM_HOT_OE : Fld := ⟨HP_THERM, 11, 4, 4⟩
def HP_THERM_HOT_PI : Fld := ⟨HP_THERM, 12, 12, 12⟩
def HP_THERM_HOT_HD : Fld := ⟨HP_THERM, 13, 13, 13⟩
def HP_THERM_HOT_HBM : Fld := ⟨HP_THERM, 21, 14, 14⟩
def HP_THERM_MAX_SENSOR : Fld := ⟨HP_THERM, 39, 32, 0⟩
def HP_THERM_MARGIN : Fld := ⟨HP_THERM, 47, 40, 0⟩

end Sys2Proof.Machine
end

