-- ==== Sys2Proof/Machine/Cards.lean ====
section
/-! DEFINITION. The register cards of the spec as data: which addresses exist (R10), which bits a management write may
change (R12, Table 0-7), which are flags (W1C), which are locked (R13), which start a command (R14); and the reset value
of every register. -/
namespace Sys2Proof.Machine

/-- One name per register card. `CD_BK_WPLS` is word 160 of CD_BK_WPL, `PI_STEER_CFG0` configuration 0, `HP_HQS` words 2
and 3 of HP_HQ: their access codes differ from the other words of the same card. -/
inductive RegName where
  | HP_CLK_LOSS
  | HP_BL_STS
  | HP_BL_RMAP_SEL
  | HP_BL_RMAP_DATA
  | HP_CAPSULE
  | HP_ROLE_MAP
  | HP_CAP_EFF
  | GS_CTL
  | GS_TAG
  | GS_WIN
  | GS_RATE
  | GS_STS
  | CH_DIE_CMD
  | CH_DIE_STS
  | CD_HUB_STS
  | CD_HUB_WAIT_LIM
  | CD_SPD_MON
  | CD_TEMP
  | CD_BK_ARITH
  | CD_BK_SEED
  | CD_BK_SGCTX
  | CD_BK_SGCNT0
  | CD_BK_SGCNT1
  | CD_BK_SGCNT2
  | CD_BK_SGCNT3
  | CD_BK_SGSTS
  | CD_BK_SGOCC
  | CD_PLY_PC
  | CD_PLY_STS
  | CD_PLY_CAUSE
  | CD_PLY_TINFO
  | CD_PLY_TVEC
  | CD_PLY_EPC
  | CD_PLY_CMD
  | CD_PLY_S
  | CD_PLY_A
  | CD_PLY_PRED
  | CD_BK_ARRST
  | CD_BK_VREG
  | CD_BK_ACC
  | CD_BK_WPL
  | CD_BK_WPLS
  | CD_ME_CTL
  | CD_ME_STS
  | CD_ME_OCC
  | CD_ME_TALLY
  | CD_ME_VT
  | CD_DIR
  | CD_DIR_FIRST
  | CD_KNOT
  | CD_KNOT_WAIT
  | HP_SKNOT
  | HP_SKNOT_OCC
  | CD_BK_SCHED
  | CD_BK_LSLOT
  | CD_BK_LSARG
  | CD_PLY_WAIT
  | CD_EPOCH
  | HP_SPAN_CMD
  | HP_SPAN_STS
  | CH_SLEW_CTL
  | CH_SLEW_STS
  | CH_SAT
  | CH_ADM_CTL
  | CH_ADM_SUBMIT
  | CH_ADM_RESP0
  | CH_ADM_RESP1
  | CH_ADM_STS
  | CH_ADM_AVAIL
  | CH_ADM_ROPES
  | CH_PIN_CAP
  | CH_ADM_PRQ
  | CH_ADM_PRQ_PTR
  | CH_LEDGER
  | CH_XLT_ROOT
  | CH_XLT_INV
  | CH_PIN_POOL
  | CD_BK_DMA
  | CD_DMA_ENG
  | CH_DMA_HENG
  | CH_DMA_CMD
  | CH_FQ
  | CH_FQ_PTR
  | CH_FQ_KN
  | CH_FQ_STS
  | CD_HBM_STS
  | CH_PRE_SUBMIT
  | CH_PRE_RESP
  | CH_PRE_REQ
  | OE_STS
  | OE_CMD
  | OE_EVT
  | OE_EVT_OCC
  | OE_TEMP
  | OE_LAS_BIAS
  | OE_RING
  | OE_STRAND
  | OE_CAL_CTL
  | PI_CAL_CTL
  | PI_EVT
  | PI_EVT_OCC
  | PI_ZONE
  | PI_LAS_BIAS
  | PI_RING
  | PI_STRAND
  | PI_STEER_CFG0
  | PI_STEER_CFG
  | PI_STEER_CMD
  | PI_STEER_STS
  | PI_STEER_TRIG
  | PI_AOR_CMD
  | PI_AOR_STS
  | PI_AOR_CHK
  | PI_AOR_SRC
  | OE_ROPE_STS
  | OE_ROPE_PEER
  | OE_ROPE_CNT
  | OE_ROPE_CMD
  | OE_ROPE_EVT
  | OE_ROPE_OCC
  | PI_ROPE_STS
  | PI_ROPE_PEER
  | PI_ROPE_CNT
  | PI_ROPE_CMD
  | PI_ROPE_EVT
  | PI_ROPE_OCC
  | CD_TR_ROUTE
  | CD_TR_STS
  | CD_TR_TX
  | CD_TR_RX
  | HP_TR_TX
  | HP_TR_RX
  | CD_GW_CNT
  | HP_ROLE
  | HP_BRIDGE_CMD
  | HP_LEASE_CFG
  | HP_HB_STS
  | HP_CKPT_AREA
  | HP_CKPT_STS
  | HP_FWD_CTL
  | HP_GRP_STS
  | HP_GRP_MEMBER
  | HP_HOST_SHARE
  | HP_HQ
  | HP_HQS
  | HP_HQ_DB
  | SN_DISC
  | SN_DISC_LAST
  | HP_CLK_OCC
  | SN_CCLR
  | SN_CCLR_RES
  | CD_BK_SB
  | CD_DMAQ
  | CD_DMAQ_STS
  | SN_CMD
  | SN_STS
  | SN_CTL
  | SN_TRC_CTL
  | SN_TRC_RING
  | SN_TRC_PTR
  | SN_TRC_STS
  | SN_TRC_KNOT
  | SN_TRC_MARK
  | FC_PKG
  | FC_GRAVE
  | FC_CTL
  | FC_STS
  | FC_CMD
  | FC_LOG_PTR
  | FC_LOG_DF
  | FC_LOG_C
  | FC_INJ
  | FC_INJ_SLOT
  | KS_ID
  | KS_INFO
  | KS_STS
  | KS_E_PKG
  | KS_E_CH
  | KS_CNT
  | KS_RAIL
  | KS_AUDIT
  | KS_PUBKEY
  | HP_KS_MB
  | HP_KS_MBAUX
  | HP_KS_MBBUF
  | HP_BOOT_STS
  | HP_FW_CMD
  | HP_FW_ARG0
  | HP_FW_ARG1
  | HP_FW_STS
  | HP_FW_VER
  | HP_SVN
  | HP_FW_COMP
  | HP_CERT_CMD
  | HP_CERT_ADDR
  | HP_CERT
  | HP_VCORE
  | HP_THERM
  | HP_THERM_OCC
  deriving DecidableEq, Repr

/-- A register card: units `u0`-`u1`; blocks `blk + bs * i` for `i < bc`; offsets `off + s1 * i + s2 * j` for `i < c1`,
`j < c2`; the bits of access code RW, W1C, RWL and CMD; the low bit of its STATUS field when it is a command register. -/
structure Card where
  name : RegName
  u0 : Nat
  u1 : Nat
  blk : Nat
  bs : Nat
  bc : Nat
  off : Nat
  s1 : Nat
  c1 : Nat
  s2 : Nat
  c2 : Nat
  rw : Nat
  w1c : Nat
  rwl : Nat
  cmd : Nat
  sts : Nat
  deriving DecidableEq, Repr

/-- Register cards, part 0, in the order of the spec. -/
def cards0 : List Card := [
  ⟨.HP_CLK_LOSS, 0, 0, 0x10, 1, 1, 0xc00, 8, 1, 8, 1, 0x0, 0x8fffffffffffffff, 0x0, 0x0, 0⟩,
  ⟨.HP_BL_STS, 0, 0, 0x10, 1, 1, 0xa00, 8, 25, 8, 1, 0x0, 0x800000, 0x0, 0x0, 0⟩,
  ⟨.HP_BL_RMAP_SEL, 0, 0, 0x10, 1, 1, 0xb00, 8, 1, 8, 1, 0x7ff, 0x0, 0x0, 0x0, 0⟩,
  ⟨.HP_BL_RMAP_DATA, 0, 0, 0x10, 1, 1, 0xb08, 8, 1, 8, 1, 0x0, 0x0, 0x0, 0x0, 0⟩,
  ⟨.HP_CAPSULE, 0, 0, 0x10, 1, 1, 0x100, 64, 14, 8, 8, 0x0, 0x0, 0x0, 0x0, 0⟩,
  ⟨.HP_ROLE_MAP, 0, 0, 0x10, 1, 1, 0x800, 16, 25, 8, 2, 0x0, 0x0, 0x0, 0x0, 0⟩,
  ⟨.HP_CAP_EFF, 0, 0, 0x10, 1, 1, 0x0, 8, 1, 8, 1, 0x0, 0x0, 0x0, 0x0, 0⟩,
  ⟨.GS_CTL, 8, 8, 0x0, 1, 1, 0x0, 8, 1, 8, 1, 0x0, 0x0, 0x800000000003ffff, 0x0, 0⟩,
  ⟨.GS_TAG, 8, 8, 0x0, 1, 1, 0x8, 8, 1, 8, 1, 0x0, 0x0, 0xfff, 0x0, 0⟩,
  ⟨.GS_WIN, 8, 8, 0x0, 1, 1, 0x100, 8, 16, 8, 1, 0x0, 0x0, 0xbfffffffffffffff, 0x0, 0⟩,
  ⟨.GS_RATE, 8, 8, 0x0, 1, 1, 0x10, 8, 1, 8, 1, 0x0, 0x0, 0xffffffffffff, 0x0, 0⟩,
  ⟨.GS_STS, 8, 8, 0x0, 1, 1, 0x18, 8, 1, 8, 1, 0x0, 0x8, 0x0, 0x0, 0⟩,
  ⟨.CH_DIE_CMD, 1, 4, 0x8f0, 1, 1, 0x0, 8, 1, 8, 1, 0x0, 0x0, 0x0, 0xf, 4⟩,
  ⟨.CH_DIE_STS, 1, 4, 0x8f0, 1, 1, 0x8, 8, 1, 8, 1, 0x0, 0x0, 0x0, 0x0, 0⟩,
  ⟨.CD_HUB_STS, 1, 4, 0x10, 1, 1, 0x0, 8, 1, 8, 1, 0x0, 0x3, 0x0, 0x0, 0⟩,
  ⟨.CD_HUB_WAIT_LIM, 1, 4, 0x10, 1, 1, 0x8, 8, 1, 8, 1, 0xffffff, 0x0, 0x0, 0x0, 0⟩,
  ⟨.CD_SPD_MON, 1, 4, 0x20, 1, 1, 0x0, 8, 16, 8, 1, 0x0, 0x0, 0x0, 0x0, 0⟩,
  ⟨.CD_TEMP, 1, 4, 0x20, 1, 1, 0x100, 8, 16, 8, 1, 0x0, 0x0, 0x0, 0x0, 0⟩,
  ⟨.CD_BK_ARITH, 1, 4, 0x400, 1, 384, 0x1000, 8, 1, 8, 1, 0x1, 0x0, 0x0, 0x0, 0⟩,
  ⟨.CD_BK_SEED, 1, 4, 0x400, 1, 384, 0x1008, 8, 1, 8, 1, 0xffffffff, 0x0, 0x0, 0x0, 0⟩,
  ⟨.CD_BK_SGCTX, 1, 4, 0x400, 1, 384, 0x1100, 8, 8, 8, 1, 0x1ffffffffff, 0x0, 0x0, 0x0, 0⟩,
  ⟨.CD_BK_SGCNT0, 1, 4, 0x400, 1, 384, 0x1200, 8, 1, 8, 1, 0x0, 0x0, 0x0, 0x0, 0⟩,
  ⟨.CD_BK_SGCNT1, 1, 4, 0x400, 1, 384, 0x1208, 8, 1, 8, 1, 0x0, 0x0, 0x0, 0x0, 0⟩,
  ⟨.CD_BK_SGCNT2, 1, 4, 0x400, 1, 384, 0x1210, 8, 1, 8, 1, 0x0, 0x0, 0x0, 0x0, 0⟩,
  ⟨.CD_BK_SGCNT3, 1, 4, 0x400, 1, 384, 0x1218, 8, 1, 8, 1, 0x0, 0x0, 0x0, 0x0, 0⟩,
  ⟨.CD_BK_SGSTS, 1, 4, 0x400, 1, 384, 0x1240, 8, 1, 8, 1, 0x0, 0xf, 0x0, 0x0, 0⟩,
  ⟨.CD_BK_SGOCC, 1, 4, 0x400, 1, 384, 0x1248, 8, 1, 8, 1, 0x0, 0x0, 0x0, 0x0, 0⟩,
  ⟨.CD_PLY_PC, 1, 4, 0x400, 1, 384, 0x2000, 1024, 4, 8, 1, 0xffff8, 0x0, 0x0, 0x0, 0⟩,
  ⟨.CD_PLY_STS, 1, 4, 0x400, 1, 384, 0x2008, 1024, 4, 8, 1, 0x0, 0x10, 0x0, 0x0, 0⟩,
  ⟨.CD_PLY_CAUSE, 1, 4, 0x400, 1, 384, 0x2010, 1024, 4, 8, 1, 0xff, 0x0, 0x0, 0x0, 0⟩,
  ⟨.CD_PLY_TINFO, 1, 4, 0x400, 1, 384, 0x2018, 1024, 4, 8, 1, 0xffffffffffffffff, 0x0, 0x0, 0x0, 0⟩,
  ⟨.CD_PLY_TVEC, 1, 4, 0x400, 1, 384, 0x2020, 1024, 4, 8, 1, 0xffff9, 0x0, 0x0, 0x0, 0⟩,
  ⟨.CD_PLY_EPC, 1, 4, 0x400, 1, 384, 0x2028, 1024, 4, 8, 1, 0xffff8, 0x0, 0x0, 0x0, 0⟩,
  ⟨.CD_PLY_CMD, 1, 4, 0x400, 1, 384, 0x2030, 1024, 4, 8, 1, 0x0, 0x0, 0x0, 0xf, 4⟩,
  ⟨.CD_PLY_S, 1, 4, 0x400, 1, 384, 0x2100, 1024, 4, 8, 32, 0xffffffffffffffff, 0x0, 0x0, 0x0, 0⟩,
  ⟨.CD_PLY_A, 1, 4, 0x400, 1, 384, 0x2200, 1024, 4, 8, 16, 0xffffffffffffffff, 0x0, 0x0, 0x0, 0⟩,
  ⟨.CD_PLY_PRED, 1, 4, 0x400, 1, 384, 0x2280, 1024, 4, 8, 1, 0xfe, 0x0, 0x0, 0x0, 0⟩,
  ⟨.CD_BK_ARRST, 1, 4, 0x400, 1, 384, 0x1010, 8, 1, 8, 1, 0x0, 0x0, 0x0, 0x0, 0⟩,
  ⟨.CD_BK_VREG, 1, 4, 0x400, 1, 384, 0x4000, 128, 32, 8, 11, 0xffffffffffffffff, 0x0, 0x0, 0x0, 0⟩,
  ⟨.CD_BK_ACC, 1, 4, 0x400, 1, 384, 0x5000, 512, 4, 8, 33, 0xffffffffffffffff, 0x0, 0x0, 0x0, 0⟩]

/-- Register cards, part 1, in the order of the spec. -/
def cards1 : List Card := [
  ⟨.CD_BK_WPL, 1, 4, 0x400, 1, 384, 0x6000, 2048, 4, 8, 160, 0xffffffffffffffff, 0x0, 0x0, 0x0, 0⟩,
  ⟨.CD_BK_WPLS, 1, 4, 0x400, 1, 384, 0x6500, 2048, 4, 8, 1, 0xfffc0, 0x0, 0x0, 0x0, 0⟩,
  ⟨.CD_ME_CTL, 1, 4, 0x400, 1, 384, 0x8000, 8, 1, 8, 1, 0xffff0001ffff, 0x0, 0x0, 0x0, 0⟩,
  ⟨.CD_ME_STS, 1, 4, 0x400, 1, 384, 0x8008, 8, 1, 8, 1, 0x0, 0x70000, 0x0, 0x0, 0⟩,
  ⟨.CD_ME_OCC, 1, 4, 0x400, 1, 384, 0x8010, 8, 1, 8, 1, 0x0, 0x0, 0x0, 0x0, 0⟩,
  ⟨.CD_ME_TALLY, 1, 4, 0x400, 1, 384, 0x8100, 8, 4, 8, 1, 0xffffffffffff, 0x0, 0x0, 0x0, 0⟩,
  ⟨.CD_ME_VT, 1, 4, 0x400, 1, 384, 0xc000, 8, 4096, 8, 1, 0xfffffffffffff, 0x0, 0x0, 0x0, 0⟩,
  ⟨.CD_DIR, 1, 4, 0x30, 1, 1, 0x0, 8, 1, 8, 1, 0x800fffffffffffff, 0x0, 0x0, 0x0, 0⟩,
  ⟨.CD_DIR_FIRST, 1, 4, 0x30, 1, 1, 0x8, 8, 1, 8, 1, 0xffffffffff, 0x0, 0x0, 0x0, 0⟩,
  ⟨.CD_KNOT, 1, 4, 0x100, 1, 1, 0x0, 8, 4096, 8, 1, 0x30000ffffffff, 0x4000000000000, 0x0, 0x0, 0⟩,
  ⟨.CD_KNOT_WAIT, 1, 4, 0x101, 1, 1, 0x0, 8, 4096, 8, 1, 0x0, 0x0, 0x0, 0x0, 0⟩,
  ⟨.HP_SKNOT, 0, 0, 0x20, 1, 1, 0x0, 8, 1024, 8, 1, 0x330000ffffffff, 0x4000000000000, 0x0, 0x0, 0⟩,
  ⟨.HP_SKNOT_OCC, 0, 0, 0x21, 1, 1, 0x0, 8, 1024, 8, 1, 0x0, 0x0, 0x0, 0x0, 0⟩,
  ⟨.CD_BK_SCHED, 1, 4, 0x400, 1, 384, 0x1020, 8, 1, 8, 1, 0xf, 0x0, 0x0, 0x0, 0⟩,
  ⟨.CD_BK_LSLOT, 1, 4, 0x400, 1, 384, 0x1080, 8, 8, 8, 1, 0x0, 0x2000000000000, 0x0, 0x0, 0⟩,
  ⟨.CD_BK_LSARG, 1, 4, 0x400, 1, 384, 0x10c0, 8, 8, 8, 1, 0x0, 0x0, 0x0, 0x0, 0⟩,
  ⟨.CD_PLY_WAIT, 1, 4, 0x400, 1, 384, 0x2038, 1024, 4, 8, 1, 0x0, 0x0, 0x0, 0x0, 0⟩,
  ⟨.CD_EPOCH, 1, 4, 0x40, 1, 1, 0x0, 8, 1, 8, 1, 0x0, 0x0, 0x0, 0x0, 0⟩,
  ⟨.HP_SPAN_CMD, 0, 0, 0x30, 1, 1, 0x0, 8, 1, 8, 1, 0x0, 0x0, 0x0, 0x1f, 8⟩,
  ⟨.HP_SPAN_STS, 0, 0, 0x30, 1, 1, 0x8, 8, 1, 8, 1, 0x0, 0x0, 0x0, 0x0, 0⟩,
  ⟨.CH_SLEW_CTL, 1, 4, 0x900, 1, 1, 0x100, 8, 1, 8, 1, 0xfff, 0x0, 0x0, 0x0, 0⟩,
  ⟨.CH_SLEW_STS, 1, 4, 0x900, 1, 1, 0x108, 8, 1, 8, 1, 0x0, 0x1000000, 0x0, 0x0, 0⟩,
  ⟨.CH_SAT, 1, 4, 0x900, 1, 1, 0x200, 8, 6, 8, 1, 0x0, 0x0, 0x0, 0x0, 0⟩,
  ⟨.CH_ADM_CTL, 1, 4, 0x900, 1, 1, 0x0, 8, 1, 8, 1, 0x7f, 0x0, 0x0, 0x0, 0⟩,
  ⟨.CH_ADM_SUBMIT, 1, 4, 0x900, 1, 1, 0x8, 8, 1, 8, 1, 0x0, 0x0, 0x0, 0xfffffffffffc0, 52⟩,
  ⟨.CH_ADM_RESP0, 1, 4, 0x900, 1, 1, 0x10, 8, 1, 8, 1, 0x0, 0x0, 0x0, 0x0, 0⟩,
  ⟨.CH_ADM_RESP1, 1, 4, 0x900, 1, 1, 0x18, 8, 1, 8, 1, 0x0, 0x0, 0x0, 0x0, 0⟩,
  ⟨.CH_ADM_STS, 1, 4, 0x900, 1, 1, 0x20, 8, 1, 8, 1, 0x0, 0x4000, 0x0, 0x0, 0⟩,
  ⟨.CH_ADM_AVAIL, 1, 4, 0x900, 1, 1, 0x28, 8, 1, 8, 1, 0x0, 0x0, 0x0, 0x0, 0⟩,
  ⟨.CH_ADM_ROPES, 1, 4, 0x900, 1, 1, 0x48, 8, 1, 8, 1, 0x0, 0x0, 0x0, 0x0, 0⟩,
  ⟨.CH_PIN_CAP, 1, 4, 0x900, 1, 1, 0x30, 8, 1, 8, 1, 0x0, 0x0, 0x0, 0x0, 0⟩,
  ⟨.CH_ADM_PRQ, 1, 4, 0x900, 1, 1, 0x38, 8, 1, 8, 1, 0xffffffffff00f, 0x0, 0x0, 0x0, 0⟩,
  ⟨.CH_ADM_PRQ_PTR, 1, 4, 0x900, 1, 1, 0x40, 8, 1, 8, 1, 0xffff0000, 0x0, 0x0, 0x0, 0⟩,
  ⟨.CH_LEDGER, 1, 4, 0x901, 1, 1, 0x0, 32, 4096, 8, 4, 0x0, 0x0, 0x0, 0x0, 0⟩,
  ⟨.CH_XLT_ROOT, 1, 4, 0x910, 1, 1, 0x0, 8, 256, 8, 1, 0xffffffffffe01, 0x0, 0x0, 0x0, 0⟩,
  ⟨.CH_XLT_INV, 1, 4, 0x911, 1, 1, 0x0, 8, 1, 8, 1, 0x0, 0x0, 0x0, 0xffffffff07ff, 48⟩,
  ⟨.CH_PIN_POOL, 1, 4, 0x900, 1, 1, 0x300, 8, 2, 8, 1, 0xfffffffffffffff, 0x0, 0x0, 0x0, 0⟩,
  ⟨.CD_BK_DMA, 1, 4, 0x400, 1, 384, 0x1028, 8, 1, 8, 1, 0xff, 0x0, 0x0, 0x0, 0⟩,
  ⟨.CD_DMA_ENG, 1, 4, 0x50, 1, 1, 0x0, 32, 64, 8, 3, 0x0, 0x0, 0x0, 0x0, 0⟩,
  ⟨.CH_DMA_HENG, 1, 4, 0x902, 1, 1, 0x100, 32, 4, 8, 3, 0x0, 0x0, 0x0, 0x0, 0⟩]

/-- Register cards, part 2, in the order of the spec. -/
def cards2 : List Card := [
  ⟨.CH_DMA_CMD, 1, 4, 0x902, 1, 1, 0x0, 8, 1, 8, 1, 0x0, 0x0, 0x0, 0x7ff, 12⟩,
  ⟨.CH_FQ, 1, 4, 0x903, 1, 1, 0x0, 8, 1, 8, 1, 0xffffffffff00f, 0x0, 0x0, 0x0, 0⟩,
  ⟨.CH_FQ_PTR, 1, 4, 0x903, 1, 1, 0x8, 8, 1, 8, 1, 0xffff0000, 0x0, 0x0, 0x0, 0⟩,
  ⟨.CH_FQ_KN, 1, 4, 0x903, 1, 1, 0x10, 8, 1, 8, 1, 0x1ffff, 0x0, 0x0, 0x0, 0⟩,
  ⟨.CH_FQ_STS, 1, 4, 0x903, 1, 1, 0x18, 8, 1, 8, 1, 0x0, 0x1, 0x0, 0x0, 0⟩,
  ⟨.CD_HBM_STS, 1, 4, 0x60, 1, 1, 0x0, 8, 2, 8, 1, 0x0, 0x8, 0x0, 0x0, 0⟩,
  ⟨.CH_PRE_SUBMIT, 1, 4, 0x904, 1, 1, 0x0, 8, 1, 8, 1, 0x0, 0x0, 0x0, 0xfffffffffffc0, 52⟩,
  ⟨.CH_PRE_RESP, 1, 4, 0x904, 1, 1, 0x8, 8, 1, 8, 1, 0x0, 0x0, 0x0, 0x0, 0⟩,
  ⟨.CH_PRE_REQ, 1, 4, 0x904, 1, 1, 0x100, 8, 64, 8, 1, 0x0, 0x0, 0x0, 0x0, 0⟩,
  ⟨.OE_STS, 5, 5, 0x0, 16, 8, 0x0, 8, 1, 8, 1, 0x0, 0x0, 0x0, 0x0, 0⟩,
  ⟨.OE_CMD, 5, 5, 0x0, 16, 8, 0x8, 8, 1, 8, 1, 0x0, 0x0, 0x0, 0xfff, 12⟩,
  ⟨.OE_EVT, 5, 5, 0x0, 16, 8, 0x10, 8, 1, 8, 1, 0x0, 0xff, 0x0, 0x0, 0⟩,
  ⟨.OE_EVT_OCC, 5, 5, 0x0, 16, 8, 0x18, 8, 2, 8, 1, 0x0, 0x0, 0x0, 0x0, 0⟩,
  ⟨.OE_TEMP, 5, 5, 0x0, 16, 8, 0x100, 8, 4, 8, 1, 0x0, 0x0, 0x0, 0x0, 0⟩,
  ⟨.OE_LAS_BIAS, 5, 5, 0x1, 16, 8, 0x0, 8, 54, 8, 1, 0x0, 0x0, 0x0, 0x0, 0⟩,
  ⟨.OE_RING, 5, 5, 0x2, 16, 8, 0x0, 8, 108, 8, 1, 0x0, 0x0, 0x0, 0x0, 0⟩,
  ⟨.OE_STRAND, 5, 5, 0x3, 16, 8, 0x0, 8, 54, 8, 1, 0x0, 0x0, 0x0, 0x0, 0⟩,
  ⟨.OE_CAL_CTL, 5, 5, 0xf0, 1, 1, 0x0, 8, 1, 8, 1, 0xffff, 0x0, 0x0, 0x0, 0⟩,
  ⟨.PI_CAL_CTL, 6, 6, 0x0, 1, 1, 0x0, 8, 1, 8, 1, 0xffff, 0x0, 0x0, 0x0, 0⟩,
  ⟨.PI_EVT, 6, 6, 0x0, 1, 1, 0x10, 8, 1, 8, 1, 0x0, 0x3ff, 0x0, 0x0, 0⟩,
  ⟨.PI_EVT_OCC, 6, 6, 0x0, 1, 1, 0x18, 8, 3, 8, 1, 0x0, 0x0, 0x0, 0x0, 0⟩,
  ⟨.PI_ZONE, 6, 6, 0x0, 1, 1, 0x100, 8, 64, 8, 1, 0x0, 0x0, 0x0, 0x0, 0⟩,
  ⟨.PI_LAS_BIAS, 6, 6, 0x1, 1, 1, 0x0, 8, 170, 8, 1, 0x0, 0x0, 0x0, 0x0, 0⟩,
  ⟨.PI_RING, 6, 6, 0x2, 1, 1, 0x0, 8, 4148, 8, 1, 0x0, 0x0, 0x0, 0x0, 0⟩,
  ⟨.PI_STRAND, 6, 6, 0x3, 1, 1, 0x0, 8, 170, 8, 1, 0x0, 0x0, 0x0, 0x0, 0⟩,
  ⟨.PI_STEER_CFG0, 6, 6, 0x10, 1, 1, 0x0, 8, 1, 8, 1, 0x0, 0x0, 0x0, 0x0, 0⟩,
  ⟨.PI_STEER_CFG, 6, 6, 0x10, 1, 1, 0x8, 8, 7, 8, 1, 0x8003ffffffffffff, 0x0, 0x0, 0x0, 0⟩,
  ⟨.PI_STEER_CMD, 6, 6, 0x10, 1, 1, 0x80, 8, 1, 8, 1, 0x0, 0x0, 0x0, 0x1ffff, 20⟩,
  ⟨.PI_STEER_STS, 6, 6, 0x10, 1, 1, 0x88, 8, 1, 8, 1, 0x0, 0x0, 0x0, 0x0, 0⟩,
  ⟨.PI_STEER_TRIG, 6, 6, 0x10, 1, 1, 0x100, 8, 16, 8, 1, 0xffffff, 0x0, 0x0, 0x0, 0⟩,
  ⟨.PI_AOR_CMD, 6, 6, 0x20, 1, 1, 0x0, 8, 1, 8, 1, 0x0, 0x0, 0x0, 0x3fffffffffffff, 54⟩,
  ⟨.PI_AOR_STS, 6, 6, 0x20, 1, 1, 0x100, 16, 16, 8, 2, 0x0, 0x0, 0x0, 0x0, 0⟩,
  ⟨.PI_AOR_CHK, 6, 6, 0x20, 1, 1, 0x200, 8, 16, 8, 1, 0x0, 0x0, 0x0, 0x0, 0⟩,
  ⟨.PI_AOR_SRC, 6, 6, 0x20, 1, 1, 0x1000, 128, 16, 8, 16, 0x0, 0x0, 0x0, 0x0, 0⟩,
  ⟨.OE_ROPE_STS, 5, 5, 0x80, 1, 24, 0x0, 8, 1, 8, 1, 0x0, 0x0, 0x0, 0x0, 0⟩,
  ⟨.OE_ROPE_PEER, 5, 5, 0x80, 1, 24, 0x8, 8, 2, 8, 1, 0x0, 0x0, 0x0, 0x0, 0⟩,
  ⟨.OE_ROPE_CNT, 5, 5, 0x80, 1, 24, 0x18, 8, 4, 8, 1, 0x0, 0x0, 0x0, 0x0, 0⟩,
  ⟨.OE_ROPE_CMD, 5, 5, 0x80, 1, 24, 0x38, 8, 1, 8, 1, 0x0, 0x0, 0x0, 0xf, 4⟩,
  ⟨.OE_ROPE_EVT, 5, 5, 0x80, 1, 24, 0x40, 8, 1, 8, 1, 0x0, 0x7f, 0x0, 0x0, 0⟩,
  ⟨.OE_ROPE_OCC, 5, 5, 0x80, 1, 24, 0x48, 8, 2, 8, 1, 0x0, 0x0, 0x0, 0x0, 0⟩]

/-- Register cards, part 3, in the order of the spec. -/
def cards3 : List Card := [
  ⟨.PI_ROPE_STS, 6, 6, 0x30, 1, 10, 0x0, 8, 1, 8, 1, 0x0, 0x0, 0x0, 0x0, 0⟩,
  ⟨.PI_ROPE_PEER, 6, 6, 0x30, 1, 10, 0x8, 8, 2, 8, 1, 0x0, 0x0, 0x0, 0x0, 0⟩,
  ⟨.PI_ROPE_CNT, 6, 6, 0x30, 1, 10, 0x18, 8, 4, 8, 1, 0x0, 0x0, 0x0, 0x0, 0⟩,
  ⟨.PI_ROPE_CMD, 6, 6, 0x30, 1, 10, 0x38, 8, 1, 8, 1, 0x0, 0x0, 0x0, 0xf, 4⟩,
  ⟨.PI_ROPE_EVT, 6, 6, 0x30, 1, 10, 0x40, 8, 1, 8, 1, 0x0, 0x7f, 0x0, 0x0, 0⟩,
  ⟨.PI_ROPE_OCC, 6, 6, 0x30, 1, 10, 0x48, 8, 2, 8, 1, 0x0, 0x0, 0x0, 0x0, 0⟩,
  ⟨.CD_TR_ROUTE, 1, 4, 0x70, 1, 1, 0x0, 8, 16, 8, 1, 0xffffffffffffffff, 0x0, 0x0, 0x0, 0⟩,
  ⟨.CD_TR_STS, 1, 4, 0x70, 1, 1, 0x100, 8, 1, 8, 1, 0x0, 0x30000, 0x0, 0x0, 0⟩,
  ⟨.CD_TR_TX, 1, 4, 0x71, 1, 1, 0x0, 16, 240, 8, 2, 0x0, 0x0, 0x0, 0x0, 0⟩,
  ⟨.CD_TR_RX, 1, 4, 0x72, 1, 1, 0x0, 16, 240, 8, 2, 0x0, 0x0, 0x0, 0x0, 0⟩,
  ⟨.HP_TR_TX, 0, 0, 0x40, 1, 1, 0x0, 16, 240, 8, 2, 0x0, 0x0, 0x0, 0x0, 0⟩,
  ⟨.HP_TR_RX, 0, 0, 0x41, 1, 1, 0x0, 16, 240, 8, 2, 0x0, 0x0, 0x0, 0x0, 0⟩,
  ⟨.CD_GW_CNT, 1, 4, 0x73, 1, 1, 0x0, 8, 5, 8, 1, 0x0, 0x0, 0x0, 0x0, 0⟩,
  ⟨.HP_ROLE, 0, 0, 0x60, 1, 1, 0x0, 8, 1, 8, 1, 0x0, 0x100, 0x0, 0x0, 0⟩,
  ⟨.HP_BRIDGE_CMD, 0, 0, 0x60, 1, 1, 0x8, 8, 1, 8, 1, 0x0, 0x0, 0x0, 0x1ff, 12⟩,
  ⟨.HP_LEASE_CFG, 0, 0, 0x60, 1, 1, 0x10, 8, 1, 8, 1, 0x7fffffffffff9, 0x0, 0x0, 0x0, 0⟩,
  ⟨.HP_HB_STS, 0, 0, 0x60, 1, 1, 0x18, 8, 1, 8, 1, 0x0, 0xc, 0x0, 0x0, 0⟩,
  ⟨.HP_CKPT_AREA, 0, 0, 0x60, 1, 1, 0x20, 8, 1, 8, 1, 0xffffffffe0001, 0x0, 0x0, 0x0, 0⟩,
  ⟨.HP_CKPT_STS, 0, 0, 0x60, 1, 1, 0x28, 8, 1, 8, 1, 0x0, 0x0, 0x0, 0x0, 0⟩,
  ⟨.HP_FWD_CTL, 0, 0, 0x60, 1, 1, 0x30, 8, 1, 8, 1, 0x3fff, 0x0, 0x0, 0x0, 0⟩,
  ⟨.HP_GRP_STS, 0, 0, 0x60, 1, 1, 0x38, 8, 1, 8, 1, 0x0, 0x0, 0x0, 0x0, 0⟩,
  ⟨.HP_GRP_MEMBER, 0, 0, 0x60, 1, 1, 0x100, 16, 16, 8, 2, 0x0, 0x0, 0x0, 0x0, 0⟩,
  ⟨.HP_HOST_SHARE, 0, 0, 0x60, 1, 1, 0x200, 8, 2, 8, 1, 0xffffffffffffffff, 0x0, 0x0, 0x0, 0⟩,
  ⟨.HP_HQ, 0, 0, 0x60, 1, 1, 0x1000, 32, 32, 8, 2, 0x7fffffffff01f, 0x0, 0x0, 0x0, 0⟩,
  ⟨.HP_HQS, 0, 0, 0x60, 1, 1, 0x1010, 32, 32, 8, 2, 0x0, 0x0, 0x0, 0x0, 0⟩,
  ⟨.HP_HQ_DB, 0, 0, 0x60, 1, 1, 0x10000, 8, 32, 8, 1, 0xffffffff, 0x0, 0x0, 0x0, 0⟩,
  ⟨.SN_DISC, 10, 10, 0x0, 1, 1, 0x200, 8, 16, 8, 1, 0x0, 0x0, 0x0, 0x0, 0⟩,
  ⟨.SN_DISC_LAST, 10, 10, 0x0, 1, 1, 0x280, 8, 16, 8, 1, 0x0, 0x0, 0x0, 0x0, 0⟩,
  ⟨.HP_CLK_OCC, 0, 0, 0x10, 1, 1, 0xc80, 8, 16, 8, 1, 0x0, 0x0, 0x0, 0x0, 0⟩,
  ⟨.SN_CCLR, 10, 10, 0x0, 1, 1, 0x100, 8, 1, 8, 1, 0x0, 0x0, 0x0, 0x3fffffffffffff8, 58⟩,
  ⟨.SN_CCLR_RES, 10, 10, 0x0, 1, 1, 0x108, 8, 1, 8, 1, 0x0, 0x0, 0x0, 0x0, 0⟩,
  ⟨.CD_BK_SB, 1, 4, 0x400, 1, 384, 0x1400, 8, 32, 8, 1, 0x0, 0x0, 0x0, 0x0, 0⟩,
  ⟨.CD_DMAQ, 1, 4, 0x51, 1, 1, 0x0, 64, 4096, 8, 8, 0x0, 0x0, 0x0, 0x0, 0⟩,
  ⟨.CD_DMAQ_STS, 1, 4, 0x50, 1, 1, 0x800, 8, 1, 8, 1, 0x0, 0x0, 0x0, 0x0, 0⟩,
  ⟨.SN_CMD, 10, 10, 0x0, 1, 1, 0x0, 8, 1, 8, 1, 0x0, 0x0, 0x0, 0xfffff, 20⟩,
  ⟨.SN_STS, 10, 10, 0x0, 1, 1, 0x8, 8, 1, 8, 1, 0x0, 0x0, 0x0, 0x0, 0⟩,
  ⟨.SN_CTL, 10, 10, 0x0, 1, 1, 0x10, 8, 1, 8, 1, 0x1ffff, 0x0, 0x0, 0x0, 0⟩,
  ⟨.SN_TRC_CTL, 10, 10, 0x1, 1, 1, 0x0, 8, 1, 8, 1, 0xffff03, 0x0, 0x0, 0x0, 0⟩,
  ⟨.SN_TRC_RING, 10, 10, 0x1, 1, 1, 0x8, 8, 1, 8, 1, 0xffffffffff00f, 0x0, 0x0, 0x0, 0⟩,
  ⟨.SN_TRC_PTR, 10, 10, 0x1, 1, 1, 0x10, 8, 1, 8, 1, 0x1fffff00000000, 0x0, 0x0, 0x0, 0⟩]

/-- Register cards, part 4, in the order of the spec. -/
def cards4 : List Card := [
  ⟨.SN_TRC_STS, 10, 10, 0x1, 1, 1, 0x18, 8, 1, 8, 1, 0x0, 0x3, 0x0, 0x0, 0⟩,
  ⟨.SN_TRC_KNOT, 10, 10, 0x1, 1, 1, 0x100, 8, 8, 8, 1, 0x7ffff, 0x0, 0x0, 0x0, 0⟩,
  ⟨.SN_TRC_MARK, 10, 10, 0x1, 1, 1, 0x20, 8, 1, 8, 1, 0x0, 0x0, 0x0, 0xffffffff, 32⟩,
  ⟨.FC_PKG, 9, 9, 0x0, 1, 1, 0x0, 8, 1, 8, 1, 0x0, 0x0, 0x0, 0x0, 0⟩,
  ⟨.FC_GRAVE, 9, 9, 0x0, 1, 1, 0x8, 8, 2, 8, 1, 0x0, 0x0, 0x0, 0x0, 0⟩,
  ⟨.FC_CTL, 9, 9, 0x10, 1, 5, 0x0, 8, 1, 8, 1, 0x1ffff001fffff, 0x0, 0x0, 0x0, 0⟩,
  ⟨.FC_STS, 9, 9, 0x10, 1, 5, 0x8, 8, 1, 8, 1, 0x0, 0xf, 0x0, 0x0, 0⟩,
  ⟨.FC_CMD, 9, 9, 0x10, 1, 5, 0x10, 8, 1, 8, 1, 0x0, 0x0, 0x0, 0xffffffff0000000f, 4⟩,
  ⟨.FC_LOG_PTR, 9, 9, 0x10, 1, 5, 0x18, 8, 1, 8, 1, 0x3fc03fe00, 0x0, 0x0, 0x0, 0⟩,
  ⟨.FC_LOG_DF, 9, 9, 0x20, 1, 5, 0x0, 64, 256, 8, 8, 0x0, 0x0, 0x0, 0x0, 0⟩,
  ⟨.FC_LOG_C, 9, 9, 0x30, 1, 5, 0x0, 64, 512, 8, 8, 0x0, 0x0, 0x0, 0x0, 0⟩,
  ⟨.FC_INJ, 9, 9, 0x0, 1, 1, 0x100, 8, 1, 8, 1, 0x0, 0x0, 0x0, 0xfffffffffff, 44⟩,
  ⟨.FC_INJ_SLOT, 9, 9, 0x0, 1, 1, 0x108, 8, 8, 8, 1, 0x0, 0x0, 0x0, 0x0, 0⟩,
  ⟨.KS_ID, 7, 7, 0x0, 1, 1, 0x0, 8, 1, 8, 1, 0x0, 0x0, 0x0, 0x0, 0⟩,
  ⟨.KS_INFO, 7, 7, 0x0, 1, 1, 0x8, 8, 1, 8, 1, 0x0, 0x0, 0x0, 0x0, 0⟩,
  ⟨.KS_STS, 7, 7, 0x0, 1, 1, 0x10, 8, 1, 8, 1, 0x0, 0x0, 0x0, 0x0, 0⟩,
  ⟨.KS_E_PKG, 7, 7, 0x0, 1, 1, 0x18, 8, 1, 8, 1, 0x0, 0x0, 0x0, 0x0, 0⟩,
  ⟨.KS_E_CH, 7, 7, 0x0, 1, 1, 0x20, 8, 4, 8, 1, 0x0, 0x0, 0x0, 0x0, 0⟩,
  ⟨.KS_CNT, 7, 7, 0x0, 1, 1, 0x40, 8, 1, 8, 1, 0x0, 0x0, 0x0, 0x0, 0⟩,
  ⟨.KS_RAIL, 7, 7, 0x1, 1, 1, 0x0, 8, 13, 8, 1, 0x0, 0x0, 0x0, 0x0, 0⟩,
  ⟨.KS_AUDIT, 7, 7, 0x2, 1, 1, 0x0, 32, 1024, 8, 4, 0x0, 0x0, 0x0, 0x0, 0⟩,
  ⟨.KS_PUBKEY, 7, 7, 0x3, 1, 1, 0x0, 8, 112, 8, 1, 0x0, 0x0, 0x0, 0x0, 0⟩,
  ⟨.HP_KS_MB, 0, 0, 0x70, 1, 1, 0x0, 8, 1, 8, 1, 0x0, 0x0, 0x0, 0xffffffff0001ffff, 20⟩,
  ⟨.HP_KS_MBAUX, 0, 0, 0x70, 1, 1, 0x8, 8, 1, 8, 1, 0xffffffff, 0x0, 0x0, 0x0, 0⟩,
  ⟨.HP_KS_MBBUF, 0, 0, 0x70, 1, 1, 0x1000, 8, 512, 8, 1, 0xffffffffffffffff, 0x0, 0x0, 0x0, 0⟩,
  ⟨.HP_BOOT_STS, 0, 0, 0x80, 1, 1, 0x0, 8, 1, 8, 1, 0x0, 0x0, 0x0, 0x0, 0⟩,
  ⟨.HP_FW_CMD, 0, 0, 0x80, 1, 1, 0x8, 8, 1, 8, 1, 0x0, 0x0, 0x0, 0x1ffff000f, 4⟩,
  ⟨.HP_FW_ARG0, 0, 0, 0x80, 1, 1, 0x10, 8, 1, 8, 1, 0xffffffffffffffff, 0x0, 0x0, 0x0, 0⟩,
  ⟨.HP_FW_ARG1, 0, 0, 0x80, 1, 1, 0x18, 8, 1, 8, 1, 0xffffffff01ffffff, 0x0, 0x0, 0x0, 0⟩,
  ⟨.HP_FW_STS, 0, 0, 0x80, 1, 1, 0x20, 8, 1, 8, 1, 0x0, 0x0, 0x0, 0x0, 0⟩,
  ⟨.HP_FW_VER, 0, 0, 0x80, 1, 1, 0x28, 8, 1, 8, 1, 0x0, 0x0, 0x0, 0x0, 0⟩,
  ⟨.HP_SVN, 0, 0, 0x80, 1, 1, 0x30, 8, 1, 8, 1, 0x0, 0x0, 0x0, 0x0, 0⟩,
  ⟨.HP_FW_COMP, 0, 0, 0x80, 1, 1, 0x100, 8, 15, 8, 1, 0x0, 0x0, 0x0, 0x0, 0⟩,
  ⟨.HP_CERT_CMD, 0, 0, 0x80, 1, 1, 0x40, 8, 1, 8, 1, 0x0, 0x0, 0x0, 0xf, 4⟩,
  ⟨.HP_CERT_ADDR, 0, 0, 0x80, 1, 1, 0x48, 8, 1, 8, 1, 0xffffffffffffffff, 0x0, 0x0, 0x0, 0⟩,
  ⟨.HP_CERT, 0, 0, 0x80, 1, 1, 0x200, 8, 16, 8, 1, 0x0, 0x0, 0x0, 0x0, 0⟩,
  ⟨.HP_VCORE, 0, 0, 0x90, 1, 1, 0x0, 8, 4, 8, 1, 0x3ff, 0x10000000, 0x0, 0x0, 0⟩,
  ⟨.HP_THERM, 0, 0, 0x90, 1, 1, 0x100, 8, 1, 8, 1, 0x0, 0x3fffff, 0x0, 0x0, 0⟩,
  ⟨.HP_THERM_OCC, 0, 0, 0x90, 1, 1, 0x180, 8, 6, 8, 1, 0x0, 0x0, 0x0, 0x0, 0⟩]

/-- Every register card of the spec. -/
def cards : List Card := cards0 ++ cards1 ++ cards2 ++ cards3 ++ cards4

/-- The unit of a management-space address (R6). -/
def adrUnit (a : Nat) : Nat := a / 0x100000000
/-- The block of a management-space address (R6). -/
def adrBlk (a : Nat) : Nat := (a / 0x100000) % 0x1000
/-- The byte offset of a management-space address (R6). -/
def adrOff (a : Nat) : Nat := a % 0x100000

/-- Where an address lies within a card: unit, block index, first and second offset index. -/
structure RegIdx where
  name : RegName
  u : Nat
  k : Nat
  i : Nat
  j : Nat
  deriving DecidableEq, Repr

/-- The indices of address `a` within card `c`, when the card covers it. -/
def Card.at? (c : Card) (a : Nat) : Option RegIdx :=
  let u := adrUnit a
  let b := adrBlk a
  let o := adrOff a
  if c.u0 ≤ u ∧ u ≤ c.u1 ∧ c.blk ≤ b ∧ (b - c.blk) % c.bs = 0 ∧ (b - c.blk) / c.bs < c.bc ∧ c.off ≤ o then
    let d := o - c.off
    let i := d / c.s1
    let r := d % c.s1
    let j := r / c.s2
    if i < c.c1 ∧ j < c.c2 ∧ r % c.s2 = 0 then some ⟨c.name, u, (b - c.blk) / c.bs, i, j⟩ else none
  else none

/-- The card that covers address `a`, and where it lies in it (R10: none is an unassigned address). -/
def findCard (a : Nat) : Option (Card × RegIdx) :=
  cards.findSome? (fun c => (c.at? a).map (fun x => (c, x)))

/-- R260: whether a ring exists at interposer ring index `i` (Table 7-2 and the card of PI_RING). Banks 3n to 3n + 2 belong
to compute die n, banks 12 and 13 to the hub; a rope reaches no bank of its own die; only λ0 to λ15 of the four I1 ropes
reach the summing receivers. -/
def piRingExists (i : Nat) : Bool :=
  if i < 408 then true
  else
    let s := (i - 408) / 22
    let d := (i - 408) % 22
    let rho := s / 17
    let lam := s % 17
    if 10 ≤ rho then false
    else if d < 14 then (if rho < 8 then decide (d / 3 ≠ rho / 2) else decide (d < 12))
    else decide (rho < 8) && decide (rho % 2 = 1) && decide (lam < 16)

/-- Reset values of the registers of brick `b`, by offset. -/
def resetBrick (b o : Nat) : Nat :=
  if o = 0x1000 then 0x00007F7F7F7F0000
  else if o = 0x1008 then 0x10000 + b
  else if 0x1100 ≤ o ∧ o < 0x1140 then 0x0000000404000004
  else if 0x2000 ≤ o ∧ o < 0x3000 then (if o % 0x400 = 0x280 then 1 else 0)
  else if 0x4000 ≤ o ∧ o < 0x5000 then (if o % 0x80 = 64 ∨ o % 0x80 = 72 then 0x7F7F7F7F7F7F7F7F else 0)
  else if 0x6000 ≤ o ∧ o < 0x8000 then (if o % 0x800 = 1280 then 0xF00000 else 0)
  else if o = 0x8000 then 0x0000006400000000
  else 0

/-- Reset values of the registers of a compute die and its channel slice. -/
def resetDie (b o : Nat) : Nat :=
  if 0x400 ≤ b ∧ b < 0x400 + 384 then resetBrick (b - 0x400) o
  else if b = 0x010 ∧ o = 8 then 100000
  else if b = 0x900 then (if o = 0x100 then 0x1F4 else if o = 0 then 0x59 else if o = 0x48 then 0xFFFFFFFFFF else 0)
  else 0

/-- The reset value of the register at a management-space address, as its card gives it; 0 where no register stands. Where a
card gives a fuse or a strap in place of a number, see assumption 2. -/
def resetNat (a : Nat) : Nat :=
  let u := adrUnit a
  let b := adrBlk a
  let o := adrOff a
  if 1 ≤ u ∧ u ≤ 4 then resetDie b o
  else if u = 0 then
    if b = 0x010 then (if o = 0xB08 then 0x7F else if 0x800 ≤ o ∧ o < 0x990 then 0xFFFFFFFFFFFFFFFF else 0)
    else if b = 0x060 then (if o = 0x30 then 0x1F4 else if o = 0x200 then 0x10 else 0)
    else if b = 0x090 ∧ o < 32 then 0x02EE02EE
    else 0
  else if u = 5 then
    if b = 0x0F0 then (if o = 0 then 0x5018 else 0)
    else if b < 0x80 ∧ b % 16 = 2 ∧ o < 8 * 108 then 0x8000
    else 0
  else if u = 6 then
    if b = 0 then (if o = 0 then 0x5018 else 0)
    else if b = 2 ∧ o < 8 * 4148 then (if piRingExists (o / 8) then 0x8000 else 0)
    else if b = 0x10 then (if o = 0 then 0x80016221829500E3 else if o = 0x88 then 0x0003FFFFFFFFFFFF else 0)
    else 0
  else if u = 8 then (if b = 0 ∧ o = 8 then 0xA000 else 0)
  else if u = 9 then (if 0x10 ≤ b ∧ b < 0x15 ∧ o = 0 then 0x64 else 0)
  else if u = 10 then (if b = 0 ∧ o = 0x10 then 0x7D0 else 0)
  else 0

/-- The reset value of a register, as a word. -/
def resetWord (a : Nat) : Word := BitVec.ofNat 64 (resetNat a)

end Sys2Proof.Machine
end

