-- ==== Sys2Proof/Machine/Bits.lean ====
section
/-! DEFINITION. Bit-field, sign-extension and byte-order helpers. -/
namespace Sys2Proof.Machine

/-- Bits `hi` to `lo` of a word, as a number. -/
def bitsOf (w : Word) (hi lo : Nat) : Nat := (w.toNat / 2 ^ lo) % 2 ^ (hi + 1 - lo)

/-- The word with ones in bits `hi` to `lo`. -/
def maskOf (hi lo : Nat) : Word := BitVec.ofNat 64 ((2 ^ (hi + 1 - lo) - 1) * 2 ^ lo)

/-- The word `w` with bits `hi` to `lo` replaced by the low bits of `v`. -/
def putBits (w : Word) (hi lo v : Nat) : Word :=
  (w &&& ~~~ maskOf hi lo) ||| BitVec.ofNat 64 ((v % 2 ^ (hi + 1 - lo)) * 2 ^ lo)

/-- Bit `i` of a number. -/
def bitN (x i : Nat) : Nat := (x / 2 ^ i) % 2

/-- Bits `hi` to `lo` of a number. -/
def bitsN (x hi lo : Nat) : Nat := (x / 2 ^ lo) % 2 ^ (hi + 1 - lo)

/-- A number with `n` bits from `lo` replaced by `v`. -/
def putN (x lo n v : Nat) : Nat :=
  x % 2 ^ lo + (v % 2 ^ n) * 2 ^ lo + (x / 2 ^ (lo + n)) * 2 ^ (lo + n)

/-- Two's complement value of the low `n` bits of `x`. -/
def sextN (x n : Nat) : Int :=
  let v := x % 2 ^ n
  if v < 2 ^ (n - 1) then (v : Int) else (v : Int) - (2 ^ n : Nat)

/-- An integer as an `n`-bit two's complement pattern. -/
def wrapN (v : Int) (n : Nat) : Nat := (v % (2 ^ n : Nat)).toNat

/-- R16: little-endian value of a byte list. -/
def leVal : List Byte → Nat
  | [] => 0
  | b :: t => b.toNat + 256 * leVal t

/-- R16: the low `n` bytes of a number, little-endian. -/
def leBytes : Nat → Nat → List Byte
  | 0, _ => []
  | n + 1, v => BitVec.ofNat 8 v :: leBytes n (v / 256)

/-- Number of ones among the low `n` bits. -/
def popN : Nat → Nat → Nat
  | 0, _ => 0
  | n + 1, x => x % 2 + popN n (x / 2)

/-- A Boolean as a bit. -/
def b2n (b : Bool) : Nat := if b then 1 else 0

/-- Add to a counter that saturates at `2 ^ n - 1`. -/
def satAdd (n x k : Nat) : Nat := min (x + k) (2 ^ n - 1)

/-- Add to a counter that wraps at `2 ^ n`. -/
def wrapAdd (n x k : Nat) : Nat := (x + k) % 2 ^ n

/-- Replace element `i` of a list. -/
def listPut {α : Type} : List α → Nat → α → List α
  | [], _, _ => []
  | _ :: t, 0, v => v :: t
  | h :: t, i + 1, v => h :: listPut t i v

/-- Remove element `i` of a list. -/
def listDel {α : Type} : List α → Nat → List α
  | [], _ => []
  | _ :: t, 0 => t
  | h :: t, i + 1 => h :: listDel t i

/-- Index of the first element that satisfies `p`. -/
def firstIdx {α : Type} (p : α → Bool) : List α → Option Nat
  | [] => none
  | h :: t => if p h then some 0 else (firstIdx p t).map (· + 1)

/-- CRC-32C, one bit step of the reflected form. -/
def crc32cBit (c : Nat) : Nat := if c % 2 = 1 then (c / 2) ^^^ 0x82F63B78 else c / 2

/-- CRC-32C over bytes, from register value `c`. -/
def crc32cFrom : Nat → List Byte → Nat
  | c, [] => c
  | c, b :: t =>
    let x := c ^^^ b.toNat
    crc32cFrom (crc32cBit (crc32cBit (crc32cBit (crc32cBit (crc32cBit (crc32cBit (crc32cBit (crc32cBit x)))))))) t

/-- CRC-32C (R21, R28): initial value and final inversion of all ones. -/
def crc32c (bs : List Byte) : Nat := crc32cFrom 0xFFFFFFFF bs ^^^ 0xFFFFFFFF

end Sys2Proof.Machine
end

