-- ==== Sys2Proof/Machine/Num.lean ====
section
/-! DEFINITION. The number formats of the brick (R55-R62) as exact values, the two rounding modes with their generator
(R68), and narrowing to block-scaled formats (R69). Every format's values are dyadic, so a value is a sign, a magnitude and
a power of two, and sums and products are exact before the one rounding. -/
namespace Sys2Proof.Machine

/-- Table 3-3: the format codes. -/
inductive Fmt where
  | n4 | i4 | t2 | n3 | n8 | f16 | f32 | i32 | raw
  deriving DecidableEq, Repr

/-- Table 3-3: the format of a code; none for a reserved code. -/
def fmtOf : Nat → Option Fmt
  | 0 => some .n4 | 1 => some .i4 | 2 => some .t2 | 3 => some .n3 | 4 => some .n8
  | 5 => some .f16 | 6 => some .f32 | 7 => some .i32 | 8 => some .raw | _ => none

/-- Table 3-3: the code of a format. -/
def Fmt.code : Fmt → Nat
  | .n4 => 0 | .i4 => 1 | .t2 => 2 | .n3 => 3 | .n8 => 4 | .f16 => 5 | .f32 => 6 | .i32 => 7 | .raw => 8

/-- Table 2-3: the block-scaled formats. -/
def Fmt.narrow : Fmt → Bool
  | .n4 | .i4 | .t2 | .n3 | .n8 => true
  | _ => false

/-- Bits of one element in a vector register; N3 is held widened to N4 (R58). -/
def Fmt.bits : Fmt → Nat
  | .n4 | .i4 | .n3 => 4 | .t2 => 2 | .n8 => 8 | .f16 => 16 | .f32 | .i32 => 32 | .raw => 32

/-- Table 3-3: block bytes in memory. -/
def Fmt.blockBytes : Fmt → Nat
  | .n4 | .i4 => 8 | .t2 => 4 | .n3 => 6 | .n8 => 16 | .f16 => 32 | .f32 | .i32 | .raw => 64

/-- Table 2-8: blocks per vector register. -/
def Fmt.blocks (f : Fmt) : Nat := 512 / (16 * f.bits)

/-- An exact value: NaN (poison), an infinity, or `± m * 2^e`. The sign of a zero is kept (R62). -/
inductive V where
  | nan
  | inf (neg : Bool)
  | num (neg : Bool) (m : Nat) (e : Int)
  deriving DecidableEq, Repr

def V.zero : V := .num false 0 0

def V.isNan : V → Bool
  | .nan => true
  | _ => false

/-- NaN or infinity: a source element that poisons a narrowed block (R69). -/
def V.nonFinite : V → Bool
  | .num .. => false
  | _ => true

def V.isZero : V → Bool
  | .num _ m _ => m == 0
  | _ => false

/-- An integer times a power of two. -/
def vInt (v : Int) (e : Int) : V := .num (decide (v < 0)) v.natAbs e

/-- `± m * 2^e` in units of `2^e0`, for `e0 ≤ e`. -/
def vUnits (neg : Bool) (m : Nat) (e e0 : Int) : Int :=
  let x := m * 2 ^ (e - e0).toNat
  if neg then -(x : Int) else x

def V.neg : V → V
  | .nan => .nan
  | .inf s => .inf (!s)
  | .num s m e => .num (!s) m e

def V.abs : V → V
  | .nan => .nan
  | .inf _ => .inf false
  | .num _ m e => .num false m e

/-- Exact addition. A sum that is exactly zero is +0 unless both terms are −0 (R62). -/
def V.add : V → V → V
  | .nan, _ => .nan
  | _, .nan => .nan
  | .inf s, .inf t => if s = t then .inf s else .nan
  | .inf s, .num .. => .inf s
  | .num .., .inf t => .inf t
  | .num s m e, .num t n f =>
    let e0 := min e f
    let x := vUnits s m e e0 + vUnits t n f e0
    if x = 0 then .num (s && t && m == 0 && n == 0) 0 0 else vInt x e0

def V.sub (a b : V) : V := a.add b.neg

/-- Exact multiplication. -/
def V.mul : V → V → V
  | .nan, _ => .nan
  | _, .nan => .nan
  | .inf s, .inf t => .inf (s != t)
  | .inf s, .num t m _ => if m = 0 then .nan else .inf (s != t)
  | .num s m _, .inf t => if m = 0 then .nan else .inf (s != t)
  | .num s m e, .num t n f => .num (s != t) (m * n) (e + f)

/-- Multiply by `2^k`. -/
def V.scale (k : Int) : V → V
  | .num s m e => .num s m (e + k)
  | v => v

/-- The exact sum of a list of terms; −0 only when every term is −0 (R62). -/
def vSum : List V → V
  | [] => .zero
  | [v] => v
  | v :: w :: t => vSum' (v.add w) t
where
  vSum' (acc : V) : List V → V
    | [] => acc
    | v :: t => vSum' (acc.add v) t

/-- `a < b` as values; false when either is NaN. -/
def V.lt : V → V → Bool
  | .nan, _ => false
  | _, .nan => false
  | .inf s, .inf t => s && !t
  | .inf s, .num .. => s
  | .num .., .inf t => !t
  | .num s m e, .num t n f =>
    let e0 := min e f
    decide (vUnits s m e e0 < vUnits t n f e0)

/-- `a = b` as values; false when either is NaN; −0 equals +0. -/
def V.eq (a b : V) : Bool := !a.isNan && !b.isNan && !a.lt b && !b.lt a

/-- floor(log2 |v|) of a nonzero finite value. -/
def V.log2 : V → Int
  | .num _ m e => (Nat.log2 m : Int) + e
  | _ => 0

/-- One rounding, as R68 applies it to one element: to nearest even, or stochastic with 16 bits. -/
inductive Rnd where
  | rne
  | stoch (u : Nat)
  deriving DecidableEq, Repr

/-- `m * 2^e` in units of `2^q`, rounded to an integer under R68. -/
def roundUnits (r : Rnd) (m : Nat) (e q : Int) : Nat :=
  if q ≤ e then m * 2 ^ (e - q).toNat
  else
    let d := (q - e).toNat
    match r with
    | .rne =>
      let fl := m / 2 ^ d
      let rm := 2 * (m % 2 ^ d)
      if rm < 2 ^ d then fl else if 2 ^ d < rm then fl + 1 else fl + fl % 2
    | .stoch u => (m * 2 ^ 16 + u * 2 ^ d) / 2 ^ (d + 16)

/-- R68: one shift of the 32-bit Fibonacci generator. -/
def lfsrStep (g : Nat) : Nat :=
  (g * 2 + (bitN g 31 + bitN g 21 + bitN g 1 + bitN g 0) % 2) % 2 ^ 32

/-- `n` shifts of the generator. -/
def lfsrRun : Nat → Nat → Nat
  | 0, g => g
  | n + 1, g => lfsrRun n (lfsrStep g)

/-- The rounding in force: the generator state and whether rounding is stochastic. -/
structure Rg where
  g : Nat
  stoch : Bool
  deriving DecidableEq, Repr

/-- R68: the rounding of one element, and the generator after it. -/
def Rg.draw (r : Rg) : Rnd × Rg :=
  if r.stoch then
    let g := lfsrRun 16 r.g
    (.stoch (g % 65536), { r with g := g })
  else (.rne, r)

/-- The quantum exponent of a float format with `p` significant bits and least exponent `emin`, at a value. -/
def quantum (p : Nat) (emin : Int) (v : V) : Int := max (v.log2 - ((p : Int) - 1)) (emin - ((p : Int) - 1))

/-- A finite value rounded to `p` significant bits above `emin`; a zero stays a zero of its sign. -/
def roundTo (p : Nat) (emin : Int) (r : Rnd) : V → V
  | .num s m e =>
    if m = 0 then .num s 0 0
    else
      let q := quantum p emin (.num s m e)
      .num s (roundUnits r m e q) q
  | v => v

/-- Parameters of a float format: significant bits, least and greatest exponent. -/
def floatParams : Fmt → Nat × Int × Int
  | .f16 => (11, -14, 15)
  | _ => (24, -126, 127)

/-- R62: the canonical poison NaN. -/
def poisonNan : Fmt → Nat
  | .f16 => 0x7E01
  | _ => 0x7FC00001

/-- The bit pattern of a value that the float format holds exactly; beyond its range it is an infinity. -/
def encFloat (f : Fmt) (v : V) : Nat :=
  let (p, emin, emax) := floatParams f
  let sb := if f = .f16 then 2 ^ 15 else 2 ^ 31
  let infBits := if f = .f16 then 0x7C00 else 0x7F800000
  match v with
  | .nan => poisonNan f
  | .inf s => (if s then sb else 0) + infBits
  | .num s m e =>
    let sg := if s then sb else 0
    if m = 0 then sg
    else
      let l := v.log2
      if emax < l then sg + infBits
      else
        let q := quantum p emin v
        let n := if q ≤ e then m * 2 ^ (e - q).toNat else m / 2 ^ (q - e).toNat
        if l < emin then sg + n else sg + (l - emin).toNat * 2 ^ (p - 1) + n

/-- Round a value into F16 or F32 (R67, R68): one rounding of a finite exact value; NaN and infinities take none. -/
def roundFloat (f : Fmt) (r : Rg) (v : V) : Nat × Rg :=
  let (p, emin, _) := floatParams f
  match v with
  | .num .. =>
    let (d, r') := r.draw
    (encFloat f (roundTo p emin d v), r')
  | _ => (encFloat f v, r)

/-- The value of an F16 or F32 bit pattern. -/
def decFloat (f : Fmt) (x : Nat) : V :=
  let (p, emin, emax) := floatParams f
  let eb := if f = .f16 then 5 else 8
  let s := bitN x (p - 1 + eb) == 1
  let ex := (x / 2 ^ (p - 1)) % 2 ^ eb
  let mn := x % 2 ^ (p - 1)
  if ex = 0 then .num s mn (emin - ((p : Int) - 1))
  else if (ex : Int) = emax - emin + 2 then (if mn = 0 then .inf s else .nan)
  else .num s (2 ^ (p - 1) + mn) (emin - ((p : Int) - 1) + ((ex : Int) - 1))

/-- The value of a finite F32 pattern rounded to F32 and back. -/
def roundF32 (r : Rg) (v : V) : V × Rg :=
  let (x, r') := roundFloat .f32 r v
  (decFloat .f32 x, r')

/-- Tables 2-5 to 2-7, R59, R61: the value of one register element of a format, before its block scale. -/
def decElem (f : Fmt) (x : Nat) : V :=
  match f with
  | .n4 | .n3 =>
    let s := bitN x 3 == 1
    let ex := bitsN x 2 1
    if x % 16 = 8 then .zero
    else if ex = 0 then .num s (x % 2) (-1) else .num s (2 + x % 2) ((ex : Int) - 2)
  | .i4 => vInt (sextN x 4) 0
  | .t2 => match x % 4 with
    | 1 => .num false 1 0
    | 3 => .num true 1 0
    | _ => .zero
  | .n8 =>
    let s := bitN x 7 == 1
    let ex := bitsN x 6 3
    if x % 128 = 127 then .nan
    else if ex = 0 then .num s (x % 8) (-9) else .num s (8 + x % 8) ((ex : Int) - 10)
  | .f16 => decFloat .f16 (x % 65536)
  | .f32 => decFloat .f32 x
  | .i32 | .raw => vInt (sextN x 32) 0

/-- R58: an N3 code widened to N4. -/
def widenN3 (x : Nat) : Nat := if x % 4 = 0 then 0 else (x / 4 % 2) * 8 + x % 4

/-- R98: an N4 code stored as N3; the flag says that its magnitude exceeded 1.5. -/
def storeN3 (x : Nat) : Nat × Bool :=
  let s := if x % 16 = 8 then 0 else (x / 8 % 2) * 4
  if 3 < x % 8 then (s + 3, true) else (s + x % 8, false)

/-- R69: the amount by which floor(log2 m) exceeds the scale exponent. -/
def narrowBias : Fmt → Int
  | .n4 | .i4 => 2
  | .n8 => 8
  | _ => 0

/-- R69: an element already divided by its block scale, rounded and clipped into the format. -/
def encNarrow (f : Fmt) (r : Rnd) (v : V) : Nat :=
  match v with
  | .num s m e =>
    if m = 0 then 0
    else
      match f with
      | .n4 =>
        let q := quantum 2 0 v
        let h := roundUnits r m e q * 2 ^ (q + 1).toNat
        let c := if h < 5 then h else if h < 6 then 5 else if h < 8 then 5 else if h < 12 then 6 else 7
        let c := if h = 6 then 5 else c
        if c = 0 then 0 else c + (if s then 8 else 0)
      | .n3 =>
        let c := min (roundUnits r m e (-1)) 3
        if c = 0 then 0 else c + (if s then 8 else 0)
      | .i4 =>
        let n := roundUnits r m e 0
        if s then (16 - min n 8) % 16 else min n 7
      | .t2 =>
        let n := if v.log2 ≥ -1 then 1 else min (roundUnits r m e 0) 1
        if n = 0 then 0 else if s then 3 else 1
      | .n8 =>
        let w := roundTo 4 (-6) r v
        let c :=
          match w with
          | .num _ n q =>
            if n = 0 then 0
            else if 8 < w.log2 then 0x7E
            else if w.log2 < -6 then n * 2 ^ (q + 9).toNat
            else
              let mn := if q ≤ w.log2 - 3 then n / 2 ^ (w.log2 - 3 - q).toNat else n * 2 ^ (q - (w.log2 - 3)).toNat
              min ((w.log2 + 7).toNat * 8 + (mn - 8)) 0x7E
          | _ => 0
        if c = 0 then 0 else c + (if s then 128 else 0)
      | _ => 0
  | _ => 0

/-- Greatest floor(log2) among the nonzero values of a block, none when every value is zero. -/
def blockLog2 : List V → Option Int
  | [] => none
  | v :: t =>
    match blockLog2 t with
    | none => if v.isZero then none else some v.log2
    | some l => if v.isZero then some l else some (max l v.log2)

/-- Round and encode the elements of a block one after the other. -/
def encNarrowAll (f : Fmt) (k : Int) : Rg → List V → List Nat × Rg
  | r, [] => ([], r)
  | r, v :: t =>
    let (d, r1) := r.draw
    let (xs, r2) := encNarrowAll f k r1 t
    (encNarrow f d (v.scale k) :: xs, r2)

/-- One narrowed or converted block: its element codes, scale byte, flags, and what R69 counts. -/
structure Blk where
  codes : List Nat
  scale : Nat
  sat : Bool
  poison : Bool
  satCnt : Nat
  undCnt : Nat
  deriving DecidableEq, Repr

/-- R69: narrowing of one block. -/
def narrowBlock (f : Fmt) (r : Rg) (vs : List V) : Blk × Rg :=
  if vs.any V.nonFinite then (⟨vs.map (fun _ => 0), 0xFF, false, true, 0, 0⟩, r)
  else
    match blockLog2 vs with
    | none => (⟨vs.map (fun _ => 0), 0, false, false, 0, 0⟩, r)
    | some l =>
      let s := l - narrowBias f
      let sc : Int := if 127 < s then 127 else if s < -127 then -127 else s
      let (xs, r') := encNarrowAll f (-sc) r vs
      (⟨xs, (sc + 127).toNat, decide (127 < s), false, b2n (decide (127 < s)), b2n (decide (s < -127))⟩, r')

/-- Round and encode float elements one after the other. -/
def encFloatAll (f : Fmt) : Rg → List V → List Nat × Rg
  | r, [] => ([], r)
  | r, v :: t =>
    let (x, r1) := roundFloat f r v
    let (xs, r2) := encFloatAll f r1 t
    (x :: xs, r2)

/-- R108: a value converted to I32: rounded and saturated; NaN is 0x8000_0000 and poisons its block. -/
def toI32 (r : Rg) (v : V) : Nat × Rg :=
  match v with
  | .nan => (0x80000000, r)
  | .inf s => (if s then 0x80000000 else 0x7FFFFFFF, r)
  | .num s m e =>
    let (d, r') := r.draw
    let n := roundUnits d m e 0
    (if s then wrapN (-(min n (2 ^ 31) : Nat)) 32 else min n (2 ^ 31 - 1), r')

def toI32All : Rg → List V → List Nat × Rg
  | r, [] => ([], r)
  | r, v :: t =>
    let (x, r1) := toI32 r v
    let (xs, r2) := toI32All r1 t
    (x :: xs, r2)

/-- A block of values re-encoded by the rule of its destination format (R69, R108). -/
def encBlock (f : Fmt) (r : Rg) (vs : List V) : Blk × Rg :=
  match f with
  | .n4 | .i4 | .t2 | .n3 | .n8 => narrowBlock f r vs
  | .i32 | .raw =>
    let (xs, r') := toI32All r vs
    (⟨xs, 0x7F, false, vs.any V.isNan, 0, 0⟩, r')
  | .f16 | .f32 =>
    let (xs, r') := encFloatAll f r vs
    (⟨xs, 0x7F, false, vs.any V.isNan, 0, 0⟩, r')

/-- Element codes packed densely, `w` bits each, element 0 lowest (R63). -/
def packElems (w : Nat) : List Nat → Nat
  | [] => 0
  | x :: t => x % 2 ^ w + 2 ^ w * packElems w t

/-- `n` elements of `w` bits each, element 0 lowest. -/
def unpackElems (w : Nat) : Nat → Nat → List Nat
  | 0, _ => []
  | n + 1, x => x % 2 ^ w :: unpackElems w n (x / 2 ^ w)

end Sys2Proof.Machine
end

