-- ==== Sys2Proof/Machine/Tab.lean ====
section
/-! DEFINITION. Sparse data in one canonical form: a list of key and value pairs with strictly rising keys and no entry
equal to what an unlisted key reads as. The register file, memory and the per-unit records are held this way, so equal
contents are equal data. -/
namespace Sys2Proof.Machine

/-- Key and value pairs, keys strictly rising. -/
abbrev Tab (α : Type) := List (Nat × α)

/-- The value at key `k`; `d k` where nothing is listed. -/
def tabGet {α : Type} (d : Nat → α) : Tab α → Nat → α
  | [], k => d k
  | (k', v) :: t, k => if k' = k then v else tabGet d t k

/-- Remove key `k`. -/
def tabErase {α : Type} : Tab α → Nat → Tab α
  | [], _ => []
  | (k', v') :: t, k => if k' = k then tabErase t k else (k', v') :: tabErase t k

/-- Insert a key that is not listed, before the first greater one. -/
def tabIns {α : Type} : Tab α → Nat → α → Tab α
  | [], k, v => [(k, v)]
  | (k', v') :: t, k, v => if k < k' then (k, v) :: (k', v') :: t else (k', v') :: tabIns t k v

/-- Set key `k` to `v`, keeping the canonical form: storing what an unlisted key reads as removes the entry. -/
def tabSet {α : Type} [DecidableEq α] (d : Nat → α) (t : Tab α) (k : Nat) (v : α) : Tab α :=
  if v = d k then tabErase t k else tabIns (tabErase t k) k v

/-- The canonical form, above a lower bound for the keys. -/
def tabWfFrom {α : Type} [DecidableEq α] (d : Nat → α) : Nat → Tab α → Bool
  | _, [] => true
  | lo, (k, v) :: t => decide (lo ≤ k) && decide (v ≠ d k) && tabWfFrom d (k + 1) t

/-- The canonical form of a table. -/
def tabWf {α : Type} [DecidableEq α] (d : Nat → α) (t : Tab α) : Bool := tabWfFrom d 0 t

/-- Remove every entry whose key satisfies `p`: those keys read as the default again. -/
def tabDrop {α : Type} (p : Nat → Bool) (t : Tab α) : Tab α := t.filter (fun e => !p e.1)

/-- Apply `f` to the value at key `k`. -/
def tabMod {α : Type} [DecidableEq α] (d : Nat → α) (t : Tab α) (k : Nat) (f : α → α) : Tab α :=
  tabSet d t k (f (tabGet d t k))

/-- Apply `f` to the value at each key of a list. -/
def tabModKeys {α : Type} [DecidableEq α] (d : Nat → α) (f : α → α) : List Nat → Tab α → Tab α
  | [], t => t
  | k :: ks, t => tabModKeys d f ks (tabMod d t k f)

/-- Apply `f` to the value at every listed key that satisfies `p`. -/
def tabModWhere {α : Type} [DecidableEq α] (d : Nat → α) (p : Nat → Bool) (f : α → α) (t : Tab α) : Tab α :=
  tabModKeys d f ((t.map (·.1)).filter p) t

end Sys2Proof.Machine
end

