-- ==== Sys2Proof/Syntax.lean ====
section
/-! DEFINITION. The commands of the block: one constructor per row of the spec's table of operations and events. A row that is
an instruction of the Brick Instruction Set carries the ply that issues it and the fields of its word; every other row carries
what arrives with the event. -/
namespace Sys2Proof

/-- R50: a brick: its die and its index within the die. -/
structure BrickId where
  n : Die
  b : Fin 384
  deriving DecidableEq, Repr

/-- R49: one of the four plies of a brick. -/
structure PlyId where
  n : Die
  b : Fin 384
  q : Fin 4
  deriving DecidableEq, Repr

/-- Table 3-2: the fields of an instruction word besides its opcodes: destination and source register numbers, guard negate,
guard predicate, and the format-specific bits [32:0]. -/
structure IOp where
  d : Fin 32
  a : Fin 32
  b : Fin 32
  gn : Bool
  gp : Fin 8
  x : BitVec 33
  deriving DecidableEq, Repr


/-- R188: what the check bits of a line report while it is accessed: no error, a corrected error, an uncorrectable error. -/
inductive MemErr where
  | none | ce | ue
  deriving DecidableEq, Repr

/-- R256, Table 7-6: the two calibration runs of one source of an AOR session: its gain (32,768 = 1.0), its bias code in 1/16 of an ADC
step from the factory value, and its delay trim in ps. -/
structure AorCal where
  gain1 : Nat
  gain2 : Nat
  off1 : Int
  off2 : Int
  align : Int
  deriving DecidableEq, Repr

/-- Table 7-6: what a calibration calibrates: the table offset of an engaged ring or of a parked or spare one (index: the ring of the
rope's unit), a laser's wavelength offset or power-control target (index: the wavelength), a temperature sensor. -/
inductive CalKind where
  | ringEngaged | ringParked | laserWave | laserApc | sensor
  deriving DecidableEq, Repr

/-- R232: the two runs of one calibration: rings and laser wavelengths in heater steps from the factory table, power control in 1/1000 of the
factory target, sensors in 1/16 degree. -/
structure CalPart where
  kind : CalKind
  index : Nat
  run1 : Int
  run2 : Int
  deriving DecidableEq, Repr

/-- What the host's memory holds where a command finds it: pieces, each a host address and its bytes. -/
abbrev HostData := List (Nat × List Byte)

/-- R307: a response that returns to the bridge from another package: queue pair, command sequence number, STATUS (0 or 1), the 16-byte
result. -/
structure CmdResp where
  q : Fin 32
  csn : Nat
  dup : Bool
  result : BitVec 128
  deriving DecidableEq, Repr

/-- R24-R26: a wire of a bundle: link, bundle pair, direction (false from the lower-numbered die of the link's name to the other), wire:
0-31 data, 32 strobe, 33 spare. -/
structure WireRef where
  link : Fin 25
  pair : Fin 25
  dir : Bool
  wire : Fin 34
  deriving DecidableEq, Repr

/-- R47: a request of a compute die that waits for the hub: a DMA engine's, or the span-knot instruction of a ply. -/
inductive HubWait where
  | engine (e : Fin 64)
  | ply (b : Fin 384) (q : Fin 4)
  deriving DecidableEq, Repr

/-- R358: what the converters of one supply entry give for an interval: the energies of pairs A and B in nJ, the mean voltage in
0.1 mV, the mean current in 10 mA. -/
structure KsRail where
  a : Nat
  b : Nat
  v : Nat
  i : Nat
  deriving DecidableEq, Repr

/-- R375: the two calibration runs of one converter pair: gains in ppm and offsets in converter steps, against the factory trims. -/
structure KsRun where
  gain1 : Int
  gain2 : Int
  off1 : Int
  off2 : Int
  deriving DecidableEq, Repr

/-- R376: what the keystone's ROM finds in a staged image: whether it is complete, whether its signature holds, device type, hardware type,
UID, version, firmware identifier, and the base powers it holds, by entry in W. -/
structure KsHeader where
  complete : Bool
  sig : Bool
  device : Nat
  hwType : Nat
  uid : Nat
  version : Nat
  fwId : BitVec 64
  base : List (Nat × Nat)
  deriving DecidableEq, Repr

/-- R380, R382: how the SPI NOR flash behaves in a step: every access works, a read reports an error, a write fails. -/
inductive FlashIO where
  | ok | readErr | writeErr
  deriving DecidableEq, Repr

/-- R331: a unit that takes its cut: a brick, the knot engine of a course, the rest of a compute die, an optical engine, the interposer. -/
inductive SnapUnit where
  | brick (n : Die) (b : Fin 384)
  | knots (n : Die) (c : Fin 16)
  | die (n : Die)
  | engine (k : Fin 8)
  | interposer
  deriving DecidableEq, Repr

/-- R336, Table 10-5: what reaches the trace unit: a flag set (management address of its register, bit), a ledger entry's change (channel,
index, old state), a ply's change (old state), a fire of a knot (SN_TRC_KNOT entry), a rope's change (old state), a fault record (collector,
slot of the DF ring, or of the C ring); or that the unit writes its oldest record to the ring. -/
inductive TraceIn where
  | flag (addr : Nat) (bit : Fin 64)
  | ledger (n : Die) (i : Fin 4096) (old : Fin 8)
  | ply (p : PlyId) (old : Fin 8)
  | knot (i : Fin 8)
  | rope (r : Rope) (old : Fin 8)
  | fault (c : Fin 5) (df : Bool) (slot : Fin 256)
  | write
  deriving DecidableEq, Repr

/-- Table 9-4: the operation of a management access: a 64-bit read, a read of either half, a 64-bit write. -/
inductive MgmtOp where
  | read64 | readLow | readHigh | write64
  deriving DecidableEq, Repr
/-- The commands of the block. -/
inductive Instr where
  /-- R12: A management write to a register with no row of its own changes the fields its access codes allow, or is discarded and counted. -/
  | mgmtWrite (a : BitVec 36) (len : Fin 17) (v : Word) (ok : Bool)
  /-- R7: A BAR2 access whose rank bits name another rank is forwarded over ropes, or completed with Unsupported Request when the rank is absent. -/
  | bar2RemoteAccess (rank : Fin 16) (a : BitVec 36) (op : MgmtOp) (v : Word)
  /-- R310: A forwarded management request segment arrives at the target rank and is performed there in order. -/
  | managementRequest
  /-- R310: A management response segment arrives at the bridge and completes the pending forwarded read. -/
  | managementResponse
  /-- R310: A forwarded read gets no response within HP_FWD_CTL.TMO and completes with Completer Abort. -/
  | forwardedReadTimeout (tag : Nat)
  /-- R19: A clock monitor declares loss of its domain and the package reacts per Table 1-13. -/
  | clockLoss (d : Fin 64)
  /-- R46: A lost clock returns, its PLL relocks and the domain resumes. -/
  | clockReturn (d : Fin 64)
  /-- R22: A payload bond-lane frame is received and checked by CRC, then delivered or discarded with a NAK. -/
  | bondFrame (l : Fin 25) (i : Fin 25) (dir : Bool) (f : BitVec 576) (err : BitVec 576)
  /-- R22: A NAK frame makes the transmitter replay from the named sequence. -/
  | nak (l : Fin 25) (i : Fin 25) (dir : Bool) (q : BitVec 8)
  /-- R22: With reverse traffic idle, a credit-and-ack frame is sent after 64 frames or 100 ns. -/
  | creditAckTimer (l : Fin 25) (i : Fin 25) (dir : Bool)
  /-- R42: A keepalive frame is received on a management bundle pair. -/
  | keepalive (n : Die)
  /-- R42: The hub receives no keepalive from a compute die for 10 µs and the die enters LOST. -/
  | keepaliveTimeout (n : Die)
  /-- R47: A compute die receives a hub reset notice and declares the hub absent. -/
  | hubResetNotice (n : Die)
  /-- R47: A compute die receives no hub keepalive for 10 µs and declares the hub absent. -/
  | hubKeepaliveTimeout (n : Die)
  /-- R47: A request that needs the hub has waited CD_HUB_WAIT_LIM.LIM and completes poisoned with a class D fault. -/
  | hubWaitExpired (n : Die) (w : HubWait)
  /-- R386: The hub is reset; the ROM runs stage 1, verification, a hub-link test and loads management firmware. -/
  | hubReset (recovery : Bool) (io : FlashIO)
  /-- R48: The returning hub re-attaches: tests its links, reads capsules and attach records, reloads ledgers, collects faults and resumes admission. -/
  | reattach
  /-- R25: The walking-ones and walking-zeros phase of the interconnect test runs on the links under test. -/
  | interconnectTest (id : Fin 6) (bad : List WireRef)
  /-- R25: The PRBS31 phase ends and repairs are applied under R26. -/
  | prbs31Complete (id : Fin 6) (errs : List (WireRef × Nat))
  /-- R30: An identity capsule arrives from a die and the hub admits it or records the reason. -/
  | identityCapsule (d : Fin 14) (c : BitVec 512) (copy : BitVec 512)
  /-- R29: A die does not answer discovery within 10 ms and is not admitted. -/
  | discoveryTimeout (d : Fin 14)
  /-- R37: UCIe training of the guest site completes, or fails with a class C fault. -/
  | guestLinkTraining (ok : Bool) (x8 : Bool)
  /-- R39: A guest read transaction is tagged, checked against the firewall windows and performed or denied. -/
  | guestRead (tag : Fin 4096) (lines : Fin 64) (pa : Nat)
  /-- R39: A guest write transaction is tagged, checked and performed or denied. -/
  | guestWrite (tag : Fin 4096) (pa : Nat) (data : List Byte)
  /-- R39: A guest 64-bit atomic add is tagged, checked and performed or denied. -/
  | guestAtomicAdd (tag : Fin 4096) (pa : Nat) (v : Word)
  /-- R42: RESET written to CH_DIE_CMD puts the die into LOST, or is refused. -/
  | dieReset (n : Die)
  /-- R44: RETRY written to CH_DIE_CMD starts the test of a NOT_ADMITTED die, or is refused. -/
  | dieRetry (n : Die)
  /-- R43: Die reset has been held for 10 µs and the die enters TESTING for a rejoin. -/
  | dieResetRelease (n : Die)
  /-- R53: A speed monitor window of 1,024 epoch cycles ends and STEP is updated. -/
  | speedMonitorWindow (n : Die) (i : Fin 16) (count : Nat)
  /-- R54: A thermal sensor takes its 1 µs reading. -/
  | tempSensorReading (k : Fin 169) (t : Int)
  /-- R54: The cold-start trim of a thermal sensor completes and is kept or replaced by the fused trim. -/
  | tempSensorTrim (n : Die) (i : Fin 16) (runs : Option (Int × Int))
  /-- R73: The shadow lane finishes an entry, compares narrow and shadow sums and may trip. -/
  | shadowCheck (k : BrickId)
  /-- R149: The brick scheduler chooses the plies that issue in the array and scalar slots this step. -/
  | scheduleStep (k : BrickId)
  /-- R150: A low-priority ply eligible for 64 consecutive steps counts as high priority for one step. -/
  | ageing (p : PlyId)
  /-- R83: A ply fetches instructions from the brick store, trapping on an invalid PC. -/
  | fetch (p : PlyId)
  /-- R148: An issued instruction completes, writes its results and releases its scoreboard entry. -/
  | instructionComplete (k : BrickId) (e : Fin 32)
  /-- R115: After earlier instructions complete, trap state is written and the ply enters its handler or TRAPPED. -/
  | trapEntry (p : PlyId)
  /-- R93: sD := sA + sB. -/
  | add (p : PlyId) (o : IOp)
  /-- R93: sD := sA − sB. -/
  | sub (p : PlyId) (o : IOp)
  /-- R93: sD := sA and sB. -/
  | and (p : PlyId) (o : IOp)
  /-- R93: sD := sA or sB. -/
  | or (p : PlyId) (o : IOp)
  /-- R93: sD := sA xor sB. -/
  | xor (p : PlyId) (o : IOp)
  /-- R93: sD := sA shifted left by sB[5:0]. -/
  | shl (p : PlyId) (o : IOp)
  /-- R93: sD := sA shifted right by sB[5:0] with zero fill. -/
  | shr (p : PlyId) (o : IOp)
  /-- R93: sD := sA shifted right by sB[5:0] with sign fill. -/
  | sra (p : PlyId) (o : IOp)
  /-- R93: sD := low 64 bits of sA × sB. -/
  | mul (p : PlyId) (o : IOp)
  /-- R93: sD := high 64 bits of the unsigned product. -/
  | mulhu (p : PlyId) (o : IOp)
  /-- R93: sD := high 64 bits of the signed product. -/
  | mulh (p : PlyId) (o : IOp)
  /-- R93: sD := signed minimum of sA and sB. -/
  | min (p : PlyId) (o : IOp)
  /-- R93: sD := signed maximum of sA and sB. -/
  | max (p : PlyId) (o : IOp)
  /-- R93: sD := unsigned minimum of sA and sB. -/
  | minu (p : PlyId) (o : IOp)
  /-- R93: sD := unsigned maximum of sA and sB. -/
  | maxu (p : PlyId) (o : IOp)
  /-- R93: sD := number of 1 bits of sA. -/
  | popc (p : PlyId) (o : IOp)
  /-- R93: sD := leading zeros of sA. -/
  | clz (p : PlyId) (o : IOp)
  /-- R93: sD := sA + sext(IMM). -/
  | addi (p : PlyId) (o : IOp)
  /-- R93: sD := sA and sext(IMM). -/
  | andi (p : PlyId) (o : IOp)
  /-- R93: sD := sA or sext(IMM). -/
  | ori (p : PlyId) (o : IOp)
  /-- R93: sD := sA xor sext(IMM). -/
  | xori (p : PlyId) (o : IOp)
  /-- R93: sD := sA shifted left by IMM[5:0]. -/
  | shli (p : PlyId) (o : IOp)
  /-- R93: sD := sA shifted right by IMM[5:0] with zero fill. -/
  | shri (p : PlyId) (o : IOp)
  /-- R93: sD := sA shifted right by IMM[5:0] with sign fill. -/
  | srai (p : PlyId) (o : IOp)
  /-- R93: sD := low 64 bits of sA × sext(IMM). -/
  | muli (p : PlyId) (o : IOp)
  /-- R93: sD := sext(IMM). -/
  | li (p : PlyId) (o : IOp)
  /-- R93: Loads IMM[30:0] into sD[63:33], keeping sD[32:0]. -/
  | lih (p : PlyId) (o : IOp)
  /-- R93: pD := sA = sB. -/
  | cmpEq (p : PlyId) (o : IOp)
  /-- R93: pD := sA ≠ sB. -/
  | cmpNe (p : PlyId) (o : IOp)
  /-- R93: pD := sA < sB signed. -/
  | cmpLt (p : PlyId) (o : IOp)
  /-- R93: pD := sA < sB unsigned. -/
  | cmpLtu (p : PlyId) (o : IOp)
  /-- R93: pD := sA ≥ sB signed. -/
  | cmpGe (p : PlyId) (o : IOp)
  /-- R93: pD := sA ≥ sB unsigned. -/
  | cmpGeu (p : PlyId) (o : IOp)
  /-- R93: pD := sA = sext(IMM). -/
  | cmpiEq (p : PlyId) (o : IOp)
  /-- R93: pD := sA ≠ sext(IMM). -/
  | cmpiNe (p : PlyId) (o : IOp)
  /-- R93: pD := sA < sext(IMM) signed. -/
  | cmpiLt (p : PlyId) (o : IOp)
  /-- R93: pD := sA < sext(IMM) unsigned. -/
  | cmpiLtu (p : PlyId) (o : IOp)
  /-- R93: pD := sA ≥ sext(IMM) signed. -/
  | cmpiGe (p : PlyId) (o : IOp)
  /-- R93: pD := sA ≥ sext(IMM) unsigned. -/
  | cmpiGeu (p : PlyId) (o : IOp)
  /-- R93: pD := pA and pB. -/
  | pand (p : PlyId) (o : IOp)
  /-- R93: pD := pA or pB. -/
  | por (p : PlyId) (o : IOp)
  /-- R93: pD := pA xor pB. -/
  | pxor (p : PlyId) (o : IOp)
  /-- R93: pD := pA and not pB. -/
  | pandn (p : PlyId) (o : IOp)
  /-- R93: pD := IMM[0]. -/
  | pset (p : PlyId) (o : IOp)
  /-- R93: sD := the predicates p7…p0. -/
  | pget (p : PlyId) (o : IOp)
  /-- R93: p7…p1 := sA[7:1]. -/
  | pput (p : PlyId) (o : IOp)
  /-- R93: aD := sA. -/
  | amov (p : PlyId) (o : IOp)
  /-- R93: sD := aA. -/
  | smov (p : PlyId) (o : IOp)
  /-- R93: aD := aA + sB. -/
  | aadd (p : PlyId) (o : IOp)
  /-- R93: aD := aA + sext(IMM). -/
  | aaddi (p : PlyId) (o : IOp)
  /-- R94: Relative branch to pc + 8 × OFF, trapping on a bad target. -/
  | br (p : PlyId) (o : IOp)
  /-- R94: sD := pc + 8 and branch to pc + 8 × OFF. -/
  | call (p : PlyId) (o : IOp)
  /-- R94: Jump to sA. -/
  | jr (p : PlyId) (o : IOp)
  /-- R94: sD := pc + 8 and jump to sA. -/
  | jalr (p : PlyId) (o : IOp)
  /-- R94: Decrement sD and branch while it is not zero. -/
  | loop (p : PlyId) (o : IOp)
  /-- R94: Branch when sA = 0. -/
  | bz (p : PlyId) (o : IOp)
  /-- R94: Branch when sA ≠ 0. -/
  | bnz (p : PlyId) (o : IOp)
  /-- R94: No operation. -/
  | nop (p : PlyId) (o : IOp)
  /-- R96: Loads a sign-extended byte from the brick store. -/
  | ldB (p : PlyId) (o : IOp)
  /-- R96: Loads a zero-extended byte. -/
  | ldBu (p : PlyId) (o : IOp)
  /-- R96: Loads a sign-extended 16-bit value. -/
  | ldH (p : PlyId) (o : IOp)
  /-- R96: Loads a zero-extended 16-bit value. -/
  | ldHu (p : PlyId) (o : IOp)
  /-- R96: Loads a sign-extended 32-bit value. -/
  | ldW (p : PlyId) (o : IOp)
  /-- R96: Loads a zero-extended 32-bit value. -/
  | ldWu (p : PlyId) (o : IOp)
  /-- R96: Loads 64 bits into sD. -/
  | ldD (p : PlyId) (o : IOp)
  /-- R96: Loads 64 bits into aD. -/
  | ldA (p : PlyId) (o : IOp)
  /-- R96: Stores the low 8 bits of sB. -/
  | stB (p : PlyId) (o : IOp)
  /-- R96: Stores the low 16 bits of sB. -/
  | stH (p : PlyId) (o : IOp)
  /-- R96: Stores the low 32 bits of sB. -/
  | stW (p : PlyId) (o : IOp)
  /-- R96: Stores 64 bits of sB. -/
  | stD (p : PlyId) (o : IOp)
  /-- R96: Stores aB. -/
  | stA (p : PlyId) (o : IOp)
  /-- R96: Atomic 64-bit add to the store, returning the old value. -/
  | amoaddD (p : PlyId) (o : IOp)
  /-- R96: Atomic 64-bit swap, returning the old value. -/
  | amoswapD (p : PlyId) (o : IOp)
  /-- R96: Atomic 64-bit compare and swap, returning the old value. -/
  | amocasD (p : PlyId) (o : IOp)
  /-- R97: Loads blocks of a tensor with scales and flags into a vector register. -/
  | vld (p : PlyId) (o : IOp)
  /-- R98: Stores blocks of a vector register with scales and flags. -/
  | vst (p : PlyId) (o : IOp)
  /-- R98: Loads the 24-byte side-band of a vector register. -/
  | vsbld (p : PlyId) (o : IOp)
  /-- R98: Stores the 24-byte side-band of a vector register. -/
  | vsbst (p : PlyId) (o : IOp)
  /-- R99: Reads a descriptor and fills a weight plane, borrowing a neighbour for T2. -/
  | wld (p : PlyId) (o : IOp)
  /-- R102: Makes wD the active plane. -/
  | wsel (p : PlyId) (o : IOp)
  /-- R103: Runs one array step into an accumulator bank, queuing sampled or escalated blocks for the shadow lane. -/
  | step (p : PlyId) (o : IOp)
  /-- R104: Clears a bank and sets its mode and exponent. -/
  | aclr (p : PlyId) (o : IOp)
  /-- R105: Reads a bank into a vector register, narrowing or converting, optionally clearing it. -/
  | adrain (p : PlyId) (o : IOp)
  /-- R106: Adds vector elements into accumulator entries. -/
  | aaddFmt (p : PlyId) (o : IOp)
  /-- R107: Elementwise add. -/
  | vadd (p : PlyId) (o : IOp)
  /-- R107: Elementwise subtract. -/
  | vsub (p : PlyId) (o : IOp)
  /-- R107: Elementwise multiply. -/
  | vmul (p : PlyId) (o : IOp)
  /-- R107: Elementwise maximum. -/
  | vmax (p : PlyId) (o : IOp)
  /-- R107: Elementwise minimum. -/
  | vmin (p : PlyId) (o : IOp)
  /-- R107: Fused multiply-add into vD. -/
  | vfma (p : PlyId) (o : IOp)
  /-- R107: Elementwise absolute value. -/
  | vabs (p : PlyId) (o : IOp)
  /-- R107: Elementwise negation. -/
  | vneg (p : PlyId) (o : IOp)
  /-- R107: Elementwise max with zero, NaN kept. -/
  | vrelu (p : PlyId) (o : IOp)
  /-- R107: Elementwise reciprocal. -/
  | vrcp (p : PlyId) (o : IOp)
  /-- R107: Elementwise reciprocal square root. -/
  | vrsqrt (p : PlyId) (o : IOp)
  /-- R107: Elementwise base-2 exponential. -/
  | vexp2 (p : PlyId) (o : IOp)
  /-- R107: Elementwise base-2 logarithm. -/
  | vlog2 (p : PlyId) (o : IOp)
  /-- R107: Elementwise equality compare to a mask. -/
  | vcmpEq (p : PlyId) (o : IOp)
  /-- R107: Elementwise less-than compare to a mask. -/
  | vcmpLt (p : PlyId) (o : IOp)
  /-- R107: Elementwise less-or-equal compare to a mask. -/
  | vcmpLe (p : PlyId) (o : IOp)
  /-- R107: Selects vA elements where vB is nonzero. -/
  | vsel (p : PlyId) (o : IOp)
  /-- R107: Copies data and side-band. -/
  | vmov (p : PlyId) (o : IOp)
  /-- R107: Broadcasts sA to every element. -/
  | vbcast (p : PlyId) (o : IOp)
  /-- R107: Inserts sA at element IDX. -/
  | vins (p : PlyId) (o : IOp)
  /-- R107: Extracts element IDX into sD. -/
  | vext (p : PlyId) (o : IOp)
  /-- R107: Permutes vA by the indices in vB. -/
  | vperm (p : PlyId) (o : IOp)
  /-- R107: Tree sum of the elements into sD. -/
  | vredAdd (p : PlyId) (o : IOp)
  /-- R107: Tree maximum of the elements into sD. -/
  | vredMax (p : PlyId) (o : IOp)
  /-- R107: Bitwise and of 512 bits. -/
  | vand (p : PlyId) (o : IOp)
  /-- R107: Bitwise or of 512 bits. -/
  | vor (p : PlyId) (o : IOp)
  /-- R107: Bitwise xor of 512 bits. -/
  | vxor (p : PlyId) (o : IOp)
  /-- R107: Bitwise not of 512 bits. -/
  | vnot (p : PlyId) (o : IOp)
  /-- R108: Converts a group of elements between formats. -/
  | cvt (p : PlyId) (o : IOp)
  /-- R109: Adjusts the scale codes of masked blocks, clamping with counts. -/
  | scl (p : PlyId) (o : IOp)
  /-- R110: Selects the active safeguard context. -/
  | sgctx (p : PlyId) (o : IOp)
  /-- R110: Marks every block of the ply's next step as sampled. -/
  | chk (p : PlyId) (o : IOp)
  /-- R110: Forces escalation of every block of the ply's next step. -/
  | esc (p : PlyId) (o : IOp)
  /-- R110: Reads a safeguard counter or status register into sD. -/
  | sgrd (p : PlyId) (o : IOp)
  /-- R110: Loads the rounding generator state, 0 loading 1. -/
  | seed (p : PlyId) (o : IOp)
  /-- R111: Reads a system register. -/
  | rdsr (p : PlyId) (o : IOp)
  /-- R111: Writes a system register. -/
  | wrsr (p : PlyId) (o : IOp)
  /-- R111: Holds the ply until its selected store, fetch, message or array conditions hold. -/
  | fence (p : PlyId) (o : IOp)
  /-- R150: Places the ply last in both rotations. -/
  | yield (p : PlyId) (o : IOp)
  /-- R111: The ply stops issuing. -/
  | endPly (p : PlyId) (o : IOp)
  /-- R111: After end, the ply's earlier instructions complete and it becomes IDLE. -/
  | endComplete (p : PlyId)
  /-- R112: Pre-emption point: stops the ply when a pre-emption request is pending. -/
  | ppt (p : PlyId) (o : IOp)
  /-- R111: Raises a software trap with cause 0x05. -/
  | trap (p : PlyId) (o : IOp)
  /-- R111: Returns from a trap handler to EPC. -/
  | tret (p : PlyId) (o : IOp)
  /-- R113: Writes the 448-byte checkpoint record of the ply. -/
  | ckpt (p : PlyId) (o : IOp)
  /-- R115: Raises a breakpoint trap. -/
  | brk (p : PlyId) (o : IOp)
  /-- R117: CD_PLY_CMD RESUME restarts a TRAPPED ply at CD_PLY_PC. -/
  | resume (p : PlyId)
  /-- R117: CD_PLY_CMD ABORT stops a ply, withdraws its wait and makes it IDLE. -/
  | abort (p : PlyId)
  /-- R129: Sends a body to a place. -/
  | msend (p : PlyId) (o : IOp)
  /-- R121: Sends a body to a global vertex identifier resolved through the directory. -/
  | msendg (p : PlyId) (o : IOp)
  /-- R130: Requests a record at a place into the store. -/
  | mgath (p : PlyId) (o : IOp)
  /-- R121: Requests a record by global identifier. -/
  | mgathg (p : PlyId) (o : IOp)
  /-- R131: Scatter-adds a body into the record at a place. -/
  | scadd (p : PlyId) (o : IOp)
  /-- R121: Scatter-adds a body by global identifier. -/
  | scaddg (p : PlyId) (o : IOp)
  /-- R135: Contributes F16 elements to an AOR session. -/
  | maor (p : PlyId) (o : IOp)
  /-- R129: Takes the oldest inbox entry into vD, waiting when empty. -/
  | mrecv (p : PlyId) (o : IOp)
  /-- R127: pD := inbox not empty. -/
  | mpoll (p : PlyId) (o : IOp)
  /-- R127: Reads the tag of the ply's last mrecv. -/
  | mtag (p : PlyId) (o : IOp)
  /-- R120: Writes a vertex table entry. -/
  | vtset (p : PlyId) (o : IOp)
  /-- R127: Reads a vertex table entry. -/
  | vtget (p : PlyId) (o : IOp)
  /-- R133: Adds to a tally's COUNT and makes its arrivals. -/
  | mtadd (p : PlyId) (o : IOp)
  /-- R127: Reads a tally register. -/
  | mtrd (p : PlyId) (o : IOp)
  /-- R136: Submits a DMA descriptor from the store and returns a ticket. -/
  | dmaq (p : PlyId) (o : IOp)
  /-- R136: Tests whether a ticket is still outstanding. -/
  | dmat (p : PlyId) (o : IOp)
  /-- R139: Arrives at a knot, optionally awaiting the prior GEN. -/
  | karr (p : PlyId) (o : IOp)
  /-- R139: Signals a knot. -/
  | ksig (p : PlyId) (o : IOp)
  /-- R140: Registers a watch and waits for a knot's GEN to change or a timeout. -/
  | kwait (p : PlyId) (o : IOp)
  /-- R139: Reads a knot word. -/
  | ktest (p : PlyId) (o : IOp)
  /-- R139: Arms a knot with a target. -/
  | karm (p : PlyId) (o : IOp)
  /-- R139: Resets a knot and wakes its waiters. -/
  | krst (p : PlyId) (o : IOp)
  /-- R144: Signals a knot on another rank of the group. -/
  | ksigr (p : PlyId) (o : IOp)
  /-- R145: Arms a ply slot for an epoch and start PC. -/
  | larmPly (p : PlyId) (o : IOp)
  /-- R145: Arms a free knot slot to signal a knot at an epoch. -/
  | larmKnot (p : PlyId) (o : IOp)
  /-- R145: Disarms a launch slot. -/
  | ldis (p : PlyId) (o : IOp)
  /-- R146: Waits until an epoch is reached. -/
  | lwait (p : PlyId) (o : IOp)
  /-- R146: Waits until the issue epoch plus IMM is reached. -/
  | lwaitr (p : PlyId) (o : IOp)
  /-- R146: The awaited epoch is reached and the waiting ply wakes. -/
  | lwaitWake (p : PlyId)
  /-- R129: A send enters the destination inbox, is counted and may wake an mrecv. -/
  | sendPerformed (k : Nat)
  /-- R130: A gather request is performed at the holder, which sends a reply. -/
  | gatherRequest (k : Nat)
  /-- R130: A gather reply is written at the requester's return offset and counted. -/
  | gatherReply (k : Nat)
  /-- R131: A scatter-add is performed into the destination record and counted. -/
  | scatterAdd (k : Nat)
  /-- R138: An arrival reaches a knot engine and decrements or fires the knot. -/
  | knotArrive (j : Nat)
  /-- R138: A signal reaches a knot engine and fires an armed knot. -/
  | knotSignal (j : Nat)
  /-- R139: A test operation reaches a knot engine and replies with the knot word. -/
  | knotTest (j : Nat)
  /-- R139: An arm operation sets TARGET, COUNT, ARMED and AUTO. -/
  | knotArm (j : Nat)
  /-- R139: A reset operation disarms the knot, advances GEN and wakes waiters. -/
  | knotReset (j : Nat)
  /-- R140: A watch registers at the engine or replies at once. -/
  | knotWatch (j : Nat)
  /-- R140: A fire notice arrives and wakes waiting plies. -/
  | knotNoticeFire (j : Nat)
  /-- R140: A reset notice arrives and wakes waiting plies with status reset. -/
  | knotNoticeReset (j : Nat)
  /-- R139: A reply notice arrives and completes a karr or ktest. -/
  | knotNoticeReply (j : Nat)
  /-- R140: A kwait limit expires and the ply wakes with status timed out. -/
  | kwaitTimeout (p : PlyId)
  /-- R125: An inbox stays full for STALL_LIM µs with a send waiting and a class D fault is recorded. -/
  | inboxStall (k : BrickId)
  /-- R141: A management write to CD_KNOT is performed as one knot operation. -/
  | knotRegisterWrite (n : Die) (i : Fin 4096) (v : Word)
  /-- R153: A management write to HP_SKNOT is performed, or discarded when it would change SPAN of a busy knot. -/
  | spanKnotRegisterWrite (i : Fin 1024) (v : Word)
  /-- R121: A write to CD_DIR invalidates the directory caches of every brick of the die. -/
  | directoryWrite (n : Die) (v : Word)
  /-- R147: A ply slot acts at its epoch edge and starts the ply. -/
  | launchSlotAct (k : BrickId) (q : Fin 4)
  /-- R147: A knot slot acts at its epoch and signals its knot. -/
  | knotSlotAct (k : BrickId) (i : Fin 4)
  /-- R158: HP_SPAN_CMD FORM merges channels into a span or is refused. -/
  | spanForm (span : Fin 4)
  /-- R159: HP_SPAN_CMD DISSOLVE splits a span, optionally breaking live entries. -/
  | spanDissolve (span : Fin 4) (force : Bool)
  /-- R163: A launch request is modelled and accepted or refused. -/
  | admissionLaunch (n : Die)
  /-- R163: A DMA transfer request is modelled and accepted or refused. -/
  | admissionDmaTransfer (n : Die)
  /-- R163: A rope transfer request is modelled and accepted or refused. -/
  | admissionRopeTransfer (n : Die)
  /-- R176: A pin request is checked against capacity and starts moving and locking pages, or is refused. -/
  | pin (n : Die)
  /-- R198: An unpin request copies back moved pages and unlocks translations, or is refused. -/
  | unpin (n : Die)
  /-- R172: A withdraw request moves an ACCEPTED entry to WITHDRAWN. -/
  | withdraw (n : Die)
  /-- R197: A page move of a pin completes: copied, L2 entry rewritten, slot table recorded. -/
  | pinPageMove (n : Die) (h : Fin 255)
  /-- R176: The last page of a pin is resident and locked and the response is written. -/
  | pinComplete (n : Die) (h : Fin 255)
  /-- R199: A fault during a pin undoes it and refuses the request with reason 7. -/
  | pinAbandoned (n : Die) (h : Fin 255)
  /-- R198: The last copy of an unpin completes and the response is written. -/
  | unpinComplete (n : Die) (h : Fin 255)
  /-- R168: The slew governor estimates die power every 1 µs and sets OVER on an excessive rise. -/
  | slewEstimate (n : Die) (w : Fin 4096)
  /-- R168: A deferred launch acts at the first epoch at which the slew condition holds. -/
  | slewDeferredLaunch (n : Die) (i : Fin 4096)
  /-- R169: A successor launch acts once its predecessor has ended with work complete. -/
  | successorLaunch (n : Die) (i : Fin 4096)
  /-- R172: An entry's deadline epoch is reached before completion and it becomes BROKEN. -/
  | deadlineExpiry (n : Die) (i : Fin 4096)
  /-- R173: A terminal entry writes its record into the promise record queue when a slot is free and becomes FREE. -/
  | promiseRecord (n : Die) (i : Fin 4096)
  /-- R201: A free DMA engine takes a queued descriptor and starts it. -/
  | dmaDescriptorStart (n : Die) (e : Fin 64)
  /-- R208: An engine fetches the NEXT descriptor of a chain, parking on a fault. -/
  | descriptorFetch (n : Die) (e : Fin 64)
  /-- R190: A page-table walk completes, filling caches or raising a fault. -/
  | translationWalk (n : Die) (e : Fin 64)
  /-- R204: An engine has translated and read a block and sends it with its CRC. -/
  | dmaBlockSend (n : Die) (e : Fin 64) (err : MemErr)
  /-- R204: The destination checks a block's CRC and commits it or asks for a re-send. -/
  | dmaBlockCommit (n : Die) (e : Fin 64) (crcOk : Bool) (err : MemErr)
  /-- R209: CH_DMA_CMD RESUME restarts a parked engine from its restart point. -/
  | dmaResume (n : Die) (e : Fin 128)
  /-- R209: CH_DMA_CMD ABORT ends the parked descriptor with kind ABORTED. -/
  | dmaAbort (n : Die) (e : Fin 128)
  /-- R212: A DMA fault record is written into the fault queue when a slot is free, with knot arrival and interrupt. -/
  | faultQueueRecord (n : Die)
  /-- R194: CH_XLT_INV OP 1 invalidates one page's cached translations. -/
  | invPage (n : Die) (asid : BitVec 8) (va : BitVec 48)
  /-- R194: CH_XLT_INV OP 2 invalidates every non-global entry of an ASID. -/
  | invAsid (n : Die) (asid : BitVec 8)
  /-- R194: CH_XLT_INV OP 3 invalidates every global entry. -/
  | invGlobal (n : Die)
  /-- R194: CH_XLT_INV OP 4 invalidates every entry. -/
  | invAll (n : Die)
  /-- R194: An invalidation completes once walks end and affected DMA blocks commit. -/
  | invComplete (n : Die)
  /-- R187: Training and zero-initialisation of a stack completes as READY or FAILED. -/
  | hbmTraining (n : Die) (k : Fin 2) (ok : Bool)
  /-- R214: A save request is accepted into a slot and marks its plies, or is refused. -/
  | preemptSave (n : Die)
  /-- R214: A restore request is accepted and starts reading its save area, or is refused. -/
  | preemptRestore (n : Die)
  /-- R220: A cancel request ends a pending, deferred or suspended save. -/
  | preemptCancel (n : Die)
  /-- R215: LIMIT ns pass without a ppt and the ply is stopped between points. -/
  | preemptForceLimit (n : Die) (k : Fin 64)
  /-- R217: The R215 conditions are met and the hub engines begin writing the save area. -/
  | saveStart (n : Die) (k : Fin 64)
  /-- R217: The save header is written and the named plies become SAVED. -/
  | saveComplete (n : Die) (k : Fin 64)
  /-- R219: A fault while writing the area defers or suspends the request. -/
  | saveFault (n : Die) (k : Fin 64) (kind : Fin 13)
  /-- R218: A restore writes the state into the target and requeues descriptors, or fails. -/
  | restoreComplete (n : Die) (k : Fin 64) (kind : Fin 13)
  /-- R224: The APC adjusts each laser's bias every 10 µs. -/
  | laserApc (r : Fin 34) (l : Fin 18) (need bfm : Nat)
  /-- R225: No received light on a rope for 1 ms sets its lasers to safe low power. -/
  | openFibre (r : Fin 24)
  /-- R225: Every 1 s an open-fibre rope lights its lasers for 2 ms. -/
  | openFibreProbe (r : Fin 24)
  /-- R225: Received light returns and the transmit lasers are restored. -/
  | lightReturn (r : Fin 24)
  /-- R227: Every 1 µs each ring's heater code is set from the table, offset and correction. -/
  | ringControl (g : Fin 5012)
  /-- R227: A ring's code stays out of range for 10 µs and the ring fails. -/
  | ringFailure (g : Fin 5012)
  /-- R228: The pilot lock-in updates TRACK and PCORR and marks or clears DEGRADED. -/
  | ringTrack (g : Fin 5012) (track : Int) (move : Bool)
  /-- R233: A periodic or drift-triggered calibration of a rope's parts starts. -/
  | calibration (r : Fin 34)
  /-- R232: The two calibration runs finish and the new values are kept or rejected. -/
  | calibrationComplete (u : Fin 9) (parts : List CalPart)
  /-- R233: A ring's |PCORR| exceeds DRIFT for 10 ms and it is recalibrated. -/
  | driftTrigger (g : Fin 5012)
  /-- R233: OE_CMD CALIBRATE recalibrates a rope now. -/
  | calibrate (k : Fin 8) (r : Fin 4)
  /-- R238: OE_CMD MIGRATE brings up a spare for a strand and splices it. -/
  | migrate (k : Fin 8) (st : Fin 64)
  /-- R236: A REPORT of strand margins arrives and the thresholds of Table 7-7 are evaluated. -/
  | strandReport (r : Fin 24)
  /-- R235: An interposer bank measures strand margins over 32 µs and thresholds are evaluated. -/
  | marginEstimate (r : Fin 34) (ms : List Int)
  /-- R237: A laser is declared dead, the rope drops to 15 strands and a spare is assigned. -/
  | laserDeath (r : Fin 34) (l : Fin 18)
  /-- R238: A phase of cold spare bring-up completes and the next begins. -/
  | spareBringupPhase (r : Fin 34)
  /-- R238: A bring-up phase exceeds its time; the spare fails and the next is tried. -/
  | sparePhaseTimeout (r : Fin 34)
  /-- R243: An engine has been open-loop for 20 ms without its DSP clock and is lost. -/
  | openLoopLimit (k : Fin 8)
  /-- R246: PI_STEER_CMD REDIRECT queues a re-direction to a configuration. -/
  | redirect (cfg : Fin 8) (mask : Fin 1024)
  /-- R246: PI_STEER_CMD HOME queues a re-direction to configuration 0. -/
  | home (mask : Fin 1024)
  /-- R246: A span knot named by an enabled trigger fires and queues a re-direction. -/
  | steerTrigger (t : Fin 16)
  /-- R246: A request reaches the head of the queue and is checked, then started or refused. -/
  | redirectionStart
  /-- R247: All phases of a re-direction complete and flits flow on the new paths. -/
  | redirectionComplete
  /-- R251: PI_AOR_CMD OPEN checks a session descriptor and begins opening, or is refused. -/
  | aorOpen (i : Fin 16) (addr : BitVec 52)
  /-- R251: Steering, alignment and calibration finish and the session is OPEN or DIGITAL. -/
  | aorOpenComplete (i : Fin 16) (cal : List AorCal)
  /-- R259: PI_AOR_CMD CLOSE starts draining the session. -/
  | aorClose (i : Fin 16)
  /-- R259: Every accepted contribution is written, ropes return to flit service and the session is CLOSED. -/
  | aorCloseComplete (i : Fin 16)
  /-- R253: A READY for contribution k arrives; when all are in and a slot is free, GO is sent. -/
  | aorReady (i j : Fin 16)
  /-- R254: A summed slot is computed and written into the ring, with knot arrival every EVERY slots. -/
  | aorSlot (i : Fin 16) (adc : List Int) (off : Int)
  /-- R256: Every 100 µs the receiver measures each source's gain and sends a correction. -/
  | aorGainCalibration (i : Fin 16) (gains : List Nat)
  /-- R269: A DATA flit is received, sequenced, stored or discarded, and its ack fields processed. -/
  | flitData (r : Fin 34) (f : BitVec 2048)
  /-- R274: An LCTL flit is received and its body handled. -/
  | flitLctl (r : Fin 34) (f : BitVec 2048)
  /-- R269: An IDLE flit is received, counting lost flits and processing ack fields. -/
  | flitIdle (r : Fin 34) (f : BitVec 2048)
  /-- R267: An ALIGN flit resets the receiver's sequence count, width and map. -/
  | flitAlign (r : Fin 34) (f : BitVec 2048)
  /-- R270: The receiver refreshes ACK, NAK, OVF and RESYNC after 64 flits or 200 ns. -/
  | ackRefresh (r : Fin 34)
  /-- R272: ACK has not advanced for 2 µs and the sender replays all unacknowledged flits. -/
  | linkReplay (r : Fin 34)
  /-- R275: A return frame carries an unpaired interposer rope's ack fields over the bond lanes. -/
  | returnFrame (rho : Fin 10)
  /-- R280: A HELLO is received during training and the peer is recorded or checked. -/
  | hello (r : Fin 34)
  /-- R283: A change request is received and accepted, absorbed or refused. -/
  | changeReq (r : Fin 34)
  /-- R283: A change response is received and the requested change proceeds or is dropped. -/
  | changeRsp (r : Fin 34) (cw : Nat)
  /-- R282: SPLICE_START is received and dual decoding of the new wavelength begins. -/
  | spliceStart (r : Fin 34)
  /-- R282: SPLICE_READY is received and a SWITCH is sent. -/
  | spliceReady (r : Fin 34) (cw : Nat)
  /-- R281: A SWITCH is received naming the width and map to apply at codeword k1. -/
  | switch (r : Fin 34)
  /-- R281: Codeword k1 is reached and the new width and map take effect. -/
  | switchApply (r : Fin 34)
  /-- R281: The first 64 codewords after a restore are judged and the width may return to 15. -/
  | widthRestoreCheck (r : Fin 34) (bad : Fin 65) (cw : Nat)
  /-- R282: A locked spare's controller asks the link layer for a splice. -/
  | spliceRequest (r : Fin 34)
  /-- R282: SPLICE_READY does not arrive within 20 µs and the splice is abandoned. -/
  | spliceTimeout (r : Fin 34)
  /-- R281: The receiver sees one strand dark for 1 µs or confined errors and changes to the 15-strand map. -/
  | widthDropDetect (r : Fin 34) (strand : Fin 16)
  /-- R279: A rope in UP meets a retrain trigger and enters RETRAIN. -/
  | retrainTrigger (r : Fin 34) (ask : Bool)
  /-- R280: A phase of rope training completes; after phase 5 the rope is UP. -/
  | trainingPhase (r : Fin 34)
  /-- R278: A training attempt exceeds 100 µs; a third failure sends the rope DOWN. -/
  | trainingAttemptTimeout (r : Fin 34)
  /-- R278: Light on at least 15 strands moves a DOWN rope to TRAINING. -/
  | lightDetected (r : Fin 34)
  /-- R278: OE_ROPE_CMD or PI_ROPE_CMD RETRAIN retrains an UP rope. -/
  | ropeRetrain (r : Rope)
  /-- R278: The DOWN command moves a rope to HELD and its connections reroute. -/
  | ropeDown (r : Rope)
  /-- R278: The UP command moves a DOWN or HELD rope to TRAINING. -/
  | ropeUp (r : Rope)
  /-- R286: An OPEN segment is received and the connection's generation is accepted. -/
  | openConn
  /-- R289: A transport ACK segment frees acknowledged segments at the sender. -/
  | ack
  /-- R290: A PUT segment's block is checked and committed, NAKed or refused at the destination. -/
  | put
  /-- R290: A PUT_NAK makes the sending engine re-send the block. -/
  | putNak
  /-- R207: A PUT_REFUSE parks the sending engine with kind REMOTE. -/
  | putRefuse
  /-- R144: A knot signal segment arrives and acts as ksig on the named knot. -/
  | knotSignalSegment
  /-- R314: A heartbeat segment arrives, updating path state, role and announcements. -/
  | heartbeat
  /-- R313: A checkpoint chunk arrives; a complete image with a good CRC becomes valid. -/
  | checkpointChunk
  /-- R311: A host-traffic write segment reaches the bridge and is issued on PCIe. -/
  | hostWrite
  /-- R311: A host-traffic read request reaches the bridge and is issued on PCIe. -/
  | hostReadRequest (st : Fin 3) (found : HostData)
  /-- R311: A host read completion segment returns data to the requesting package. -/
  | hostReadCompletion
  /-- R311: An interrupt segment reaches the bridge and raises vector 32 + source rank. -/
  | hostInterrupt
  /-- R311: A redirect answer makes the sender resend host traffic to its announced bridge. -/
  | hostRedirect
  /-- R276: A package message-batch segment arrives at a die's gateway and its messages enter the mesh. -/
  | messageBatch (a d : Die) (k : Nat)
  /-- R276: A package DMA block segment arrives at its destination die. -/
  | dmaBlockSegment (n : Die) (e : Fin 64)
  /-- R289: Every 16 segments or 2 µs the receiver sends an ACK segment. -/
  | transportAckTimer (ep : Fin 5) (i : Fin 240)
  /-- R291: The oldest unacknowledged segment ages 50 µs and every unacknowledged segment is resent. -/
  | transportTimeout (ep : Fin 5) (i : Fin 240)
  /-- R297: A rank has no path up for 1 ms; UNREACH is set and class C recorded. -/
  | rankUnreachable (n : Die) (r : Fin 16)
  /-- R302: The PCIe link trains after PERST_N release on a bridge-capable package. -/
  | pcieLinkUp
  /-- R316: The PCIe link goes down; a primary becomes DEMOTED. -/
  | pcieLinkDown
  /-- R302: PERST_N is asserted or released on the host port. -/
  | perst (asserted : Bool)
  /-- R385: A PCIe configuration request is served, or answered with Request Retry Status before stage 1 ends. -/
  | configurationRequest (dw : Fin 1024)
  /-- R306: Setting EN of a queue pair resets its head, tail, phase and expected CSN. -/
  | queueEnable (q : Fin 32) (v : Word)
  /-- R308: Clearing EN disables a queue pair and clears its command records in every present rank. -/
  | queueDisable (q : Fin 32)
  /-- R307: A write to HP_HQ_DB advances SQ_TAIL or CQ_HEAD and lets fetching proceed. -/
  | doorbell (q : Fin 32) (v : Word)
  /-- R307: An SQ entry carrying an admission request is checked for CSN and dispatched. -/
  | sqAdmissionRequest (q : Fin 32) (entry : BitVec 1024)
  /-- R307: An SQ entry carrying a pre-emption request is checked and dispatched. -/
  | sqPreemptionRequest (q : Fin 32) (entry : BitVec 1024)
  /-- R307: An SQ entry carrying a DMA descriptor is checked and dispatched. -/
  | sqDmaDescriptor (q : Fin 32) (entry : BitVec 1024)
  /-- R307: A no-op SQ entry is checked and dispatched. -/
  | sqNoop (q : Fin 32) (entry : BitVec 1024)
  /-- R307: A response returns and its completion is written to the CQ when room allows. -/
  | completionWrite (ext : Option CmdResp)
  /-- R312: HP_BRIDGE_CMD START makes the package ALTERNATE or claims the lease to become PRIMARY. -/
  | start (claim : Bool)
  /-- R317: HP_BRIDGE_CMD RELINQUISH stops dispatch and drains before giving up the lease. -/
  | relinquish
  /-- R317: The final checkpoint is valid or 2 ms pass; the lease is written with VALID = 0. -/
  | relinquishEnd
  /-- R304: HP_BRIDGE_CMD FORGET removes a rank from the group table. -/
  | forget (r : Fin 16)
  /-- R313: Every 1 ms the primary sends a checkpoint image to the alternate. -/
  | checkpoint
  /-- R314: Every 10 µs a heartbeat is sent on the rope path and pulsed on the sideband. -/
  | heartbeatSend
  /-- R314: A falling edge on the other rank's heartbeat line is received. -/
  | heartbeatEdge
  /-- R314: A 10 µs window ends; missed or received beats lose or regain a path. -/
  | heartbeatWindow
  /-- R311: Every 1 ms the primary sends an announcement to every present rank. -/
  | announcement
  /-- R315: Every 100 µs the primary issues a renewal CAS. -/
  | leaseRenewal
  /-- R316: A lease CAS completes; a renewal or claim succeeds or fails. -/
  | leaseCasComplete (found : Word)
  /-- R316: A renewal has not completed in 50 µs and the primary becomes DEMOTED. -/
  | leaseRenewalTimeout
  /-- R317: A watching alternate's 100 µs lease read completes and the lease is judged fresh or stale. -/
  | leaseRead (found : Word)
  /-- R318: A package in RESTORING loads its checkpoint, scans CQs, redispatches and becomes PRIMARY. -/
  | takeover (found : HostData)
  /-- R330: SN_CMD SNAP takes the hub's cut and sends snapshot markers, or is refused. -/
  | snap (id : BitVec 16)
  /-- R331: A snapshot marker arrives; the unit takes its cut and forwards the marker. -/
  | snapshotMarker (u : SnapUnit)
  /-- R332: A die's confirm reaches the hub; with all confirms in, release is sent. -/
  | snapshotConfirm (n : Die)
  /-- R332: A release reaches a die and its gateway resumes. -/
  | snapshotRelease (n : Die)
  /-- R332: A die gets no release within HOLD_LIM and releases itself, marking the snapshot TORN. -/
  | snapshotHoldLimit (n : Die)
  /-- R327: SN_CCLR clears a flag only when its occurrence count equals EXPECT. -/
  | conditionalClear (a : BitVec 36) (bit : Fin 64) (expect : BitVec 16)
  /-- R336: A trace record reaches the trace unit and is written, dropped or stops tracing. -/
  | traceRecord (t : TraceIn)
  /-- R337: A write to SN_TRC_MARK produces a kind 8 trace record. -/
  | traceMark (v : BitVec 32)
  /-- R343: A fault report reaches the collector, is classified, recorded and reacted to. -/
  | faultReport
  /-- R348: The fence actions of a channel complete. -/
  | fenceComplete (n : Die)
  /-- R346: A D record's window expires and it escalates to an F record. -/
  | windowExpiry (c : Fin 5) (i : Fin 256)
  /-- R345: A D cause's clearing condition is met and its record becomes CLEARED. -/
  | hardwareClear (c : Fin 5) (i : Fin 256)
  /-- R345: FC_CMD RESOLVE moves an OPEN D record to RESOLVED, or is refused. -/
  | resolve (c : Fin 5) (seq : BitVec 32)
  /-- R349: FC_CMD RELEASE lifts a channel's fence and makes it ACTIVE, or is refused. -/
  | release (c : Fin 5)
  /-- R354: The collector's two copies disagree; it stops logging and the package enters the safe state. -/
  | collectorMismatch (c : Fin 5)
  /-- R356: FC_INJ ARM arms a checker to fail its next N checks, or is refused. -/
  | arm (kind : BitVec 8) (inst : BitVec 16) (k : BitVec 16)
  /-- R356: FC_INJ DISARM cancels a checker's remaining injected checks. -/
  | disarm (kind : BitVec 8) (inst : BitVec 16)
  /-- R363: At each 1 ms interval end the keystone attributes energy and sends a MIRROR frame. -/
  | accountingInterval (rails : List KsRail)
  /-- R364: An ACTIVITY frame reaches the keystone with the interval's counts. -/
  | activity (cnt : List Nat) (crcOk : Bool)
  /-- R364: No valid activity frame arrives 0.5 ms after an interval and it falls back to equal quarters. -/
  | activityTimeout
  /-- R368: A MIRROR frame reaches the hub and updates unit 0x7. -/
  | mirror (ok : Bool)
  /-- R370: The keystone signs a reading with the given nonce. -/
  | signReading (ok : Bool)
  /-- R369: The keystone signs a statement over a range of audit entries. -/
  | signAudit (first : BitVec 32) (ok : Bool)
  /-- R375: The keystone starts a self-calibration cycle. -/
  | selfcal (ok : Bool)
  /-- R369: The keystone selects the KS_PULSE source. -/
  | pulseSrc (src : BitVec 32) (ok : Bool)
  /-- R376: The keystone writes a block into its staging slot after a CRC check. -/
  | ksStageBlock (off : BitVec 32) (len : Fin 8192) (ok : Bool)
  /-- R376: The keystone erases its staging slot. -/
  | stageClear (ok : Bool)
  /-- R369: A RESPONSE frame reaches the hub and completes the mailbox command. -/
  | response (ok : Bool)
  /-- R369: No response within 5 ms; the hub resends the COMMAND frame with the same SEQ. -/
  | mailboxResend (ok : Bool)
  /-- R369: No response within 50 ms; the command completes with STATUS 4. -/
  | mailboxTimeout
  /-- R366: An AUDIT frame reaches the hub and updates KS_AUDIT. -/
  | audit (ok : Bool)
  /-- R366: An IDENTITY frame reaches the hub and fills KS_ID and KS_INFO. -/
  | identity (ok : Bool)
  /-- R366: A PUBKEY frame reaches the hub and fills KS_PUBKEY. -/
  | pubkey (ok : Bool)
  /-- R366: Good IDLE frames for 10 µs bring the keystone link up. -/
  | ksLinkUp
  /-- R366: No good frame for 1 ms brings the keystone link down and the mirror goes STALE. -/
  | ksLinkDown
  /-- R361: Each second pairs A and B are compared and SEAL_SENSE written on disagreement. -/
  | pairCompare
  /-- R362: The oscillators differ by more than 0.05 % for 10 ms and SEAL_CLOCK is written. -/
  | clockCheck (differ : Bool)
  /-- R372: VKS falls below threshold; the keystone commits its values and writes POWER_LOSS. -/
  | powerLoss
  /-- R372: Every 1 s the keystone commits its values to non-volatile memory. -/
  | ksPeriodicCommit
  /-- R373: 2 ms after VKS is in range the accumulators run and POWER_ON, or SEAL_UNMETERED then POWER_ON, is written. -/
  | powerOn (above : BitVec 12)
  /-- R376: At keystone power-on the ROM verifies a staged image and applies or rejects it. -/
  | ksImageCheck (h : KsHeader)
  /-- R375: A scheduled keystone calibration of an entry's pairs runs and completes. -/
  | calibrationCycle (r : KsRun)
  /-- R360: The selected energy crosses a 10 J boundary and a pulse is driven on KS_PULSE. -/
  | ksPulse
  /-- R387: HP_FW_CMD STAGE_BEGIN erases slot B and makes it RECEIVING. -/
  | stageBegin
  /-- R387: HP_FW_CMD STAGE_BLOCK reads a host block, checks its CRC and writes it to slot B. -/
  | stageBlock (len : Fin 131072) (found : HostData)
  /-- R387: HP_FW_CMD STAGE_END checks that every manifest range is written and makes slot B STAGED. -/
  | stageEnd
  /-- R389: HP_FW_CMD ACTIVATE starts a hitch, or in recovery verifies and applies slot B. -/
  | activate
  /-- R391: HP_FW_CMD COMMIT raises fuse counters and copies slot B over slot A. -/
  | commit (fuse : Bool)
  /-- R390: HP_FW_CMD REVERT returns every component to its slot A image. -/
  | revert
  /-- R387: HP_FW_CMD DISCARD erases slot B. -/
  | discard
  /-- R389: A hitch phase completes and the next restart begins. -/
  | hitchPhase (recOk : Bool) (io : FlashIO)
  /-- R389: A restarting unit reports ready to the new management firmware. -/
  | unitReady (i : Fin 15)
  /-- R390: A unit does not report ready within its limit and activation reverts. -/
  | hitchUnitTimeout
  /-- R391: The copy of slot B over slot A is verified and slot B is erased. -/
  | promotionComplete
  /-- R392: Management firmware writes BOOT_OK and FAILS is set to 0. -/
  | bootOk
  /-- R392: BOOT_OK is not written within 2 s; FAILS increments and the hub resets. -/
  | bootWatchdog (io : FlashIO)
  /-- R394: HP_CERT_CMD INSTALL checks a certificate and stores it or puts a debug certificate in force. -/
  | install (found : HostData)
  /-- R393: A recovery frame arrives on the UART and its firmware command is carried out by the ROM. -/
  | recoveryFrame (seq : BitVec 8) (op : BitVec 8) (off : BitVec 32) (crc : BitVec 32) (data : List Byte) (crcOk : Bool)
  /-- R384: PWROK rises: straps are sampled and cold start stage 1 runs. -/
  | pwrokRise (rank : Fin 16) (recovery : Bool) (cycle : Bool)
  /-- R384: A cold start stage completes and the next stage begins. -/
  | coldStartStage (io : FlashIO)
  /-- R403: PWROK falls for more than 1 µs; lasers go to safe low power and compute stops. -/
  | pwrokFall
  /-- R400: A write to HP_VCORE(n).TARGET moves the set-point, or is discarded. -/
  | vcoreSet (n : Die) (t : Fin 1024)
  /-- R399: An AVSBus transaction completes and ACTUAL or AVS_ERR is updated. -/
  | avsTransaction (n : Die) (ok : Bool) (mv : Fin 1024)
  /-- R401: A rail stays out of range for 5 µs and the package enters its safe state. -/
  | supplyFault (e : Fin 13)
  /-- R407: A sensor reads at or above its trip for 10 readings and the package enters its safe state. -/
  | thermalTrip (k : Fin 169)
  /-- R412: An I3C private write starts one management-space access. -/
  | i3cPrivateWrite (bytes : List Byte)
  /-- R412: An I3C private read returns the data and status of the last access. -/
  | i3cPrivateRead
  /-- R413: JTAG EXTEST drives boundary-scan outputs. -/
  | extest (pins : Nat)
  /-- R413: JTAG SAMPLE/PRELOAD captures and preloads the boundary-scan register. -/
  | samplePreload (pins preload : Nat)
  /-- R413: JTAG IDCODE selects the identification register. -/
  | idcode
  /-- R413: JTAG CLAMP holds outputs from the boundary register with BYPASS selected. -/
  | clamp
  /-- R413: JTAG HIGHZ places outputs in high impedance. -/
  | highz
  /-- R413: JTAG BYPASS selects the one-bit bypass register. -/
  | bypass
  /-- R413: JTAG MGMT_ACC Update-DR makes one management access. -/
  | mgmtAcc (dr : BitVec 112)
  /-- R413: JTAG TRACE_TAP reads the trace input queue without removing entries. -/
  | traceTap
  /-- R413: JTAG DIE_SEL routes TDI to TDO through one die's scan chain. -/
  | dieSel (d : Fin 14)
  /-- R413: A TAP reset selects IDCODE. -/
  | tapReset
  /-- R22: A credit-and-ack bond-lane frame (type 0x2) is received, returning credits and freeing acknowledged frames from the replay buffer. -/
  | creditAndAckFrame (l : Fin 25) (i : Fin 25) (dir : Bool) (f : BitVec 576) (err : BitVec 576)
  /-- R266: A flit that fails its CRC or carries a reserved TYPE is received; it is lost with its ack, NAK and credit fields, and CRC_FAIL counts it. -/
  | flitCrcFail (r : Fin 34) (f : BitVec 2048)
  /-- R262: The receiver meets a codeword it cannot correct; every flit with a bit in it is lost and UNCORR counts it. -/
  | uncorrectableCodeword (r : Fin 34) (flits : Fin 5)
  /-- R263: After a width change without notice, the receiver finds codeword alignment by zero-syndrome search and resumes decoding. -/
  | codewordAlignment (r : Fin 34)
  /-- R282: Codeword k0 is reached; the transmitter begins sending the logical strand on both wavelengths and the receiver decodes both. -/
  | mirroringStart (r : Fin 34)
  /-- R282: The receiver counts 256 consecutive good codewords on the new wavelength and sends SPLICE_READY. -/
  | newWavelengthGood (r : Fin 34) (cw : Nat)
  /-- R225: The 2 ms full-power probe of an open-fibre rope ends and its lasers return to safe low power. -/
  | openFibreProbeEnd (r : Fin 24)
  /-- R254: While the slot ring appears full, the device reads the HEAD word again and sends a held-back GO once a slot is shown consumed. -/
  | aorHeadReread (i : Fin 16)
  /-- R317: In RELINQUISHING, responses have drained or 1 ms has passed, and the final checkpoint is sent with role 3 heartbeats. -/
  | finalCheckpoint
  /-- R361: A keystone voltage or current sense is outside its converter's range for 1 ms; SEAL_SENSE is written and SENSE is set. -/
  | senseOutOfRange (e : Fin 13)
  /-- R370: The keystone finishes signing a reading or audit statement, advances its reading sequence, stores the response and sends one RESPONSE frame. -/
  | ksSigningComplete
  deriving DecidableEq, Repr

end Sys2Proof
end

