-- ==== Sys2Proof/Machine/State.lean ====
section
/-! DEFINITION. The state of the block: every register of every card in one sparse register file, memory, and the queues,
buffers and engine contents that the spec names and no register holds; plain data throughout. The faults and refusals, and
the state right after reset. -/
namespace Sys2Proof.Machine

/-- The machine faults. No command of this block ends in one: every fault the spec names is a record of the fault
collector, which is state. -/
inductive Fault where
  /-- Raised by no command: the type has one name so that it is not empty. Safe. -/
  | none
  deriving DecidableEq, Repr

/-- The refusals: commands without a meaning. -/
inductive Refusal where
  /-- Raised by exec's arm of a command that has no meaning in this model yet; names its mnemonic. Safe. -/
  | notModelled (mnemonic : String)
  deriving DecidableEq, Repr

/-- R343: a fault report on its way to the collector: cause, channel mask (0: the package), source unit and block, instance,
bytes 32-63 of the record as a number, and byte 3 of the record (INJ, LOCAL, ESC, REATTACH). -/
structure Report where
  cause : Nat
  mask : Nat
  unit : Nat
  block : Nat
  inst : Nat
  detail : Nat
  flags : Nat
  deriving DecidableEq, Repr

/-- R114, R115: a trap raised and not yet delivered. -/
structure TrapReq where
  cause : Nat
  epc : Nat
  info : Nat
  deriving DecidableEq, Repr

/-- R140, R151: what a WAITING ply needs to wake: the destination register of the waiting instruction, and the epoch at which
a kwait times out. -/
structure WaitRec where
  d : Nat
  deadline : Option Nat
  deriving DecidableEq, Repr

/-- The part of a ply that no register card shows: the full ISSUED count (R111), a trap being delivered (R115), an end being
carried out (R111), a ppt that waits for its save (R112), an abort being carried out (R117), the fetch buffer (R83), the tag
of the ply's last mrecv (R127), its wait (R151), the steps it has been eligible without issuing and whether ageing has raised
it for one step (R150), whether a pre-emption request has marked it (R214), and the handle of the span-knot instruction held at
issue while the hub is absent (R143), and the time that the reissue of a withdrawn wait uses in place of its operand, 0 for no limit (R218). -/
structure PlyX where
  issued : Nat
  trap : Option TrapReq
  ending : Bool
  saving : Bool
  aborting : Bool
  fbuf : List (Nat × Word)
  lastTag : Word
  wait : Option WaitRec
  age : Nat
  aged : Bool
  marked : Bool
  held : Option Nat
  rewait : Option Nat
  deriving DecidableEq, Repr

def PlyX.reset : PlyX := ⟨0, none, false, false, false, [], 0, none, 0, false, false, none, none⟩

/-- R72: one entry of the shadow queue: the ply that issued the step, the bank, the block's 64 narrow partial sums, where its shadow operands lie, the
tolerance read by its step, why it is in the queue, and the rounding of its corrections (R75). -/
structure ShadowEntry where
  ply : Nat
  bank : Nat
  sums : List V
  inAddr : Nat
  inScale : Nat
  wAddr : Nat
  wScale : Nat
  tol : Nat
  sampled : Bool
  escalated : Bool
  stoch : Bool
  deriving DecidableEq, Repr

/-- R122, Table 4-2: a message: its body as a number, its tag. -/
structure Msg where
  body : Nat
  tag : Nat
  deriving DecidableEq, Repr

/-- The part of a brick that no register card shows: the shadow queue (R72), the saturated blocks counted in the current frame
(R74) with the frame, the directory cache (R121, most recent first), the inbox (R122, R129, oldest first), the plies waiting in
mrecv (R129), the tickets of DMA descriptors not complete (R136), the last plies chosen (R149), the plies
that yielded (R150), the part of each plane's shadow base above the brick store's size (R70, R99), and whether the brick store is
swapped out (R215). -/
structure BrickX where
  shq : List ShadowEntry
  frame : Nat
  satCount : Nat
  dirCache : List (Nat × Nat)
  inbox : List Msg
  recvQ : List Nat
  tickets : List Nat
  lastA : Nat
  lastS : Nat
  yielded : List Nat
  shHi : List Nat
  swapped : Bool
  deriving DecidableEq, Repr

def BrickX.reset : BrickX := ⟨[], 0, 0, [], [], [], [], 3, 3, [], [0, 0, 0, 0], false⟩

/-- Where an accepted message stands: in its brick's outbox, or past the interposer ropes at the gateway of a die (R124). -/
inductive MsgAt where
  | outbox
  | gateway (die : Nat)
  deriving DecidableEq, Repr

/-- R183, R124: an accepted message that has not been performed: the sending die and brick, where it stands, the message. -/
structure Flight where
  die : Nat
  brick : Nat
  at_ : MsgAt
  msg : Msg
  deriving DecidableEq, Repr

/-- Table 4-3: a knot operation. -/
inductive KOp where
  | arrive | signal | test | arm | reset | watch
  deriving DecidableEq, Repr

/-- Who issued a knot operation: a ply's instruction, which holds an entry of its brick's knot queue (R122, R128), or an engine
(a tally, an inbox, a DMA engine, the fault collector), which does not; die 4 stands for the package, whose ksigr may name any of its knots (R144). -/
inductive KSrc where
  | ply (die brick ply : Nat)
  | engine (die : Nat)
  deriving DecidableEq, Repr

/-- R138, Table 4-3: a knot operation on its way to a knot engine. `seq` is the scoreboard entry that awaits the reply. -/
structure KnotOp where
  src : KSrc
  handle : Nat
  op : KOp
  auto : Bool
  reply : Bool
  arg : Nat
  seq : Nat
  deriving DecidableEq, Repr

/-- Table 4-3: the kinds of knot notice. -/
inductive NKind where
  | fire | reset | reply
  deriving DecidableEq, Repr

/-- Where a knot notice goes: a course of the owning die, another die, or one ply. -/
inductive NDest where
  | course (die c : Nat)
  | die (d : Nat)
  | ply (die brick ply : Nat)
  deriving DecidableEq, Repr

/-- Table 4-3: a knot notice on its way. -/
structure Notice where
  dest : NDest
  handle : Nat
  kind : NKind
  gen : Nat
  word : Nat
  seq : Nat
  deriving DecidableEq, Repr

/-- Where a request came from, so where its response goes: the submit register of the channel (R161, R214), or a host queue
(R307): the bridge's rank, the queue pair, and the command sequence number. -/
inductive Origin where
  | submit
  | queue (rank q csn : Nat)
  deriving DecidableEq, Repr

/-- R161, R214: a request waiting for its controller: its origin, and its 64 bytes as a number once they have been read; a
submit register names them by physical address. -/
structure Request where
  origin : Origin
  addr : Nat
  raw : Option Nat
  deriving DecidableEq, Repr

/-- R164, R168-R172: what a ledger entry holds beside CH_LEDGER: its request, the epoch at which its work may begin, the
predecessor of a successor, whether that has ended with its work complete, the power of the predecessor that still counts in E
on its behalf, whether the launch has been deferred and has acted, whether its power counts in E, its plies that have not
ended (as 4 b + q), the highest course temperature at acceptance (CD_TEMP code), its ΔP_eff, the epoch at which its work
stopped, whether its resources are released, whether its wait for a record slot has been flagged. -/
structure LedX where
  req : Nat
  start : Nat
  pred : Option Nat
  predDone : Bool
  holdE : Nat
  deferred : Bool
  acted : Bool
  inE : Bool
  left : List Nat
  tMax : Int
  dEff : Nat
  stopped : Option Nat
  released : Bool
  noted : Bool
  deriving DecidableEq, Repr

/-- R193: a cached translation: address space, global, the first virtual address it covers, its size in bytes, the physical
address of its first byte, the access rights, and the number of pin sets that lock it. -/
structure XEnt where
  asid : Nat
  g : Bool
  va : Nat
  size : Nat
  pa : Nat
  r : Bool
  w : Bool
  locks : Nat
  deriving DecidableEq, Repr

/-- R193: an entry of the walk cache: address space, level 0 or 1, the virtual address bits that index it, the entry. -/
structure WEnt where
  asid : Nat
  level : Nat
  idx : Nat
  ent : Nat
  deriving DecidableEq, Repr

/-- R196, R197: a page of a pin set: its address space and virtual address, the pin-set page count it stands for; for a moved
page the physical address of its L2 entry, its original page, and its pool page. -/
structure PinPage where
  asid : Nat
  va : Nat
  l2 : Nat
  orig : Nat
  pool : Nat
  deriving DecidableEq, Repr

/-- R176, R177: a pin set: its tier, its ranges (virtual address, pages, address space), the members of its span at creation, the
cached translations it locks (address space and first virtual address), the pages still to be moved, the pages moved, whether
it is complete, whether it is being released, the fault record of a pin that is to be abandoned (R199), and where its response
goes. -/
structure PinX where
  tier : Nat
  ranges : List (Nat × Nat × Nat)
  locked : List (Nat × Nat)
  todo : List PinPage
  moved : List PinPage
  complete : Bool
  unpin : Bool
  failed : Option Nat
  origin : Origin
  deriving DecidableEq, Repr

/-- R201, R202: a DMA descriptor on its way: its 64 bytes as a number, its address, the submitting brick and ply of a `dmaq`, its
ticket, the ledger entry whose transfer or launch it belongs to, the restart point and block at which it starts (after a save,
R216), its slot of the queue (R329), and the host-queue command that waits for it (R307). -/
structure QDesc where
  raw : Nat
  addr : Nat
  src : Option (Nat × Nat)
  ticket : Nat
  entry : Option Nat
  pos : Nat
  blk : Nat
  slot : Nat
  origin : Option Origin
  deriving DecidableEq, Repr

/-- R204: a piece of a block in an engine's buffer: where it goes, its bytes, whether a source line was poisoned. -/
structure Piece where
  dst : Nat
  data : List Byte
  bad : Bool
  deriving DecidableEq, Repr

/-- R204: how far the current block of an engine is: being translated and read; sent and at its destination; sent and on its way to
another die (R276) or another package (R290). -/
inductive Leg where
  | build | atDest | toDie | toPkg
  deriving DecidableEq, Repr

/-- R204, R208: what a DMA engine holds: its descriptor, the pieces taken of the current block, the translation it waits for
(address, whether it is a destination), the CRC mismatches of the block, the block's leg, whether a source line was poisoned, and
whether its descriptor is complete and its NEXT is being fetched. -/
structure EngX where
  d : QDesc
  taken : List Piece
  miss : Option (Nat × Bool)
  bad : Nat
  leg : Leg
  poisoned : Bool
  nextWait : Bool
  deriving DecidableEq, Repr

/-- R212: what follows once a fault record has been written: nothing, a HELD engine becomes PARKED, or a descriptor ends (its knot
arrival, its ticket). -/
inductive After where
  | none
  | park (e : Nat)
  | finish (e : Option Nat) (d : QDesc) (arrive abort : Bool)
  deriving DecidableEq, Repr

/-- Table 6-10: a fault record waiting to be written: its 64 bytes as a number without the sequence, what follows, and whether
its wait for a free slot has been flagged. -/
structure FRec where
  body : Nat
  after : After
  noted : Bool
  deriving DecidableEq, Repr

/-- R214-R220: what a live pre-emption request holds beside CH_PRE_REQ: its 64 bytes, the descriptors stopped for it, the epoch from
which LIMIT counts, its waits withdrawn (ply, CD_PLY_WAIT, remaining ns), the states of its plies before the save, the order of
its end among terminal requests. -/
structure PreX where
  raw : Nat
  descs : List QDesc
  since : Nat
  waits : List (Nat × Nat × Nat)
  states : List (Nat × Nat)
  ended : Nat
  deriving DecidableEq, Repr

/-- The part of a compute die and its channel that no register card shows: whether the die holds the hub absent (R47); the
mirror of the span knots in its bed, SPAN plus 4 × GEN by index (R143); the admission and pre-emption requests that wait and
whether the first is a pin or unpin in progress (R161, R176); the ledger (R171); the committed power by epoch, newest first, and the
last power estimates (R168, R170); pin sets by handle and the original page of each pool page in use (R177, R197); the
translation caches, most recently used first (R193), and the walk cache; an invalidation in progress: the engines it waits for
(R194); the DMA queue and engines (R201), records waiting for the fault queue and the sequence of the next (R212); the
pre-emption requests (R214). While the hub is absent: the faults recorded locally with the epoch of each, those beyond 64,
whether the die is fenced by itself or halted for a grave fault, and the hub time at which the absence began (R47). The hub time of the
last keepalive. What the die's capsule recorded at cold start (words 0 and 1, R43). -/
structure DieX where
  hubAbsent : Bool
  skMirror : Tab Nat
  admQ : List Request
  admBusy : Bool
  ledger : Tab (Option LedX)
  powerE : List (Nat × Nat)
  powerP : List Nat
  pins : Tab (Option PinX)
  poolUse : Tab Nat
  dieCache : List XEnt
  hubCache : List XEnt
  walkCache : List WEnt
  invWait : Option (List Nat)
  dmaQ : List QDesc
  engines : Tab (Option EngX)
  faultQ : List FRec
  faultSeq : Nat
  preQ : List Request
  preReqs : Tab (Option PreX)
  preEnds : Nat
  localFaults : List (Report × Nat)
  localLost : Nat
  localFence : Bool
  grave : Bool
  absentAt : Nat
  alive : Nat
  capRec : Option (Nat × Nat)
  deriving DecidableEq, Repr

def DieX.reset : DieX where
  hubAbsent := false
  skMirror := []
  admQ := []
  admBusy := false
  ledger := []
  powerE := []
  powerP := []
  pins := []
  poolUse := []
  dieCache := []
  hubCache := []
  walkCache := []
  invWait := none
  dmaQ := []
  engines := []
  faultQ := []
  faultSeq := 0
  preQ := []
  preReqs := []
  preEnds := 0
  localFaults := []
  localLost := 0
  localFence := false
  grave := false
  absentAt := 0
  alive := 0
  capRec := none

/-! ## Light (07) -/

/-- R238, R241: the spare of a rope that is being brought up: its wavelength, the logical strand it is for, its phase (1-5 in
progress, 6 locked, 7 its splice or width restore asked of the link layer), whether that strand has failed. -/
structure Bring where
  lam : Nat
  strand : Nat
  phase : Nat
  failed : Bool
  deriving DecidableEq, Repr

/-- What no register shows of the light of one rope: for each strand the consecutive reports below 1.5, 1.0 and 0.3 dB and at or
above the level to fall back (R236); a laser's state and bias before safe low power (R242); the spare being brought up, and the
strands that wait for one (R241); whether an open-fibre probe is lit (R225);
the strand reports sent (R235). -/
structure LightX where
  runs : Tab (List Nat)
  prev : Tab (Nat × Nat)
  bring : Option Bring
  want : List (Nat × Bool)
  probe : Bool
  reports : Nat
  deriving DecidableEq, Repr

def LightX.reset : LightX := ⟨[], [], none, [], false, 0⟩

/-- R233, R234: a calibration of one rope, or of one ring of it, in an optical engine or the interposer; whether OE_CMD asked. -/
structure CalX where
  rope : Nat
  ring : Option Nat
  cmd : Bool
  deriving DecidableEq, Repr

/-- R246: who requested a re-direction. -/
inductive SteerSrc where
  | cmd
  | trig (t : Nat)
  | aorOpen (i : Nat)
  | aorClose (i : Nat)
  | dissolve (span : Nat)
  deriving DecidableEq, Repr

/-- R246: a request of the re-direction queue: who asked, the configuration, or for a request of a session or a dissolve the
destinations themselves (coded as PI_STEER_CFG), the mask of ropes. -/
structure SteerReq where
  src : SteerSrc
  cfg : Option Nat
  dest : Nat
  mask : Nat
  deriving DecidableEq, Repr

/-- R252: a contribution of one source: its number, its 32 elements as sent digitally (F16 patterns), its intensity codes, which
elements are poison, whether an element was clipped. -/
structure Contrib where
  k : Nat
  el : List Nat
  code : List Nat
  poison : List Bool
  sat : Bool
  deriving DecidableEq, Repr

/-- R250-R258: an AOR session: its descriptor as a number; per source the contributions accepted and not summed, oldest first, and
the number of the next; the contributions for which READY has arrived, by source (lowest first); how many have received GO; the
first that is summed digitally; the sum of squared differences of checked elements (scaled by 2^200) and their number;
the steering its I1 ropes return to; whether its steering has completed. -/
structure AorX where
  raw : Nat
  contribs : List (List Contrib)
  nextK : List Nat
  ready : List Nat
  go : Nat
  digital : Option Nat
  sq : Nat
  sqN : Nat
  home : List (Nat × Nat)
  steered : Bool
  deriving DecidableEq, Repr

/-- What no register shows of the optical engines and the interposer controller: the light of each rope; the calibration in
progress by unit (engines 0-7, 8 the interposer); the 1 µs updates for which each ring has held its detuning at or below 1.5 GHz, up to 100
(R229); the re-direction queue, the one in progress, and the fires passed to the controller (R246); the AOR sessions. -/
structure OptX where
  light : Tab LightX
  cal : Tab (Option CalX)
  calm : Tab Nat
  steerQ : List SteerReq
  steering : Option SteerReq
  fires : List Nat
  aor : Tab (Option AorX)
  deriving DecidableEq, Repr

def OptX.reset : OptX := ⟨[], [], [], [], none, [], []⟩

/-! ## Ropes and transport (08) -/

/-- A sequenced flit: its number once it has been sent, its virtual queue, its payload without trailing zeros. -/
structure TxFlit where
  seq : Nat
  vq : Nat
  body : List Byte
  deriving DecidableEq, Repr

/-- R283: a change of a rope: 1 retrain, 2 splice, 3 width restore, 4 width drop; whether it concerns this end's transmit direction;
logical strand, old and new wavelength; the request number. -/
structure Change where
  kind : Nat
  tx : Bool
  strand : Nat
  old : Nat
  new : Nat
  num : Nat
  deriving DecidableEq, Repr

/-- R281: a width and map announced for a codeword: the direction, the 16 wavelengths (31 for a strand out of service). -/
structure Switch where
  tx : Bool
  map : List Nat
  k1 : Nat
  deriving DecidableEq, Repr

/-- The link layer of one rope (R267-R285). Transmit direction: flits handed over and not sent, flits sent and unacknowledged
(oldest first), the next sequence number, the credits of queues 1-3, the NAK guards (flit and time; 4096 stands for OVF, 4097 for
RESYNC), the map. Receive direction: E, the number of the next in-order flit, the slots lost since the last good flit, the flits
held, the numbers marked lost, RESYNC, OVF, whether codeword alignment holds, the bytes delivered on queues 1-3 that are not yet
a whole segment, the credits to return, delivered link control bodies, the map. Both: the training phase (0 none), whether HELLO
has arrived and names a new peer; the change in progress, the request sent and unanswered, the one to be evaluated again, the next
request number, the switch announced, the restore being judged (its direction and strand), failed restores, the time since which the
rope runs on 15 strands (R298). -/
structure RopeX where
  out : List TxFlit
  sent : List TxFlit
  next : Nat
  credit : List Nat
  guard : List (Nat × Nat)
  txMap : List Nat
  e : Nat
  count : Nat
  slots : Nat
  held : List TxFlit
  lost : List Nat
  resync : Bool
  ovf : Bool
  aligned : Bool
  bufs : List (List Byte)
  ret : List Nat
  lctl : List (List Byte)
  rxMap : List Nat
  phase : Nat
  hello : Bool
  newPeer : Bool
  change : Option Change
  asked : Option Change
  again : Option Change
  num : Nat
  switch : Option Switch
  judged : Option (Bool × Nat)
  restoreFails : Nat
  narrow : Option Nat
  deriving DecidableEq, Repr

/-- R222: at cold start logical strand i runs on wavelength i; R273: the far end's delivery buffers give the first credits. -/
def RopeX.reset : RopeX where
  out := []
  sent := []
  next := 0
  credit := [128, 512, 1024]
  guard := []
  txMap := List.range 16
  e := 0
  count := 0
  slots := 0
  held := []
  lost := []
  resync := false
  ovf := false
  aligned := true
  bufs := [[], [], []]
  ret := [0, 0, 0]
  lctl := []
  rxMap := List.range 16
  phase := 0
  hello := false
  newPeer := false
  change := none
  asked := none
  again := none
  num := 0
  switch := none
  judged := none
  restoreFails := 0
  narrow := none

/-- Table 8-12: a segment. -/
structure Seg where
  kind : Nat
  via : Nat
  viaEn : Bool
  dual : Bool
  prom : Bool
  resent : Bool
  srcRank : Nat
  srcEp : Nat
  dstRank : Nat
  dstEp : Nat
  tseq : Nat
  gen : Nat
  arg : Nat
  addr : Nat
  body : List Byte
  deriving DecidableEq, Repr

/-- R286-R296: a segment of a connection: the rope named by its admitted transfer, the DMA engine whose block it carries, the ropes
on which it was last sent. -/
structure TxSeg where
  seg : Seg
  named : Option Nat
  eng : Option (Nat × Nat)
  ropes : List Nat
  deriving DecidableEq, Repr

/-- R286, R289, R291, R297: the sending end of a connection: whether it is open, segments that wait, segments unacknowledged in TSEQ
order. -/
structure ConnTx where
  isOpen : Bool
  waiting : List TxSeg
  unacked : List TxSeg
  deriving DecidableEq, Repr

/-- R289: the receiving end of a connection: whether an OPEN has been accepted, the numbers received beyond CUM, the segments held
for delivery in order, whether an acknowledgement is due. -/
structure ConnRx where
  isOpen : Bool
  marks : List Nat
  held : List Seg
  due : Bool
  deriving DecidableEq, Repr

/-- R286-R297: the transport: both ends of each connection, by endpoint × 240 + 15 r + 3 e + k; the segments that have arrived, with
their rope and virtual queue, oldest first; the named ropes that have been DOWN or HELD under a promised transfer (channel, ledger
entry). -/
structure NetX where
  tx : Tab ConnTx
  rx : Tab ConnRx
  arrived : List (Nat × Nat × Seg)
  moved : List (Nat × Nat)
  deriving DecidableEq, Repr

def ConnTx.reset : ConnTx := ⟨false, [], []⟩
def ConnRx.reset : ConnRx := ⟨false, [], [], false⟩
def NetX.reset : NetX := ⟨[], [], [], []⟩

/-- R311, Table 9-4: host traffic of this package on its way to the bridge: a write, a read of `len` bytes with its tag, an interrupt. -/
inductive HostOp where
  | write (pa : Nat) (data : List Byte) (bad : Bool)
  | read (pa len tag : Nat)
  | irq
  deriving DecidableEq, Repr

/-- R311: a read of host memory that travels through the bridge: who reads (a channel, or 4 for the hub), the physical address and
length, its tag, and the data with its poison once it has returned. -/
structure HostRead where
  who : Nat
  pa : Nat
  len : Nat
  tag : Nat
  data : Option (List Byte × Bool)
  deriving DecidableEq, Repr

/-- R307: a response returning to the bridge: the rank, queue pair and command sequence number it answers, its 16-byte result. -/
structure Response where
  rank : Nat
  q : Nat
  csn : Nat
  result : Nat
  deriving DecidableEq, Repr

/-- R307: a command dispatched and not completed: queue pair, command sequence number, destination rank and channel, TYPE, host tag,
whether its completion raises the queue's vector. -/
structure QCmd where
  q : Nat
  csn : Nat
  rank : Nat
  ch : Nat
  type : Nat
  tag : Nat
  irq : Bool
  deriving DecidableEq, Repr

/-- R308: the command record of a channel for one queue: the highest sequence number executed, and the responses of the last 64
commands, newest first. -/
structure CmdRec where
  high : Nat
  last : List (Nat × Nat)
  deriving DecidableEq, Repr

def CmdRec.reset : CmdRec := ⟨0, []⟩

/-- R310: a forwarded read that waits for its response: tag, rank, address, operation of Table 9-4. -/
structure FwdRead where
  tag : Nat
  rank : Nat
  addr : Nat
  op : Nat
  deriving DecidableEq, Repr

/-- How a read through BAR2 completes (R7, R310). -/
inductive BarStatus where
  | done | poisoned | unsupported | aborted
  deriving DecidableEq, Repr

/-- A completion of a read through BAR0 or BAR2, as returned to the host. -/
structure BarOut where
  addr : Nat
  status : BarStatus
  data : Nat
  deriving DecidableEq, Repr

/-- R312-R317: why a CAS on the lease was issued. -/
inductive CasKind where
  | start | claim | renew | relinquish
  deriving DecidableEq, Repr

/-- R315: a CAS on the lease that has not completed. -/
structure Cas where
  kind : CasKind
  expect : Nat
  new : Nat
  deriving DecidableEq, Repr

/-- R313: a checkpoint of which chunks have arrived: number, chunk count, image length, CRC, the chunks by index. -/
structure CkptRx where
  num : Nat
  count : Nat
  len : Nat
  crc : Nat
  chunks : Tab (List Byte)
  deriving DecidableEq, Repr

/-- R314: one heartbeat path: whether a beat has arrived in the present window, consecutive windows without one, and with one. -/
structure BeatX where
  seen : Bool
  missed : Nat
  good : Nat
  deriving DecidableEq, Repr

/-- What no register shows of the host port and the bridge (09). The link: whether it is up, whether PERST_N is asserted; reads completed
to the host. The commands dispatched and not completed (R307), the command records by channel and queue (R308), the forwarded
reads and the next tag (R310), the next tag of host reads (R311). Heartbeats: the rope path and the sideband path, beats sent, falling edges driven on the
own line, the role last heard from the other rank. Checkpoints: the number of the last one sent, the one being received, whether
one has become valid since this package was demoted, whether the final one has been sent. The lease: the last value written or
read, the CAS in flight, the last value read while WATCHING with the number of equal reads, whether two reads differed. -/
structure PortX where
  up : Bool
  perst : Bool
  done : List BarOut
  outst : List QCmd
  cmds : Tab CmdRec
  fwd : List FwdRead
  fwdTag : Nat
  hostTag : Nat
  ropeBeat : BeatX
  sideBeat : BeatX
  beats : Nat
  pulses : Nat
  peerRole : Nat
  ckptSent : Nat
  ckptRx : Option CkptRx
  ckptNew : Bool
  finalSent : Bool
  lease : Nat
  cas : Option Cas
  watch : Option (Nat × Nat)
  fresh : Bool
  deriving DecidableEq, Repr

/-- Before power: PERST_N asserted, the link down, nothing in progress. -/
def PortX.reset : PortX where
  up := false
  perst := true
  done := []
  outst := []
  cmds := []
  fwd := []
  fwdTag := 0
  hostTag := 0
  ropeBeat := ⟨false, 0, 0⟩
  sideBeat := ⟨false, 0, 0⟩
  beats := 0
  pulses := 0
  peerRole := 0
  ckptSent := 0
  ckptRx := none
  ckptNew := false
  finalSent := false
  lease := 0
  cas := none
  watch := none
  fresh := false

/-! ## Faults (11) -/

/-- R344, R345: a D record that is OPEN: its number, its slot, cause, channel mask, source block and instance, and the hub time at which
its window expires. -/
structure OpenD where
  seq : Nat
  slot : Nat
  cause : Nat
  mask : Nat
  block : Nat
  inst : Nat
  due : Nat
  deriving DecidableEq, Repr

/-- What no register shows of the fault collector: the next record number of each collector (R341), its OPEN records, channels whose
fence actions are not complete (R348), collectors that stopped logging (R354), the record of each that escalated last with the
time (R347), and since when windows are paused (R355). -/
structure FcX where
  seqs : Tab Nat
  opens : List (Nat × OpenD)
  fencing : List Nat
  stopped : List Nat
  escLast : Tab (Nat × Nat)
  pausedAt : Option Nat
  deriving DecidableEq, Repr

def FcX.reset : FcX := ⟨[], [], [], [], [], none⟩

/-! ## Bond lanes, dies and the guest site (01) -/

/-- R22, R26: one bundle. Its transmitter: the next sequence number, the frames unacknowledged, oldest first (number, beats 0-16). Its
receiver: the number expected, whether it discards frames until that one arrives, consecutive failures of that frame, frames received
since it last acknowledged, payload frames delivered, credits returned by virtual queue. Its wires: the wire replaced by the spare (0x7F
none), whether that is a field repair, whether the spare itself is bad, whether the bundle failed a test, whether its pair failed in
operation, the PRBS31 errors of its worst wire. -/
structure BondX where
  next : Nat
  unacked : List (Nat × Nat)
  exp : Nat
  bad : Bool
  fails : Nat
  since : Nat
  got : Nat
  credits : Tab Nat
  replaced : Nat
  field : Bool
  spareBad : Bool
  failed : Bool
  failedNow : Bool
  prbs : Nat
  deriving DecidableEq, Repr

def BondX.reset : BondX := ⟨0, [], 0, false, 0, 0, 0, [], 0x7F, false, false, false, false, 0⟩

/-- R25: an interconnect test in progress: of a die's links during its rejoin (0-3), of every link at cold start (4), of the hub's links at
re-attach (5); its phase, 1 walking patterns, 2 PRBS31. -/
structure TestX where
  id : Nat
  phase : Nat
  deriving DecidableEq, Repr

/-- R38: what goes back to the guest: opcode, tag, status, data. -/
structure GuestOut where
  op : Nat
  tag : Nat
  status : Nat
  data : List Byte
  deriving DecidableEq, Repr

/-- Fuses: the unit ID (R15), the fused repair map of R26 (link, bundle pair, direction, wire), the stepping codes of the hub and of CD0-CD3 (Table 1-5), and the
fuse counters of G0-G3 (R383). -/
structure Fuses where
  uid : Nat
  repairs : List (Nat × Nat × Nat × Nat)
  steps : List Nat
  svn : List Nat
  deriving DecidableEq, Repr

/-- The part of the hub that no register card shows: the fuses; interrupt vectors raised on the host port, oldest first (R311), host traffic
not yet sent with the endpoint it is from, host reads in progress, responses of commands on their way to the bridge (R307), and the host
port. Whether the hub is down (R47); the clocked domains without a clock, with the hub time of the
loss (R18); the fault collector; the bundles by link, pair and direction; interconnect tests in progress; what has gone back to the guest
and the hub times of its denials within the last 1 ms (R40). -/
structure HubX where
  fuses : Fuses
  irqs : List Nat
  hostOut : List (Nat × HostOp)
  hostReads : List HostRead
  responses : List Response
  port : PortX
  down : Bool
  noClk : List (Nat × Nat)
  fc : FcX
  bonds : Tab BondX
  tests : List TestX
  guestOut : List GuestOut
  denials : List Nat
  deriving DecidableEq, Repr

def HubX.reset : HubX where
  fuses := ⟨0, [], [0x20, 0x20, 0x20, 0x20, 0x20], [0, 0, 0, 0]⟩
  irqs := []
  hostOut := []
  hostReads := []
  responses := []
  port := PortX.reset
  down := false
  noClk := []
  fc := FcX.reset
  bonds := []
  tests := []
  guestOut := []
  denials := []

/-! ## The keystone (12) -/

/-- Table 12-4, 0x03: a mailbox command: its sequence number, OP, LEN, ARG, AUX, data. -/
structure KsCmd where
  seq : Nat
  op : Nat
  len : Nat
  arg : Nat
  aux : Nat
  data : List Byte
  deriving DecidableEq, Repr

/-- Table 12-4, 0x01: a MIRROR frame: interval index, ms since power-on, the five energies, audit counter, FALLBACK, status word,
the word of each entry. -/
structure KsMirror where
  idx : Nat
  ms : Nat
  energy : List Nat
  audit : Nat
  fallback : Nat
  sts : Nat
  rails : List Nat
  deriving DecidableEq, Repr

/-- Table 12-4: a frame on its way from the keystone to the hub. -/
inductive KsFrame where
  | identity (uid hwType version fwId powerOn : Nat)
  | pubkey
  | audit (pos entry : Nat)
  | mirror (m : KsMirror)
  | response (seq status : Nat) (data : List Byte)
  deriving DecidableEq, Repr

/-- R370: a statement being signed: the command it answers, its 128-byte body as a number, whether it is a reading. -/
structure KsJob where
  seq : Nat
  body : Nat
  reading : Bool
  deriving DecidableEq, Repr

/-- R375: a calibration cycle in progress: the entry, whether pair A of it is being run (else B), the entries that failed so far,
whether pair B of this entry failed. -/
structure KsCal where
  entry : Nat
  pairA : Bool
  failed : List Nat
  deriving DecidableEq, Repr

/-- R363, R364: an interval that has ended and whose attribution awaits its activity frame: index, ms, the 13 energies in nJ, whether an entry's
pair A was not in use. -/
structure KsOpen where
  idx : Nat
  ms : Nat
  energy : List Nat
  stale : Bool
  deriving DecidableEq, Repr

/-- R359, R363: the accumulators: package and four channel energies in nJ; the fraction of each channel's part of each entry, by 4 e + n;
reading sequence; audit counter. -/
structure KsAcc where
  energy : List Nat
  frac : Tab Rat
  readings : Nat
  audit : Nat
  deriving DecidableEq, Repr

/-- The keystone (12). Fixed at manufacture: UID, hardware type, whether it holds a key. Non-volatile: the accumulators with the values committed
last, FALLBACK, power-on count, the audit log by position, the converter trims by 2 e + pair (gain in ppm, offset in steps, against the factory
trims), active image (version, firmware identifier, base powers in W by entry), fuse counter, the staging slot. Volatile: whether
it is powered, whether POWER_ON is still to be written, ms since power-on, the interval
awaiting attribution, the last interval attributed (ms, STALE), V and I last reported by entry, the sums of pairs A and B and of the current
since the last comparison with the number of intervals, entries failing the comparison, whether the timebase fails its check, the
calibration in progress, KS_PULSE (source in effect, selected source, 10 J crossings seen by source, pulses driven). The link: up, frames on
their way, the next command number; the command being signed, the last answer (number, status, data). At the hub: the mailbox command in flight, and
whether it has been resent. -/
structure KsX where
  uid : Nat
  hwType : Nat
  hasKey : Bool
  acc : KsAcc
  saved : KsAcc
  fallback : Nat
  powerOns : Nat
  log : Tab Nat
  trims : Tab (Int × Int)
  version : Nat
  fwId : Nat
  base : Tab Nat
  fuse : Nat
  staging : Tab (List Byte)
  powered : Bool
  starting : Bool
  ms : Nat
  waiting : Option KsOpen
  last : Nat × Bool
  rails : Tab Nat
  sums : Tab (Nat × Nat × Nat)
  sumN : Nat
  badSense : List Nat
  badClk : Bool
  cal : Option KsCal
  pulseSrc : Nat
  pulseSel : Nat
  marks : Tab Nat
  pulses : Nat
  link : Bool
  frames : List KsFrame
  nextSeq : Nat
  job : Option KsJob
  answer : Option (Nat × Nat × List Byte)
  mb : Option KsCmd
  resent : Bool
  deriving DecidableEq, Repr

def KsAcc.reset : KsAcc := ⟨[0, 0, 0, 0, 0], [], 0, 0⟩

/-- As made (R359, R371): energies, readings and audit counter 0, the log empty, factory trims, unpowered. -/
def KsX.reset : KsX where
  uid := 0
  hwType := 0
  hasKey := true
  acc := KsAcc.reset
  saved := KsAcc.reset
  fallback := 0
  powerOns := 0
  log := []
  trims := []
  version := 0
  fwId := 0
  base := []
  fuse := 0
  staging := []
  powered := false
  starting := false
  ms := 0
  waiting := none
  last := (0, false)
  rails := []
  sums := []
  sumN := 0
  badSense := []
  badClk := false
  cal := none
  pulseSrc := 0
  pulseSel := 0
  marks := []
  pulses := 0
  link := false
  frames := []
  nextSeq := 0
  job := none
  answer := none
  mb := none
  resent := false

/-! ## Start-up (13) -/

/-- Table 13-2: a boot record. -/
structure BootRec where
  seq : Nat
  bState : Nat
  fails : Nat
  reason : Nat
  verA : Nat
  verB : Nat
  deriving DecidableEq, Repr

/-- R379: the SPI NOR flash: the two copies of the boot record (none: not valid), certificates by slot as 512-byte numbers, the bytes of slots A and
B. -/
structure FlashX where
  rec0 : Option BootRec
  rec1 : Option BootRec
  certs : Tab Nat
  slotA : Tab Byte
  slotB : Tab Byte
  deriving DecidableEq, Repr

/-- R389, R390: a hitch, or the reversion of one: the phase, the component being restarted in phases 3-6, whether it reverts, whether a REVERT
asked for it. -/
structure Hitch where
  phase : Nat
  unit : Option Nat
  back : Bool
  asked : Bool
  since : Nat
  deriving DecidableEq, Repr

/-- What no register shows of start-up: PWROK, RECOVERY_N as sampled (true: low), hub time at PWROK and at the hub's last reset, the flash, the ranges of slot B written since STAGE_BEGIN (offset, length), the
hitch in progress, whether management firmware runs and has still to write BOOT_OK, whether the hub is coming back from a reset, the command
registers whose accepted command waits to be carried out (for a mailbox command, whether its frame will arrive), the scope of the debug certificate in force, the last recovery frame answered (sequence, STATUS, REASON),
the answers sent on the UART, and the answers to configuration requests (none: Request Retry Status). -/
structure BootX where
  pwrok : Bool
  recoveryN : Bool
  since : Nat
  resetAt : Nat
  flash : FlashX
  written : List (Nat × Nat)
  hitch : Option Hitch
  fwUp : Bool
  awaitOk : Bool
  resetting : Bool
  held : List (Nat × Bool)
  debug : Nat
  uart : Option (Nat × Nat × Nat)
  uartOut : List (Nat × Nat × Nat)
  cfgOut : List (Option Nat)
  deriving DecidableEq, Repr

def BootX.reset : BootX where
  pwrok := false
  recoveryN := false
  since := 0
  resetAt := 0
  flash := ⟨none, none, [], [], []⟩
  written := []
  hitch := none
  fwUp := false
  awaitOk := false
  resetting := false
  held := []
  debug := 0
  uart := none
  uartOut := []
  cfgOut := []

/-! ## Sensors, sideband (14), snapshots and trace (10) -/

/-- R413: what drives the pins of the boundary-scan register. -/
inductive PinDrive where
  | normal | extest | clamp | highz
  deriving DecidableEq, Repr

/-- What no register shows of the sensors and the sideband. Last reading of each sensor of Table 14-5 and its consecutive readings at or above
its trip; readings at the AVSBus. The I3C target: data and status to be returned. The TAP: instruction, data register as last captured,
boundary-scan register, what drives the pins, the die selected by DIE_SEL. -/
structure SideX where
  temps : Tab (Option Int)
  trips : Tab Nat
  i3c : Option (Nat × Nat)
  i3cOut : List (Nat × Nat)
  ir : Nat
  dr : Nat
  bsr : Nat
  drive : PinDrive
  dieSel : Option Nat
  deriving DecidableEq, Repr

/-- R413: after a TAP reset IDCODE is selected. -/
def SideX.reset : SideX := ⟨[], [], none, [], 0x02, 0, 0, .normal, none⟩

/-- R330-R335: a snapshot in progress: its ID, the dies in scope, the units that have taken their cut, whether release has been sent. -/
structure SnapX where
  id : Nat
  dies : List Nat
  cut : List Nat
  sent : Bool
  deriving DecidableEq, Repr

/-- The snapshot in progress, if any; the gateways that hold, with the hub time since when (4 the hub); the dies to which release is on its way.
The trace unit: its input queue (records as 32-byte numbers), the next SEQ, the records in the ring since it was set up (R336). -/
structure ReadX where
  snap : Option SnapX
  hold : List (Nat × Nat)
  rel : List Nat
  queue : List Nat
  seq : Nat
  count : Nat
  deriving DecidableEq, Repr

def ReadX.reset : ReadX := ⟨none, [], [], [], 0, 0⟩

/-- The state of the block. -/
structure State where
  regs : Tab Word
  mem : List Host.Cell
  poisoned : List Nat
  hubTime : Nat
  draws : Nat
  plies : Tab PlyX
  bricks : Tab BrickX
  dies : Tab DieX
  flights : List Flight
  knotOps : List KnotOp
  notices : List Notice
  reports : List Report
  opt : OptX
  ropes : Tab RopeX
  net : NetX
  hub : HubX
  ks : KsX
  boot : BootX
  side : SideX
  read : ReadX
  pending : List Instr
  deriving DecidableEq, Repr

/-- The state before the board supplies are reported good (R380): every register at the reset value of its card, memory with
nothing listed, every queue empty. -/
def State.reset : State where
  regs := []
  mem := []
  poisoned := []
  hubTime := 0
  draws := 0
  plies := []
  bricks := []
  dies := []
  flights := []
  knotOps := []
  notices := []
  reports := []
  opt := OptX.reset
  ropes := []
  net := NetX.reset
  hub := HubX.reset
  ks := KsX.reset
  boot := BootX.reset
  side := SideX.reset
  read := ReadX.reset
  pending := []

end Sys2Proof.Machine
end

