-- ==== Sys2Proof/Machine/Flags.lean ====
section
/-! DEFINITION. Registers and their fields, and the flags with their occurrence counts (R325, R326). The block has no flags of an arithmetic kind:
a predicate register holds the outcome of a compare. -/
namespace Sys2Proof.Machine

/-! ## Registers -/

/-- The register at a management-space address, as its unit holds it. -/
def rd (s : State) (a : Nat) : Word := tabGet resetWord s.regs a

/-- Replace the register at an address. -/
def wr (s : State) (a : Nat) (v : Word) : State := { s with regs := tabSet resetWord s.regs a v }

/-- A field of a register, as a number. -/
def getF (s : State) (f : Fld) : Nat := bitsOf (rd s f.addr) f.hi f.lo

/-- Replace a field of a register; the register's other bits stay. -/
def setF (s : State) (f : Fld) (v : Nat) : State := wr s f.addr (putBits (rd s f.addr) f.hi f.lo v)

/-- Add to a field that wraps at its width. -/
def addF (s : State) (f : Fld) (k : Nat) : State := setF s f (getF s f + k)

/-- Add to a field that saturates at its width. -/
def satF (s : State) (f : Fld) (k : Nat) : State := setF s f (satAdd (f.hi + 1 - f.lo) (getF s f) k)

/-- Replace several fields, in order. -/
def setFs (s : State) : List (Fld × Nat) → State
  | [] => s
  | (f, v) :: t => setFs (setF s f v) t

/-- R326: where the occurrence count of flag bit `i` of field `f` is kept: the register's occurrence alias, except for
HP_CLK_LOSS and HP_THERM. -/
def occFld (f : Fld) (i : Nat) : Fld :=
  let k := f.k + i
  let lo := 16 * (k % 4)
  if f.addr = HP_CLK_LOSS then ⟨HP_CLK_OCC (k / 4), lo + 15, lo, 0⟩
  else if f.addr = HP_THERM then ⟨HP_THERM_OCC (k / 4), lo + 15, lo, 0⟩
  else ⟨f.addr - adrOff f.addr + 0x80000 + 4 * adrOff f.addr + 8 * (k / 4), lo + 15, lo, 0⟩

/-- R325: one occurrence of flag bit `i` of field `f`: the flag is set and its count advances modulo 65,536. -/
def flagAt (s : State) (f : Fld) (i : Nat) : State :=
  let s := setF s ⟨f.addr, f.lo + i, f.lo + i, 0⟩ 1
  addF s (occFld f i) 1

/-- R325: one occurrence of a one-bit flag. -/
def flag (s : State) (f : Fld) : State := flagAt s f 0

end Sys2Proof.Machine
end

