-- ==== Sys2Proof/Machine/Ops.lean ====
section
/-! DEFINITION. The named operations every meaning is written over: memory, fault reports, free values, and the registers of a ply. -/
namespace Sys2Proof.Machine

/-- The outcome of a command of this block. -/
abbrev Out := Host.Outcome State Fault Refusal

/-! ## Free values -/

/-- Draw a free value (assumption 4). -/
def draw (s : State) : Word × State := (Config.freeValue s.draws, { s with draws := s.draws + 1 })

/-! ## Memory (R184) -/

/-- What a byte of memory that nothing has written reads as (assumption 3). -/
def memDefault (_ : Nat) : Byte := 0

/-- The canonical form of memory: addresses strictly rising, no entry equal to what an unlisted address reads as. -/
def Memory.wf (m : List Host.Cell) : Bool := tabWf memDefault m

/-- One byte of memory at a package physical address. -/
def memGet (s : State) (pa : Nat) : Byte := tabGet memDefault s.mem pa

/-- Write one byte of memory. -/
def memPut (s : State) (pa : Nat) (v : Byte) : State := { s with mem := tabSet memDefault s.mem pa v }

/-- `n` bytes of memory from `pa`. -/
def readBytes (s : State) (pa : Nat) : Nat → List Byte
  | 0 => []
  | n + 1 => memGet s pa :: readBytes s (pa + 1) n

/-- Write bytes of memory from `pa`. -/
def writeBytes (s : State) (pa : Nat) : List Byte → State
  | [] => s
  | b :: t => writeBytes (memPut s pa b) (pa + 1) t

/-- R16: a little-endian number of `n` bytes at `pa`. -/
def readLE (s : State) (pa n : Nat) : Nat := leVal (readBytes s pa n)

/-- R16: write the low `n` bytes of a number at `pa`. -/
def writeLE (s : State) (pa n v : Nat) : State := writeBytes s pa (leBytes n v)

/-- R184: physical address of byte `off` of the store of brick `b` of die `n`. -/
def storePa (n b off : Nat) : Nat := 0x20000000000 + n * 0x20000000 + b * 0x100000 + off
/-- R184: physical address of byte `off` of the bed of die `n`. -/
def bedPa (n off : Nat) : Nat := 0x10000000000 + n * 0x10000000 + off
/-- R184: the first address of host memory. -/
def hostBase : Nat := 0x8000000000000

/-- R188: whether the 64-byte line of an address is poisoned. -/
def linePoisoned (s : State) (pa : Nat) : Bool := s.poisoned.contains (pa / 64)

/-- Insert into a rising list without repeats. -/
def insertAsc (x : Nat) : List Nat → List Nat
  | [] => [x]
  | y :: t => if x < y then x :: y :: t else if x = y then y :: t else y :: insertAsc x t

/-- R188: mark the line of an address poisoned. -/
def poisonLine (s : State) (pa : Nat) : State := { s with poisoned := insertAsc (pa / 64) s.poisoned }

/-- R188: a full write of a line clears its poison. -/
def cleanLine (s : State) (pa : Nat) : State := { s with poisoned := s.poisoned.filter (· ≠ pa / 64) }

/-! ## Fault reports (R343) -/

/-- A report joins those on their way to the collector. -/
def report (s : State) (r : Report) : State := { s with reports := s.reports ++ [r] }

/-- A report of a cause whose scope is one channel, from a unit of that channel's die. -/
def reportCh (s : State) (cause n block inst detail : Nat) : State :=
  report s ⟨cause, 2 ^ n, n + 1, block, inst, detail, 0⟩

/-- A report of a cause whose scope is the package. -/
def reportPkg (s : State) (cause unit block inst detail : Nat) : State :=
  report s ⟨cause, 0, unit, block, inst, detail, 0⟩

/-- R352: whether the package is in its safe state. -/
def pkgSafe (s : State) : Bool := getF s FC_PKG_SAFE == 1

/-- R356: the armed injection of a checker, if any: its slot. -/
def injSlot (s : State) (kind inst : Nat) : Option Nat :=
  (List.range 8).find? (fun j => getF s (FC_INJ_SLOT_ARMED j) == 1 && getF s (FC_INJ_SLOT_KIND j) == kind && getF s (FC_INJ_SLOT_INSTANCE j) == inst)

/-- R356: a checker performs one check: whether it is injected to fail; the count runs down. -/
def injTake (s : State) (kind inst : Nat) : Bool × State :=
  match injSlot s kind inst with
  | some j =>
    let k := getF s (FC_INJ_SLOT_REMAINING j)
    (true, if k ≤ 1 then wr s (FC_INJ_SLOT j) 0 else setF s (FC_INJ_SLOT_REMAINING j) (k - 1))
  | none => (false, s)

/-- R347: the reports that an injected failure causes carry INJ: those after the first `k`. -/
def markInj (k : Nat) (s : State) : State :=
  { s with reports := s.reports.take k ++ (s.reports.drop k).map (fun r => { r with flags := if r.flags % 2 = 1 then r.flags else r.flags + 1 }) }

/-- R356: run a step over a check whose own result is `ok`; an injected check fails, and what it reports carries INJ. -/
def withCheck (s : State) (kind inst : Nat) (ok : Bool) (f : Bool → State → State) : State :=
  let k := s.reports.length
  let (inj, s) := injTake s kind inst
  if inj then markInj k (f false s) else f ok s

/-! ## Plies and bricks -/

/-- The key of a brick among the 1,536. -/
def brickKey (n b : Nat) : Nat := n * 384 + b

def brickGet (s : State) (n b : Nat) : BrickX := tabGet (fun _ => BrickX.reset) s.bricks (brickKey n b)
def brickMod (s : State) (n b : Nat) (f : BrickX → BrickX) : State :=
  { s with bricks := tabMod (fun _ => BrickX.reset) s.bricks (brickKey n b) f }

/-- The key of a ply among the 6,144. -/
def plyKey (n b q : Nat) : Nat := brickKey n b * 4 + q

def plyGet (s : State) (n b q : Nat) : PlyX := tabGet (fun _ => PlyX.reset) s.plies (plyKey n b q)
def plyMod (s : State) (n b q : Nat) (f : PlyX → PlyX) : State :=
  { s with plies := tabMod (fun _ => PlyX.reset) s.plies (plyKey n b q) f }

def dieGet (s : State) (n : Nat) : DieX := tabGet (fun _ => DieX.reset) s.dies n
def dieMod (s : State) (n : Nat) (f : DieX → DieX) : State :=
  { s with dies := tabMod (fun _ => DieX.reset) s.dies n f }

/-- Table 3-1: scalar register i; s0 reads 0. -/
def getS (s : State) (p : PlyId) (i : Nat) : Word := if i = 0 then 0 else rd s (CD_PLY_S p.n p.b p.q i)
/-- Table 3-1: a write to scalar register i; one to s0 is discarded. -/
def setS (s : State) (p : PlyId) (i : Nat) (v : Word) : State :=
  if i = 0 then s else wr s (CD_PLY_S p.n p.b p.q i) v
/-- Table 3-1: address register i. -/
def getA (s : State) (p : PlyId) (i : Nat) : Word := rd s (CD_PLY_A p.n p.b p.q i)
def setA (s : State) (p : PlyId) (i : Nat) (v : Word) : State := wr s (CD_PLY_A p.n p.b p.q i) v
/-- Table 3-1: predicate i; p0 reads 1. -/
def getP (s : State) (p : PlyId) (i : Nat) : Bool := i == 0 || (rd s (CD_PLY_PRED p.n p.b p.q)).getLsbD i
/-- Table 3-1: a write to predicate i; one to p0 is discarded. -/
def setP (s : State) (p : PlyId) (i : Nat) (v : Bool) : State :=
  if i = 0 then s else setF s ⟨CD_PLY_PRED p.n p.b p.q, i, i, 0⟩ (b2n v)

/-- The byte offset of the ply's next instruction. -/
def getPc (s : State) (p : PlyId) : Nat := 8 * getF s (CD_PLY_PC_PC p.n p.b p.q)
def setPc (s : State) (p : PlyId) (pc : Nat) : State := setF s (CD_PLY_PC_PC p.n p.b p.q) (pc / 8)

/-- The state of a ply: 0 IDLE, 1 RUNNING, 2 WAITING, 3 TRAPPED, 4 SAVED. -/
def plyState (s : State) (n b q : Nat) : Nat := getF s (CD_PLY_STS_STATE n b q)

/-- R111: set the ISSUED count; its low 32 bits show in CD_PLY_STS. -/
def setIssued (s : State) (n b q v : Nat) : State :=
  setF (plyMod s n b q (fun x => { x with issued := v })) (CD_PLY_STS_ISSUED n b q) v

/-- The channel's epoch counter (R154). -/
def epochOf (s : State) (n : Nat) : Nat := getF s (CD_EPOCH_EPOCH n)

/-- R146: whether epoch `t` is reached at epoch `e`. -/
def epochReached (e t : Nat) : Bool := decide ((e + 2 ^ 48 - t % 2 ^ 48) % 2 ^ 48 < 2 ^ 47)

/-! ## Spans (R3) -/

/-- The formed or degraded span a channel belongs to: 0 none, 1 channels 0 and 1, 2 channels 2 and 3, 3 all four. -/
def spanOf (s : State) (n : Nat) : Nat :=
  if getF s HP_SPAN_STS_S0123 ≠ 0 then 3
  else if n < 2 ∧ getF s HP_SPAN_STS_S01 ≠ 0 then 1
  else if 2 ≤ n ∧ getF s HP_SPAN_STS_S23 ≠ 0 then 2
  else 0

/-- R160: whether a channel is lost or fenced inside a formed span. -/
def spanLost (s : State) (n : Nat) : Bool := bitN (getF s HP_SPAN_STS_LOST) n == 1

/-- Whether two dies are one die or members of one span; a lost or fenced member is outside it (R160). -/
def sameSpan (s : State) (n d : Nat) : Bool :=
  n == d || (spanOf s n != 0 && spanOf s n == spanOf s d && !spanLost s n && !spanLost s d)

/-- The channels of a span code. -/
def spanMembers : Nat → List Nat
  | 1 => [0, 1]
  | 2 => [2, 3]
  | 3 => [0, 1, 2, 3]
  | _ => []

/-- R42, R323: whether a compute die is ACTIVE or REJOINED. -/
def dieUp (s : State) (n : Nat) : Bool := getF s (CH_DIE_STS_STATE n) == 3 || getF s (CH_DIE_STS_STATE n) == 5

/-- A knot operation joins those on their way. -/
def pushKnot (s : State) (k : KnotOp) : State := { s with knotOps := s.knotOps ++ [k] }

/-- An engine's arrival at a knot (R133, R129, R205). -/
def arriveFrom (s : State) (n handle : Nat) : State := pushKnot s ⟨.engine n, handle, .arrive, false, false, 0, 0⟩

/-! ## Host memory and interrupts (R185, R311) -/

/-- Whether this package is the bridge of its group: its role is PRIMARY or RELINQUISHING. -/
def isBridge (s : State) : Bool := getF s HP_ROLE_STATE == 2 || getF s HP_ROLE_STATE == 6

def hubMod (s : State) (f : HubX → HubX) : State := { s with hub := f s.hub }

def portMod (s : State) (f : PortX → PortX) : State := hubMod s (fun h => { h with port := f h.port })

/-- Table 11-2, R336: hub time: ns since the hub's last reset. -/
def hubClock (s : State) : Nat := s.hubTime - s.boot.resetAt

def readMod (s : State) (f : ReadX → ReadX) : State := { s with read := f s.read }

/-- R332: whether the interposer gateway of a die (4 the hub) holds new package segments. -/
def gatewayHeld (s : State) (a : Nat) : Bool := s.read.hold.any (fun x => x.1 == a)

/-- R389: whether component `i` of Table 13-3 is restarting in a hitch. -/
def restarting (s : State) (i : Nat) : Bool :=
  match s.boot.hitch with
  | some h => h.unit == some i
  | none => false

def bootMod (s : State) (f : BootX → BootX) : State := { s with boot := f s.boot }

/-- R14, R389: an accepted command waits to be carried out; its STATUS stays in progress. -/
def holdCmd (s : State) (a : Nat) (ok : Bool) : State := bootMod s (fun b => { b with held := b.held ++ [(a, ok)] })

/-- R308: the command record of channel `n` for queue `q`. -/
def cmdRec (s : State) (n q : Nat) : CmdRec := tabGet (fun _ => CmdRec.reset) s.hub.port.cmds (32 * n + q)

/-- R307, R308: the response of a command that channel `n` has executed enters the channel's history and returns to the bridge. -/
def pushResponse (s : State) (n rank q csn result : Nat) : State :=
  let s := hubMod s (fun h => { h with responses := h.responses ++ [⟨rank, q, csn, result⟩] })
  portMod s (fun p => { p with
    cmds := tabMod (fun _ => CmdRec.reset) p.cmds (32 * n + q) (fun r => { r with last := ((csn, result) :: r.last).take 64 }) })

/-- R18: whether a clocked domain is without its clock. -/
def clkLost (s : State) (d : Nat) : Bool := s.hub.noClk.any (fun x => x.1 == d)

/-- Raise an interrupt vector on the host port. -/
def raiseIrq (s : State) (v : Nat) : State := hubMod s (fun h => { h with irqs := h.irqs ++ [v] })

/-- R212, R342: an interrupt request for vector 32 + the package's own rank: raised by the bridge, host traffic elsewhere. -/
def irqSelf (s : State) (who : Nat) : State :=
  if isBridge s then raiseIrq s (32 + getF s HP_GRP_STS_RANK) else hubMod s (fun h => { h with hostOut := h.hostOut ++ [(who, .irq)] })

/-- What a read on behalf of a channel or of the hub answers: the bytes and whether a line of them is poisoned, or that it waits
(for HBM, or for the bridge). -/
inductive RdRes where
  | ok (data : List Byte) (bad : Bool) (s : State)
  | wait (s : State)

/-- The stack, if any, that holds a physical address: die and stack of the die. -/
def hbmOf (pa : Nat) : Option (Nat × Nat) := if pa < 0x8000000000 then some (pa / 0x2000000000, pa / 0x1000000000 % 2) else none

/-- R187: whether the memory behind an address accepts accesses now. -/
def memReady (s : State) (pa : Nat) : Bool :=
  match hbmOf pa with
  | some (n, k) => getF s (CD_HBM_STS_STATE n k) == 3
  | none => true

/-- Whether a line of `[pa, pa + len)` is poisoned. -/
def anyPoison (s : State) (pa len : Nat) : Bool :=
  (List.range ((pa + len + 63) / 64 - pa / 64)).any (fun i => linePoisoned s (pa + 64 * i))

/-- The compute die whose memory holds an address. -/
def paOwner (pa : Nat) : Option Nat :=
  if pa < 0x8000000000 then some (pa / 0x2000000000)
  else if 0x10000000000 ≤ pa ∧ pa < 0x10040000000 then some ((pa - 0x10000000000) / 0x10000000)
  else if 0x20000000000 ≤ pa ∧ pa < 0x20080000000 then some ((pa - 0x20000000000) / 0x20000000)
  else none

/-- R42: whether an address lies in the memory of a compute die that is lost; reads of it return poisoned data. -/
def paLost (s : State) (pa : Nat) : Bool :=
  match paOwner pa with
  | some n => !dieUp s n
  | none => false

/-- Read memory for `who` (a channel, or 4 for the hub). A package that is not the bridge reads host memory through the bridge. -/
def devRead (s : State) (who pa len : Nat) : RdRes :=
  if paLost s pa then .ok (List.replicate len 0) true s
  else if !memReady s pa then .wait s
  else if hostBase ≤ pa ∧ !isBridge s then
    match s.hub.hostReads.find? (fun r => r.who == who && r.pa == pa && r.len == len) with
    | some ⟨_, _, _, _, some (d, bad)⟩ =>
      .ok d bad (hubMod s (fun h => { h with hostReads := h.hostReads.filter (fun r => !(r.who == who && r.pa == pa && r.len == len)) }))
    | some _ => .wait s
    | none => .wait (hubMod s (fun h => let t := h.port.hostTag
      { h with
        port := { h.port with hostTag := (t + 1) % 65536 }
        hostReads := h.hostReads ++ [⟨who, pa, len, t, none⟩]
        hostOut := h.hostOut ++ [(who, .read pa len t)] }))
  else .ok (readBytes s pa len) (anyPoison s pa len) s

/-- R184: whether an address is populated. -/
def populated (pa : Nat) : Bool :=
  if pa < 0x8000000000 then decide (pa % 0x1000000000 < 0x900000000)
  else if 0x10000000000 ≤ pa ∧ pa < 0x10040000000 then decide (pa % 0x10000000 < 0x8000000)
  else if 0x20000000000 ≤ pa ∧ pa < 0x20080000000 then decide (pa % 0x20000000 < 384 * 0x100000)
  else decide (hostBase ≤ pa ∧ pa < 2 ^ 52)

/-- The lines of `[pa, pa + len)` that are written in full. -/
def fullLines (pa len : Nat) : List Nat :=
  ((List.range ((pa + len) / 64 + 1 - (pa + 63) / 64)).map (· + (pa + 63) / 64)).filter (fun l => decide (64 * l + 64 ≤ pa + len))

/-- R188, R204: write memory for the device. A full line written without poison is clean again; poisoned data marks its lines in
HBM, a bed or host memory, and is written as zero in a brick store. A write to an unpopulated address, or to the memory of a lost die,
changes nothing. -/
def memWrite (s : State) (pa : Nat) (data : List Byte) (bad : Bool) : State :=
  if !populated pa ∨ paLost s pa ∨ data = [] then s
  else
    let store := decide (0x20000000000 ≤ pa ∧ pa < hostBase)
    let s := writeBytes s pa (if bad ∧ store then data.map (fun _ => 0) else data)
    if bad ∧ !store then
      { s with poisoned := (List.range ((pa + data.length + 63) / 64 - pa / 64)).foldl (fun l i => insertAsc (pa / 64 + i) l) s.poisoned }
    else { s with poisoned := s.poisoned.filter (fun l => !(fullLines pa data.length).contains l) }

/-- Copy a range of memory: the bytes of the destination are those of the source. -/
def copyRange (s : State) (src dst len : Nat) : State :=
  let l := (s.mem.filter (fun e => decide (src ≤ e.1 ∧ e.1 < src + len))).map (fun e => (e.1 - src + dst, e.2))
  { s with mem := l.foldl (fun m e => tabSet memDefault m e.1 e.2) (tabDrop (fun a => decide (dst ≤ a ∧ a < dst + len)) s.mem) }

/-- A device write on behalf of a channel, or of the hub (4): to host memory it goes out as host traffic on a package that is not
the bridge. -/
def devWrite (s : State) (who pa : Nat) (data : List Byte) (bad : Bool) : State :=
  if hostBase ≤ pa ∧ !isBridge s then hubMod s (fun h => { h with hostOut := h.hostOut ++ [(who, .write pa data bad)] })
  else memWrite s pa data bad

end Sys2Proof.Machine
end

