-- ==== Sys2Proof/Machine/Operands.lean ====
section
/-! DEFINITION. The operand forms of the Brick Instruction Set: the table of its instructions (Tables 3-5 to 3-19, 4-6, 4-9,
4-12), the instruction word (Table 3-2), the fields of each format (Tables 3-4 and 4-5), legality (R116), the guard (R85), the
scoreboard (R148) and the issue of one instruction. -/
namespace Sys2Proof.Machine

/-- R86: the register files a register field can name. -/
inductive Kind where
  | none | s | a | p | v | k | w
  deriving DecidableEq, Repr

/-- Whether the destination register is read, written, or both. -/
inductive Use where
  | r | w | x
  deriving DecidableEq, Repr

structure DKind where
  kind : Kind
  use : Use
  deriving DecidableEq, Repr

/-- Tables 3-4 and 4-5: the instruction formats. -/
inductive Form where
  | R | I | B | T | X | V | C | M
  deriving DecidableEq, Repr

/-- Tables 3-6 and 4-7: the timing classes; `CK` is ckpt, the one instruction of class Y that holds a scoreboard entry. -/
inductive Cls where
  | S | M | J | L | T | AT | X | WL | Q | V | P | Y | CK | N | K | W
  deriving DecidableEq, Repr

/-- One row of the instruction tables. -/
structure OpInfo where
  maj : Nat
  mi : Nat
  d : DKind
  a : Kind
  b : Kind
  form : Form
  cls : Cls
  deriving DecidableEq, Repr

/-- Rows of Tables 3-7 to 3-19, 4-6, 4-9 and 4-12, part 0. -/
def opRows0 : List OpInfo := [
  ⟨0, 0, ⟨.s, .w⟩, .s, .s, .R, .S⟩,
  ⟨0, 1, ⟨.s, .w⟩, .s, .s, .R, .S⟩,
  ⟨0, 2, ⟨.s, .w⟩, .s, .s, .R, .S⟩,
  ⟨0, 3, ⟨.s, .w⟩, .s, .s, .R, .S⟩,
  ⟨0, 4, ⟨.s, .w⟩, .s, .s, .R, .S⟩,
  ⟨0, 5, ⟨.s, .w⟩, .s, .s, .R, .S⟩,
  ⟨0, 6, ⟨.s, .w⟩, .s, .s, .R, .S⟩,
  ⟨0, 7, ⟨.s, .w⟩, .s, .s, .R, .S⟩,
  ⟨0, 8, ⟨.s, .w⟩, .s, .s, .R, .M⟩,
  ⟨0, 9, ⟨.s, .w⟩, .s, .s, .R, .M⟩,
  ⟨0, 10, ⟨.s, .w⟩, .s, .s, .R, .M⟩,
  ⟨0, 11, ⟨.s, .w⟩, .s, .s, .R, .S⟩,
  ⟨0, 12, ⟨.s, .w⟩, .s, .s, .R, .S⟩,
  ⟨0, 13, ⟨.s, .w⟩, .s, .s, .R, .S⟩,
  ⟨0, 14, ⟨.s, .w⟩, .s, .s, .R, .S⟩,
  ⟨0, 15, ⟨.s, .w⟩, .s, .none, .R, .S⟩,
  ⟨0, 16, ⟨.s, .w⟩, .s, .none, .R, .S⟩,
  ⟨1, 0, ⟨.s, .w⟩, .s, .none, .I, .S⟩,
  ⟨1, 1, ⟨.s, .w⟩, .s, .none, .I, .S⟩,
  ⟨1, 2, ⟨.s, .w⟩, .s, .none, .I, .S⟩,
  ⟨1, 3, ⟨.s, .w⟩, .s, .none, .I, .S⟩,
  ⟨1, 4, ⟨.s, .w⟩, .s, .none, .I, .S⟩,
  ⟨1, 5, ⟨.s, .w⟩, .s, .none, .I, .S⟩,
  ⟨1, 6, ⟨.s, .w⟩, .s, .none, .I, .S⟩,
  ⟨1, 7, ⟨.s, .w⟩, .s, .none, .I, .M⟩,
  ⟨1, 8, ⟨.s, .w⟩, .none, .none, .I, .S⟩,
  ⟨1, 9, ⟨.s, .x⟩, .none, .none, .I, .S⟩,
  ⟨2, 0, ⟨.p, .w⟩, .s, .s, .R, .S⟩,
  ⟨2, 1, ⟨.p, .w⟩, .s, .s, .R, .S⟩,
  ⟨2, 2, ⟨.p, .w⟩, .s, .s, .R, .S⟩,
  ⟨2, 3, ⟨.p, .w⟩, .s, .s, .R, .S⟩,
  ⟨2, 4, ⟨.p, .w⟩, .s, .s, .R, .S⟩,
  ⟨2, 5, ⟨.p, .w⟩, .s, .s, .R, .S⟩,
  ⟨2, 8, ⟨.p, .w⟩, .s, .none, .I, .S⟩,
  ⟨2, 9, ⟨.p, .w⟩, .s, .none, .I, .S⟩,
  ⟨2, 10, ⟨.p, .w⟩, .s, .none, .I, .S⟩,
  ⟨2, 11, ⟨.p, .w⟩, .s, .none, .I, .S⟩,
  ⟨2, 12, ⟨.p, .w⟩, .s, .none, .I, .S⟩,
  ⟨2, 13, ⟨.p, .w⟩, .s, .none, .I, .S⟩,
  ⟨3, 0, ⟨.p, .w⟩, .p, .p, .R, .S⟩]

/-- Rows of Tables 3-7 to 3-19, 4-6, 4-9 and 4-12, part 1. -/
def opRows1 : List OpInfo := [
  ⟨3, 1, ⟨.p, .w⟩, .p, .p, .R, .S⟩,
  ⟨3, 2, ⟨.p, .w⟩, .p, .p, .R, .S⟩,
  ⟨3, 3, ⟨.p, .w⟩, .p, .p, .R, .S⟩,
  ⟨3, 4, ⟨.p, .w⟩, .none, .none, .I, .S⟩,
  ⟨3, 5, ⟨.s, .w⟩, .none, .none, .R, .S⟩,
  ⟨3, 6, ⟨.none, .r⟩, .s, .none, .R, .S⟩,
  ⟨4, 0, ⟨.a, .w⟩, .s, .none, .R, .S⟩,
  ⟨4, 1, ⟨.s, .w⟩, .a, .none, .R, .S⟩,
  ⟨4, 2, ⟨.a, .w⟩, .a, .s, .R, .S⟩,
  ⟨4, 3, ⟨.a, .w⟩, .a, .none, .I, .S⟩,
  ⟨8, 0, ⟨.none, .r⟩, .none, .none, .B, .J⟩,
  ⟨8, 1, ⟨.s, .w⟩, .none, .none, .B, .J⟩,
  ⟨9, 0, ⟨.none, .r⟩, .s, .none, .R, .J⟩,
  ⟨9, 1, ⟨.s, .w⟩, .s, .none, .R, .J⟩,
  ⟨10, 0, ⟨.s, .x⟩, .none, .none, .B, .J⟩,
  ⟨10, 1, ⟨.none, .r⟩, .s, .none, .B, .J⟩,
  ⟨10, 2, ⟨.none, .r⟩, .s, .none, .B, .J⟩,
  ⟨11, 0, ⟨.none, .r⟩, .none, .none, .R, .S⟩,
  ⟨12, 0, ⟨.s, .w⟩, .a, .none, .I, .L⟩,
  ⟨12, 1, ⟨.s, .w⟩, .a, .none, .I, .L⟩,
  ⟨12, 2, ⟨.s, .w⟩, .a, .none, .I, .L⟩,
  ⟨12, 3, ⟨.s, .w⟩, .a, .none, .I, .L⟩,
  ⟨12, 4, ⟨.s, .w⟩, .a, .none, .I, .L⟩,
  ⟨12, 5, ⟨.s, .w⟩, .a, .none, .I, .L⟩,
  ⟨12, 6, ⟨.s, .w⟩, .a, .none, .I, .L⟩,
  ⟨12, 7, ⟨.a, .w⟩, .a, .none, .I, .L⟩,
  ⟨13, 0, ⟨.none, .r⟩, .a, .s, .I, .L⟩,
  ⟨13, 1, ⟨.none, .r⟩, .a, .s, .I, .L⟩,
  ⟨13, 2, ⟨.none, .r⟩, .a, .s, .I, .L⟩,
  ⟨13, 3, ⟨.none, .r⟩, .a, .s, .I, .L⟩,
  ⟨13, 4, ⟨.none, .r⟩, .a, .a, .I, .L⟩,
  ⟨15, 0, ⟨.s, .w⟩, .a, .s, .I, .AT⟩,
  ⟨15, 1, ⟨.s, .w⟩, .a, .s, .I, .AT⟩,
  ⟨15, 2, ⟨.s, .x⟩, .a, .s, .I, .AT⟩,
  ⟨14, 0, ⟨.v, .x⟩, .a, .none, .T, .T⟩,
  ⟨14, 1, ⟨.none, .r⟩, .a, .v, .T, .T⟩,
  ⟨14, 2, ⟨.v, .x⟩, .a, .none, .T, .T⟩,
  ⟨14, 3, ⟨.none, .r⟩, .a, .v, .T, .T⟩,
  ⟨16, 0, ⟨.w, .w⟩, .a, .none, .X, .WL⟩,
  ⟨16, 1, ⟨.w, .r⟩, .none, .none, .R, .S⟩]

/-- Rows of Tables 3-7 to 3-19, 4-6, 4-9 and 4-12, part 2. -/
def opRows2 : List OpInfo := [
  ⟨17, 0, ⟨.k, .x⟩, .v, .a, .X, .X⟩,
  ⟨18, 0, ⟨.k, .w⟩, .none, .none, .X, .Q⟩,
  ⟨18, 1, ⟨.v, .x⟩, .k, .none, .X, .Q⟩,
  ⟨18, 2, ⟨.k, .x⟩, .v, .none, .X, .Q⟩,
  ⟨24, 0, ⟨.v, .w⟩, .v, .v, .V, .V⟩,
  ⟨24, 1, ⟨.v, .w⟩, .v, .v, .V, .V⟩,
  ⟨24, 2, ⟨.v, .w⟩, .v, .v, .V, .V⟩,
  ⟨24, 3, ⟨.v, .w⟩, .v, .v, .V, .V⟩,
  ⟨24, 4, ⟨.v, .w⟩, .v, .v, .V, .V⟩,
  ⟨25, 0, ⟨.v, .x⟩, .v, .v, .V, .V⟩,
  ⟨26, 0, ⟨.v, .w⟩, .v, .none, .V, .V⟩,
  ⟨26, 1, ⟨.v, .w⟩, .v, .none, .V, .V⟩,
  ⟨26, 2, ⟨.v, .w⟩, .v, .none, .V, .V⟩,
  ⟨26, 8, ⟨.v, .w⟩, .v, .none, .V, .V⟩,
  ⟨26, 9, ⟨.v, .w⟩, .v, .none, .V, .V⟩,
  ⟨26, 10, ⟨.v, .w⟩, .v, .none, .V, .V⟩,
  ⟨26, 11, ⟨.v, .w⟩, .v, .none, .V, .V⟩,
  ⟨27, 0, ⟨.v, .w⟩, .v, .v, .V, .V⟩,
  ⟨27, 1, ⟨.v, .w⟩, .v, .v, .V, .V⟩,
  ⟨27, 2, ⟨.v, .w⟩, .v, .v, .V, .V⟩,
  ⟨27, 3, ⟨.v, .x⟩, .v, .v, .V, .V⟩,
  ⟨28, 0, ⟨.v, .w⟩, .v, .none, .V, .V⟩,
  ⟨28, 1, ⟨.v, .w⟩, .s, .none, .V, .V⟩,
  ⟨28, 2, ⟨.v, .x⟩, .s, .none, .V, .V⟩,
  ⟨28, 3, ⟨.s, .w⟩, .v, .none, .V, .V⟩,
  ⟨29, 0, ⟨.v, .w⟩, .v, .v, .V, .V⟩,
  ⟨29, 1, ⟨.s, .w⟩, .v, .none, .V, .V⟩,
  ⟨29, 2, ⟨.s, .w⟩, .v, .none, .V, .V⟩,
  ⟨30, 0, ⟨.v, .w⟩, .v, .v, .V, .V⟩,
  ⟨30, 1, ⟨.v, .w⟩, .v, .v, .V, .V⟩,
  ⟨30, 2, ⟨.v, .w⟩, .v, .v, .V, .V⟩,
  ⟨30, 3, ⟨.v, .w⟩, .v, .none, .V, .V⟩,
  ⟨50, 0, ⟨.v, .x⟩, .v, .none, .C, .P⟩,
  ⟨51, 0, ⟨.v, .x⟩, .none, .none, .I, .P⟩,
  ⟨52, 0, ⟨.none, .r⟩, .none, .none, .I, .S⟩,
  ⟨52, 1, ⟨.none, .r⟩, .none, .none, .R, .S⟩,
  ⟨52, 2, ⟨.none, .r⟩, .none, .none, .R, .S⟩,
  ⟨53, 0, ⟨.s, .w⟩, .none, .none, .I, .S⟩,
  ⟨53, 1, ⟨.none, .r⟩, .s, .none, .R, .S⟩,
  ⟨57, 0, ⟨.s, .w⟩, .none, .none, .I, .S⟩]

/-- Rows of Tables 3-7 to 3-19, 4-6, 4-9 and 4-12, part 3. -/
def opRows3 : List OpInfo := [
  ⟨57, 1, ⟨.none, .r⟩, .s, .none, .I, .S⟩,
  ⟨54, 0, ⟨.none, .r⟩, .none, .none, .I, .Y⟩,
  ⟨55, 0, ⟨.none, .r⟩, .none, .none, .R, .Y⟩,
  ⟨55, 1, ⟨.none, .r⟩, .none, .none, .R, .Y⟩,
  ⟨55, 2, ⟨.none, .r⟩, .none, .none, .R, .Y⟩,
  ⟨56, 0, ⟨.none, .r⟩, .none, .none, .I, .Y⟩,
  ⟨56, 1, ⟨.none, .r⟩, .none, .none, .R, .Y⟩,
  ⟨58, 0, ⟨.none, .r⟩, .a, .none, .I, .CK⟩,
  ⟨59, 0, ⟨.none, .r⟩, .none, .none, .R, .Y⟩,
  ⟨32, 0, ⟨.none, .r⟩, .s, .v, .M, .N⟩,
  ⟨32, 1, ⟨.none, .r⟩, .s, .v, .M, .N⟩,
  ⟨33, 0, ⟨.none, .r⟩, .s, .s, .M, .N⟩,
  ⟨33, 1, ⟨.none, .r⟩, .s, .s, .M, .N⟩,
  ⟨34, 0, ⟨.none, .r⟩, .s, .v, .M, .N⟩,
  ⟨34, 1, ⟨.none, .r⟩, .s, .v, .M, .N⟩,
  ⟨35, 0, ⟨.none, .r⟩, .none, .v, .M, .N⟩,
  ⟨36, 0, ⟨.v, .w⟩, .none, .none, .R, .W⟩,
  ⟨36, 1, ⟨.p, .w⟩, .none, .none, .R, .S⟩,
  ⟨36, 2, ⟨.s, .w⟩, .none, .none, .R, .S⟩,
  ⟨37, 0, ⟨.none, .r⟩, .s, .s, .R, .S⟩,
  ⟨37, 1, ⟨.s, .w⟩, .s, .none, .R, .S⟩,
  ⟨38, 0, ⟨.none, .r⟩, .s, .none, .I, .S⟩,
  ⟨38, 1, ⟨.s, .w⟩, .none, .none, .I, .S⟩,
  ⟨40, 0, ⟨.s, .w⟩, .a, .none, .I, .N⟩,
  ⟨41, 0, ⟨.p, .w⟩, .s, .none, .R, .S⟩,
  ⟨44, 0, ⟨.s, .w⟩, .s, .none, .R, .K⟩,
  ⟨44, 1, ⟨.none, .r⟩, .s, .none, .R, .N⟩,
  ⟨45, 0, ⟨.s, .w⟩, .s, .s, .I, .W⟩,
  ⟨45, 1, ⟨.s, .w⟩, .s, .none, .R, .K⟩,
  ⟨46, 0, ⟨.none, .r⟩, .s, .s, .I, .N⟩,
  ⟨46, 1, ⟨.none, .r⟩, .s, .none, .R, .N⟩,
  ⟨47, 0, ⟨.none, .r⟩, .s, .s, .R, .N⟩,
  ⟨48, 0, ⟨.none, .r⟩, .s, .s, .I, .S⟩,
  ⟨48, 1, ⟨.none, .r⟩, .s, .s, .R, .S⟩,
  ⟨48, 2, ⟨.none, .r⟩, .none, .none, .I, .S⟩,
  ⟨49, 0, ⟨.none, .r⟩, .s, .none, .R, .W⟩,
  ⟨49, 1, ⟨.none, .r⟩, .none, .none, .I, .W⟩]

/-- Every instruction of the Brick Instruction Set. -/
def opRows : List OpInfo := opRows0 ++ opRows1 ++ opRows2 ++ opRows3

/-- The row of a major and minor opcode. -/
def findOp (maj mi : Nat) : Option OpInfo := opRows.find? (fun r => r.maj == maj && r.mi == mi)

/-- Table 3-2: the instruction word. -/
def wordOf (maj mi : Nat) (o : IOp) : Word :=
  BitVec.ofNat 64 (maj * 2 ^ 58 + mi * 2 ^ 52 + o.d.val * 2 ^ 47 + o.a.val * 2 ^ 42 + o.b.val * 2 ^ 37
    + b2n o.gn * 2 ^ 36 + o.gp.val * 2 ^ 33 + o.x.toNat)

/-- Table 3-2: the opcodes and fields of an instruction word. -/
def fieldsOf (w : Word) : Nat × Nat × IOp :=
  let x := w.toNat
  (bitsN x 63 58, bitsN x 57 52,
    { d := Fin.ofNat 32 (x / 2 ^ 47), a := Fin.ofNat 32 (x / 2 ^ 42), b := Fin.ofNat 32 (x / 2 ^ 37),
      gn := bitN x 36 == 1, gp := Fin.ofNat 8 (x / 2 ^ 33), x := BitVec.ofNat 33 x })

end Sys2Proof.Machine

/-! ## Format fields (Tables 3-4 and 4-5) -/
namespace Sys2Proof
open Machine

/-- Formats I and B: IMM or OFF, 33-bit two's complement. -/
def IOp.imm (o : IOp) : Int := o.x.toInt
/-- sext(IMM) as a word (R93). -/
def IOp.immW (o : IOp) : Word := o.x.signExtend 64
/-- Bits `hi` to `lo` of the format-specific field. -/
def IOp.bits (o : IOp) (hi lo : Nat) : Nat := bitsN o.x.toNat hi lo

/-- Format T. -/
def IOp.tF (o : IOp) : Bool := o.bits 32 32 == 1
def IOp.tP (o : IOp) : Bool := o.bits 31 31 == 1
def IOp.tNb (o : IOp) : Nat := o.bits 30 27 + 1
def IOp.tFmt (o : IOp) : Option Fmt := fmtOf (o.bits 26 23)
def IOp.tBlk (o : IOp) : Int := sextN (o.bits 20 0) 21
/-- Format X and V share FMT and RND. -/
def IOp.xFmt (o : IOp) : Option Fmt := fmtOf (o.bits 32 29)
def IOp.xRnd (o : IOp) : Nat := o.bits 28 27
def IOp.xPart (o : IOp) : Nat := o.bits 26 25
def IOp.xC (o : IOp) : Bool := o.bits 24 24 == 1
def IOp.xOff (o : IOp) : Nat := o.bits 20 0
def IOp.vIdx (o : IOp) : Nat := o.bits 25 21
/-- Format C. -/
def IOp.cD (o : IOp) : Option Fmt := fmtOf (o.bits 32 29)
def IOp.cS (o : IOp) : Option Fmt := fmtOf (o.bits 28 25)
def IOp.cRnd (o : IOp) : Nat := o.bits 24 23
def IOp.cPart (o : IOp) : Nat := o.bits 22 19
/-- Format M (Table 4-5). -/
def IOp.mH (o : IOp) : Bool := o.bits 28 28 == 1
def IOp.mLen (o : IOp) : Bool := o.bits 27 27 == 1
def IOp.mS (o : IOp) : Bool := o.bits 26 26 == 1
def IOp.mT (o : IOp) : Nat := o.bits 25 24
def IOp.mSess (o : IOp) : Nat := o.bits 23 16

end Sys2Proof

namespace Sys2Proof.Machine

/-! ## Legality (R116) -/

/-- R86: a register number within its file; an unused field is 0. -/
def kindOk : Kind → Nat → Bool
  | .none, v => v == 0
  | .s, _ => true
  | .v, _ => true
  | .a, v => decide (v < 16)
  | .p, v => decide (v < 8)
  | .k, v => decide (v < 4)
  | .w, v => decide (v < 4)

/-- R58: N3 may be named only where it is available. -/
def n3Ok (n3 : Bool) (f : Fmt) : Bool := f != .n3 || n3

/-- The immediates an instruction of format I accepts. -/
def immOk (maj mi : Nat) (o : IOp) : Bool :=
  match maj, mi with
  | 1, 4 | 1, 5 | 1, 6 => o.bits 32 6 == 0
  | 1, 9 => o.bits 32 31 == 0
  | 3, 4 => o.bits 32 1 == 0
  | 51, 0 => (match o.xFmt with | some f => f.narrow | none => false) && o.bits 28 24 == 0
  | 52, 0 => o.bits 32 3 == 0
  | 53, 0 => o.bits 32 3 == 0 && decide (o.bits 2 0 < 6)
  | 54, 0 => o.bits 32 4 == 0
  | 57, 0 => o.bits 32 4 == 0 && decide (o.bits 3 0 < 9)
  | 57, 1 => o.bits 32 4 == 0 && decide (5 ≤ o.bits 3 0) && decide (o.bits 3 0 < 9)
  | 38, 0 | 38, 1 => o.bits 32 2 == 0
  | 45, 0 => o.bits 32 32 == 0
  | 46, 0 => o.bits 32 1 == 0
  | 48, 0 => o.bits 32 2 == 0
  | 48, 2 => o.bits 32 3 == 0
  | 49, 1 => o.bits 32 32 == 0
  | _, _ => true

/-- R97: blocks one vld or vst may move. -/
def tCap (f : Fmt) : Nat := f.blocks

/-- Format T (R97). -/
def formT (n3 : Bool) (mi : Nat) (o : IOp) : Bool :=
  o.bits 22 21 == 0 &&
  match o.tFmt with
  | none => false
  | some f =>
    if mi < 2 then
      n3Ok n3 f &&
      (if f = .raw then o.tNb == 1 && !o.tF else decide (o.a.val ≤ 13) && decide (o.tNb ≤ tCap f))
    else f == .raw && o.tNb == 1 && !o.tF && !o.tP

/-- Format X (R99, R103, R104, R105, R106). -/
def formX (n3 : Bool) (maj mi : Nat) (o : IOp) : Bool :=
  o.bits 23 21 == 0 && o.xRnd != 3 &&
  match o.xFmt with
  | none => false
  | some f =>
    match maj, mi with
    | 16, 0 => (f == .n4 || f == .i4 || f == .t2 || (f == .n3 && n3) || f == .n8 || f == .f16)
        && o.xRnd == 0 && o.xPart == 0 && (!o.xC || f == .t2)
    | 17, 0 => (f == .n4 || f == .i4 || f == .t2 || ((f == .n8 || f == .f16) && o.b.val == 0 && o.xOff == 0)) && !o.xC
    | 18, 0 => o.bits 32 29 == 0 && o.xRnd == 0 && o.xPart == 0 && !o.xC && o.bits 20 9 == 0
        && (o.bits 8 8 == 0 || o.bits 7 0 == 0)
    | 18, 1 => o.xOff == 0 && n3Ok n3 f &&
        (match f with
         | .n4 | .i4 | .n3 | .f16 => decide (o.xPart < 2)
         | .n8 => o.xPart == 0
         | .t2 | .f32 | .i32 => true
         | .raw => false)
    | 18, 2 => o.xOff == 0 && !o.xC &&
        (match f with
         | .f16 => decide (o.xPart < 2)
         | .f32 | .i32 => true
         | _ => false)
    | _, _ => false

/-- Format V (R107). -/
def formV (maj mi : Nat) (o : IOp) : Bool :=
  o.bits 26 26 == 0 && o.bits 20 0 == 0 && o.xRnd != 3 &&
  match o.xFmt with
  | none => false
  | some f =>
    let fl := f == .f16 || f == .f32
    let num := fl || f == .i32
    let noIdx := o.vIdx == 0
    match maj, mi with
    | 26, 8 | 26, 9 | 26, 10 | 26, 11 => fl && noIdx
    | 24, _ | 25, _ | 26, _ => num && noIdx && (fl || o.xRnd == 0)
    | 27, _ | 28, 1 | 29, _ => num && noIdx && o.xRnd == 0
    | 28, 2 | 28, 3 => num && o.xRnd == 0 && decide (o.vIdx < 512 / f.bits)
    | 28, 0 | 30, _ => f == .raw && noIdx && o.xRnd == 0
    | _, _ => false

/-- Format C (R108). -/
def formC (n3 : Bool) (o : IOp) : Bool :=
  o.bits 18 0 == 0 && o.cRnd != 3 &&
  match o.cD, o.cS with
  | some d, some f => d != f && d != .raw && f != .raw && n3Ok n3 d && n3Ok n3 f
      && decide (o.cPart < max d.blocks f.blocks / min d.blocks f.blocks)
  | _, _ => false

/-- Format M (R126-R128). -/
def formM (maj mi : Nat) (o : IOp) : Bool :=
  o.bits 15 0 == 0 &&
  match o.xFmt with
  | none => false
  | some f =>
    let noG := mi == 0 || !o.mH
    match maj with
    | 32 => f != .n3 && noG && o.mSess == 0 && !(o.mLen && o.mS) && !(o.mLen && f == .t2)
    | 33 => o.bits 32 29 == 0 && noG && o.mSess == 0 && !o.mS
    | 34 => (f == .n4 || f == .n8 || f == .f16 || f == .f32) && noG && o.mSess == 0 && !(o.mLen && o.mS)
    | 35 => f == .f16 && !o.mH && !o.mLen && !o.mS && o.mT == 0
    | _ => false

/-- R116: whether an instruction is legal; `n3` says whether N3 is available in the channel. -/
def legal (n3 : Bool) (maj mi : Nat) (o : IOp) : Bool :=
  match findOp maj mi with
  | none => false
  | some r =>
    kindOk r.d.kind o.d.val && kindOk r.a o.a.val
    && (kindOk r.b o.b.val) &&
    match r.form with
    | .R => o.x == 0
    | .I => immOk maj mi o && (maj != 51 || o.xFmt != some .n3 || n3)
    | .B => true
    | .T => formT n3 mi o
    | .X => formX n3 maj mi o
    | .V => formV maj mi o
    | .C => formC n3 o
    | .M => formM maj mi o

/-- R58, R36: whether N3 is available in channel n. -/
def n3Avail (s : State) (n : Nat) : Bool := bitN (getF s HP_CAP_EFF_N3) n == 1

/-- R85: whether the guard lets the instruction execute. -/
def guardOn (s : State) (p : PlyId) (o : IOp) : Bool := getP s p o.gp.val != o.gn

/-! ## Scoreboard (R148) -/

/-- Whether a timing class holds a scoreboard entry after its instruction has issued. Message, knot and DMA-issue instructions
are accepted as they issue, so their entry is free again at once. -/
def Cls.holds : Cls → Nat → Bool
  | .S, _ | .Y, _ | .N, _ => false
  | .K, d => d != 0
  | _, _ => true

/-- CD_BK_SB.AWAIT of an instruction of a class. -/
def Cls.await : Cls → Nat
  | .K => 2
  | .W => 3
  | _ => 0

/-- Entries of the brick in use, by a predicate over entry numbers. -/
def sbCount (s : State) (n b : Nat) (f : Nat → Bool) : Nat :=
  ((List.range 32).filter (fun e => getF s (CD_BK_SB_VALID n b e) == 1 && f e)).length

/-- Entries that ply q holds. -/
def sbHeld (s : State) (n b q : Nat) : Nat := sbCount s n b (fun e => getF s (CD_BK_SB_PLY n b e) == q)

/-- Entries taken from the 16 shared ones. -/
def sbShared (s : State) (n b : Nat) : Nat := sbCount s n b (fun e => getF s (CD_BK_SB_SHARED n b e) == 1)

/-- R148: whether ply q has an entry available. -/
def sbAvail (s : State) (n b q : Nat) : Bool := decide (sbHeld s n b q < 4) || decide (sbShared s n b < 16)

/-- The free entry of lowest number. -/
def sbFree (s : State) (n b : Nat) : Nat :=
  ((List.range 32).find? (fun e => getF s (CD_BK_SB_VALID n b e) == 0)).getD 0

/-- Take an entry for an instruction. -/
def sbTake (s : State) (p : PlyId) (maj mi d pc awaits : Nat) : State :=
  let e := sbFree s p.n p.b
  let sh := b2n (!decide (sbHeld s p.n p.b p.q < 4))
  wr s (CD_BK_SB p.n p.b e)
    (BitVec.ofNat 64 (1 + p.q.val * 2 + (pc / 8) * 8 + (maj * 64 + mi) * 2 ^ 20 + d * 2 ^ 32 + awaits * 2 ^ 37 + sh * 2 ^ 39))

/-- Release an entry. -/
def sbRelease (s : State) (n b e : Nat) : State := wr s (CD_BK_SB n b e) 0

/-- The entry in which ply q awaits a wake (class W), if any. -/
def sbWaitEntry (s : State) (n b q : Nat) : Option Nat :=
  (List.range 32).find? (fun e => getF s (CD_BK_SB_VALID n b e) == 1 && getF s (CD_BK_SB_PLY n b e) == q
    && getF s (CD_BK_SB_AWAIT n b e) == 3)

/-! ## Issue -/

/-- R114: raise a trap; TRAP_ENTRY delivers it (R115). -/
def raiseTrap (s : State) (p : PlyId) (cause epc info : Nat) : State :=
  plyMod s p.n p.b p.q (fun x => { x with trap := some ⟨cause, epc, info % 2 ^ 64⟩ })

/-- Whether a ply may issue: RUNNING, with no trap, end, save or abort in progress; not in the safe state (R352), nor on a die halted for a
grave fault (R47). -/
def mayIssue (s : State) (p : PlyId) : Bool :=
  let x := plyGet s p.n p.b p.q
  plyState s p.n p.b p.q == 1 && x.trap.isNone && !x.ending && !x.saving && !x.aborting && !pkgSafe s && !(dieGet s p.n).grave

/-- What an instruction's body does: complete, complete with a new PC, raise a trap (the flag says that EPC is pc + 8), or stay
held at issue (R417), with or without a step of waiting counted. -/
inductive Body where
  | done (s : State)
  | jump (s : State) (pc : Nat)
  | trap (cause info : Nat) (after : Bool)
  | hold
  | stall (s : State)

/-- R91: the registers an instruction reads or writes, as file and number. -/
def regsOf (s : State) (p : PlyId) (r : OpInfo) (o : IOp) : List (Kind × Nat) :=
  [(r.d.kind, o.d.val), (r.a, o.a.val), (r.b, o.b.val), (.p, o.gp.val)]
  ++ (if r.form = .T ∧ r.mi < 2 then [(.a, o.a.val + 1), (.a, o.a.val + 2)] else [])
  ++ (if r.cls = .X then [(.w, getF s (CD_BK_ARRST_WACT p.n p.b))] else [])

/-- R91: whether an instruction outstanding in scoreboard entry `e` writes a register of the list. Scalar, address and predicate
registers are private to their ply; vector registers, banks and planes are shared. -/
def sbConflict (s : State) (p : PlyId) (regs : List (Kind × Nat)) (e : Nat) : Bool :=
  getF s (CD_BK_SB_VALID p.n p.b e) == 1 &&
  match findOp (getF s (CD_BK_SB_OPC p.n p.b e) / 64) (getF s (CD_BK_SB_OPC p.n p.b e) % 64) with
  | none => false
  | some r =>
    let d := getF s (CD_BK_SB_D p.n p.b e)
    let own := getF s (CD_BK_SB_PLY p.n p.b e) == p.q.val
    let shared := r.d.kind == .v || r.d.kind == .k || r.d.kind == .w
    r.d.use != .r && r.d.kind != .none && (shared || (own && !(r.d.kind == .s && d == 0))) && regs.contains (r.d.kind, d)

/-- R91: whether an instruction must wait for an earlier one. -/
def hazard (s : State) (p : PlyId) (r : OpInfo) (o : IOp) : Bool :=
  (List.range 32).any (sbConflict s p (regsOf s p r o))

/-- The ply moves on to `pc`: ISSUED advances and the fetched instruction leaves the fetch buffer. A PC beyond the store raises
the instruction-address trap at its fetch (R114, Table 3-21). -/
def advance (s : State) (p : PlyId) (pc next : Nat) : State :=
  let s := setIssued s p.n p.b p.q ((plyGet s p.n p.b p.q).issued + 1)
  let s := plyMod s p.n p.b p.q (fun x => { x with fbuf := x.fbuf.filter (fun e => e.1 != pc), age := 0, held := none, rewait := none })
  if next < 0x100000 then setPc s p next else raiseTrap (setPc s p next) p 4 pc next

/-- R84-R91, R114, R116, R148: issue of one instruction by a ply at its PC. A ply that may not issue does not change; one that
has no scoreboard entry available counts the step. -/
def issue (maj mi : Nat) (p : PlyId) (o : IOp) (s : State) (body : State → Body) : State :=
  if mayIssue s p then
    let pc := getPc s p
    if legal (n3Avail s p.n) maj mi o then
      if guardOn s p o then
        let cls := ((findOp maj mi).map (·.cls)).getD .S
        let need := cls.holds o.d.val
        if ((findOp maj mi).map (fun r => hazard s p r o)).getD false then s
        else if need && !sbAvail s p.n p.b p.q then addF s (CD_BK_SCHED_SB_FULL p.n p.b) 1
        else
          let fin (s' : State) (next : Nat) : State :=
            advance (if need && (cls != .W || plyState s' p.n p.b p.q == 2) then sbTake s' p maj mi o.d.val pc cls.await else s')
              p pc next
          match body s with
          | .done s' => fin s' (pc + 8)
          | .jump s' next => fin s' next
          | .trap c i after => raiseTrap s p c (if after then pc + 8 else pc) i
          | .hold => s
          | .stall s' => s'
      else advance s p pc (pc + 8)
    else raiseTrap s p 1 pc (wordOf maj mi o).toNat
  else s

/-- R68: the rounding an instruction's RND field names. -/
def rndOf (s : State) (n b rnd : Nat) : Rg :=
  ⟨getF s (CD_BK_SEED_STATE n b), if rnd = 0 then getF s (CD_BK_ARITH_RND n b) == 1 else rnd == 2⟩

/-- The generator after an instruction's roundings. -/
def putRnd (s : State) (n b : Nat) (r : Rg) : State := setF s (CD_BK_SEED_STATE n b) r.g

/-! ## Vector registers (Table 2-9) -/

/-- The `k` words from address `a`, as one number. -/
def wordsAt (s : State) (a : Nat) : Nat → Nat
  | 0 => 0
  | k + 1 => (rd s a).toNat + 2 ^ 64 * wordsAt s (a + 8) k

/-- Write `k` words from address `a`. -/
def putWords (s : State) (a : Nat) : Nat → Nat → State
  | 0, _ => s
  | k + 1, v => putWords (wr s a (BitVec.ofNat 64 v)) (a + 8) k (v / 2 ^ 64)

/-- A vector register: 512 data bits, 16 scale bytes, SAT, ESC and POISON bits. -/
structure VReg where
  data : Nat
  scale : Nat
  sat : Nat
  esc : Nat
  poison : Nat
  deriving DecidableEq, Repr

def getV (s : State) (n b i : Nat) : VReg :=
  let d := wordsAt s (CD_BK_VREG n b i 0) 8
  let sc := wordsAt s (CD_BK_VREG n b i 8) 2
  let f := (rd s (CD_BK_VREG n b i 10)).toNat
  ⟨d, sc, f % 2 ^ 16, f / 2 ^ 16 % 2 ^ 16, f / 2 ^ 32 % 2 ^ 16⟩

def setV (s : State) (n b i : Nat) (v : VReg) : State :=
  let s := putWords s (CD_BK_VREG n b i 0) 8 v.data
  let s := putWords s (CD_BK_VREG n b i 8) 2 v.scale
  wr s (CD_BK_VREG n b i 10) (BitVec.ofNat 64 (v.sat % 2 ^ 16 + v.esc % 2 ^ 16 * 2 ^ 16 + v.poison % 2 ^ 16 * 2 ^ 32))

/-- Every SCALE byte 0x7F. -/
def scaleOnes : Nat := 0x7F7F7F7F7F7F7F7F7F7F7F7F7F7F7F7F

def VReg.blockData (v : VReg) (f : Fmt) (j : Nat) : Nat := bitsN v.data (16 * f.bits * (j + 1) - 1) (16 * f.bits * j)
def VReg.scaleOf (v : VReg) (j : Nat) : Nat := bitsN v.scale (8 * j + 7) (8 * j)
def VReg.putData (v : VReg) (f : Fmt) (j x : Nat) : VReg := { v with data := putN v.data (16 * f.bits * j) (16 * f.bits) x }
def VReg.putScale (v : VReg) (j x : Nat) : VReg := { v with scale := putN v.scale (8 * j) 8 x }
def VReg.putFlags (v : VReg) (j : Nat) (sat esc poison : Bool) : VReg :=
  { v with sat := putN v.sat j 1 (b2n sat), esc := putN v.esc j 1 (b2n esc), poison := putN v.poison j 1 (b2n poison) }

/-- The element codes of a block. -/
def VReg.codes (v : VReg) (f : Fmt) (j : Nat) : List Nat := unpackElems f.bits 16 (v.blockData f j)

/-- R79: whether a block is poisoned. -/
def VReg.blockPoison (v : VReg) (f : Fmt) (j : Nat) : Bool :=
  bitN v.poison j == 1 || (f.narrow && v.scaleOf j == 0xFF)

/-- The exact values of a block: element times block scale (R56); every element of a poisoned block is NaN (R79). -/
def VReg.values (v : VReg) (f : Fmt) (j : Nat) : List V :=
  let vs := (v.codes f j).map (decElem f)
  if v.blockPoison f j then vs.map (fun _ => .nan)
  else if f.narrow then vs.map (V.scale ((v.scaleOf j : Int) - 127)) else vs

/-- Write an encoded block into block `j` of a register. -/
def VReg.putBlk (v : VReg) (f : Fmt) (j : Nat) (k : Blk) (sat esc : Bool) : VReg :=
  ((v.putData f j (packElems f.bits k.codes)).putScale j k.scale).putFlags j (sat || k.sat) esc k.poison

/-- R60: T2 elements with code 0b10 among a list of codes. -/
def malformed (cs : List Nat) : Nat := (cs.filter (fun c => c % 4 == 2)).length

/-- Count what R69 counts for a narrowed block. -/
def countBlk (s : State) (n b : Nat) (k : Blk) : State :=
  let s := if k.satCnt = 0 then s else addF s (CD_BK_SGCNT0_SAT_NARROW n b) k.satCnt
  if k.undCnt = 0 then s else addF s (CD_BK_SGCNT0_UNDER_NARROW n b) k.undCnt

/-! ## Brick store (R96) -/

/-- The first byte address of `[a, a + len)` outside the brick store, if any. -/
def outOfStore (a : Word) (len : Nat) : Option Nat :=
  if 0x100000 ≤ a.toNat then some a.toNat else if 0x100000 < a.toNat + len then some 0x100000 else none

/-- R96: the first address check that fails among ranges, as a trap body. -/
def rangeTrap : List (Word × Nat) → Option Nat
  | [] => none
  | (a, l) :: t => match outOfStore a l with
    | some x => some x
    | none => rangeTrap t

def storeLE (s : State) (p : PlyId) (off n : Nat) : Nat := readLE s (storePa p.n p.b off) n
def storePut (s : State) (p : PlyId) (off n v : Nat) : State := writeLE s (storePa p.n p.b off) n v

end Sys2Proof.Machine
end

