-- ==== Sys2Proof/WellFormed.lean ====
section
/-! DEFINITION. When a command is well-formed: the fields of an instruction are legal (R116), and what arrives with an event has the size that
the spec gives it, where its type does not say so. -/
namespace Sys2Proof
open Machine

/-- The opcodes, the ply and the fields of a command that is an instruction. -/
structure BrickFields where
  maj : Nat
  mi : Nat
  ply : PlyId
  op : IOp
  deriving DecidableEq, Repr

/-- Tables 3-6 to 3-19, 4-6, 4-9, 4-12: the opcodes and fields of a command that is an instruction; none of an event, which has no word. -/
def Instr.fields : Instr → Option BrickFields
  | .add p o => some ⟨0, 0, p, o⟩
  | .sub p o => some ⟨0, 1, p, o⟩
  | .and p o => some ⟨0, 2, p, o⟩
  | .or p o => some ⟨0, 3, p, o⟩
  | .xor p o => some ⟨0, 4, p, o⟩
  | .shl p o => some ⟨0, 5, p, o⟩
  | .shr p o => some ⟨0, 6, p, o⟩
  | .sra p o => some ⟨0, 7, p, o⟩
  | .mul p o => some ⟨0, 8, p, o⟩
  | .mulhu p o => some ⟨0, 9, p, o⟩
  | .mulh p o => some ⟨0, 10, p, o⟩
  | .min p o => some ⟨0, 11, p, o⟩
  | .max p o => some ⟨0, 12, p, o⟩
  | .minu p o => some ⟨0, 13, p, o⟩
  | .maxu p o => some ⟨0, 14, p, o⟩
  | .popc p o => some ⟨0, 15, p, o⟩
  | .clz p o => some ⟨0, 16, p, o⟩
  | .addi p o => some ⟨1, 0, p, o⟩
  | .andi p o => some ⟨1, 1, p, o⟩
  | .ori p o => some ⟨1, 2, p, o⟩
  | .xori p o => some ⟨1, 3, p, o⟩
  | .shli p o => some ⟨1, 4, p, o⟩
  | .shri p o => some ⟨1, 5, p, o⟩
  | .srai p o => some ⟨1, 6, p, o⟩
  | .muli p o => some ⟨1, 7, p, o⟩
  | .li p o => some ⟨1, 8, p, o⟩
  | .lih p o => some ⟨1, 9, p, o⟩
  | .cmpEq p o => some ⟨2, 0, p, o⟩
  | .cmpNe p o => some ⟨2, 1, p, o⟩
  | .cmpLt p o => some ⟨2, 2, p, o⟩
  | .cmpLtu p o => some ⟨2, 3, p, o⟩
  | .cmpGe p o => some ⟨2, 4, p, o⟩
  | .cmpGeu p o => some ⟨2, 5, p, o⟩
  | .cmpiEq p o => some ⟨2, 8, p, o⟩
  | .cmpiNe p o => some ⟨2, 9, p, o⟩
  | .cmpiLt p o => some ⟨2, 10, p, o⟩
  | .cmpiLtu p o => some ⟨2, 11, p, o⟩
  | .cmpiGe p o => some ⟨2, 12, p, o⟩
  | .cmpiGeu p o => some ⟨2, 13, p, o⟩
  | .pand p o => some ⟨3, 0, p, o⟩
  | .por p o => some ⟨3, 1, p, o⟩
  | .pxor p o => some ⟨3, 2, p, o⟩
  | .pandn p o => some ⟨3, 3, p, o⟩
  | .pset p o => some ⟨3, 4, p, o⟩
  | .pget p o => some ⟨3, 5, p, o⟩
  | .pput p o => some ⟨3, 6, p, o⟩
  | .amov p o => some ⟨4, 0, p, o⟩
  | .smov p o => some ⟨4, 1, p, o⟩
  | .aadd p o => some ⟨4, 2, p, o⟩
  | .aaddi p o => some ⟨4, 3, p, o⟩
  | .br p o => some ⟨8, 0, p, o⟩
  | .call p o => some ⟨8, 1, p, o⟩
  | .jr p o => some ⟨9, 0, p, o⟩
  | .jalr p o => some ⟨9, 1, p, o⟩
  | .loop p o => some ⟨10, 0, p, o⟩
  | .bz p o => some ⟨10, 1, p, o⟩
  | .bnz p o => some ⟨10, 2, p, o⟩
  | .nop p o => some ⟨11, 0, p, o⟩
  | .ldB p o => some ⟨12, 0, p, o⟩
  | .ldBu p o => some ⟨12, 1, p, o⟩
  | .ldH p o => some ⟨12, 2, p, o⟩
  | .ldHu p o => some ⟨12, 3, p, o⟩
  | .ldW p o => some ⟨12, 4, p, o⟩
  | .ldWu p o => some ⟨12, 5, p, o⟩
  | .ldD p o => some ⟨12, 6, p, o⟩
  | .ldA p o => some ⟨12, 7, p, o⟩
  | .stB p o => some ⟨13, 0, p, o⟩
  | .stH p o => some ⟨13, 1, p, o⟩
  | .stW p o => some ⟨13, 2, p, o⟩
  | .stD p o => some ⟨13, 3, p, o⟩
  | .stA p o => some ⟨13, 4, p, o⟩
  | .amoaddD p o => some ⟨15, 0, p, o⟩
  | .amoswapD p o => some ⟨15, 1, p, o⟩
  | .amocasD p o => some ⟨15, 2, p, o⟩
  | .vld p o => some ⟨14, 0, p, o⟩
  | .vst p o => some ⟨14, 1, p, o⟩
  | .vsbld p o => some ⟨14, 2, p, o⟩
  | .vsbst p o => some ⟨14, 3, p, o⟩
  | .wld p o => some ⟨16, 0, p, o⟩
  | .wsel p o => some ⟨16, 1, p, o⟩
  | .step p o => some ⟨17, 0, p, o⟩
  | .aclr p o => some ⟨18, 0, p, o⟩
  | .adrain p o => some ⟨18, 1, p, o⟩
  | .aaddFmt p o => some ⟨18, 2, p, o⟩
  | .vadd p o => some ⟨24, 0, p, o⟩
  | .vsub p o => some ⟨24, 1, p, o⟩
  | .vmul p o => some ⟨24, 2, p, o⟩
  | .vmax p o => some ⟨24, 3, p, o⟩
  | .vmin p o => some ⟨24, 4, p, o⟩
  | .vfma p o => some ⟨25, 0, p, o⟩
  | .vabs p o => some ⟨26, 0, p, o⟩
  | .vneg p o => some ⟨26, 1, p, o⟩
  | .vrelu p o => some ⟨26, 2, p, o⟩
  | .vrcp p o => some ⟨26, 8, p, o⟩
  | .vrsqrt p o => some ⟨26, 9, p, o⟩
  | .vexp2 p o => some ⟨26, 10, p, o⟩
  | .vlog2 p o => some ⟨26, 11, p, o⟩
  | .vcmpEq p o => some ⟨27, 0, p, o⟩
  | .vcmpLt p o => some ⟨27, 1, p, o⟩
  | .vcmpLe p o => some ⟨27, 2, p, o⟩
  | .vsel p o => some ⟨27, 3, p, o⟩
  | .vmov p o => some ⟨28, 0, p, o⟩
  | .vbcast p o => some ⟨28, 1, p, o⟩
  | .vins p o => some ⟨28, 2, p, o⟩
  | .vext p o => some ⟨28, 3, p, o⟩
  | .vperm p o => some ⟨29, 0, p, o⟩
  | .vredAdd p o => some ⟨29, 1, p, o⟩
  | .vredMax p o => some ⟨29, 2, p, o⟩
  | .vand p o => some ⟨30, 0, p, o⟩
  | .vor p o => some ⟨30, 1, p, o⟩
  | .vxor p o => some ⟨30, 2, p, o⟩
  | .vnot p o => some ⟨30, 3, p, o⟩
  | .cvt p o => some ⟨50, 0, p, o⟩
  | .scl p o => some ⟨51, 0, p, o⟩
  | .sgctx p o => some ⟨52, 0, p, o⟩
  | .chk p o => some ⟨52, 1, p, o⟩
  | .esc p o => some ⟨52, 2, p, o⟩
  | .sgrd p o => some ⟨53, 0, p, o⟩
  | .seed p o => some ⟨53, 1, p, o⟩
  | .rdsr p o => some ⟨57, 0, p, o⟩
  | .wrsr p o => some ⟨57, 1, p, o⟩
  | .fence p o => some ⟨54, 0, p, o⟩
  | .yield p o => some ⟨55, 0, p, o⟩
  | .endPly p o => some ⟨55, 1, p, o⟩
  | .ppt p o => some ⟨55, 2, p, o⟩
  | .trap p o => some ⟨56, 0, p, o⟩
  | .tret p o => some ⟨56, 1, p, o⟩
  | .ckpt p o => some ⟨58, 0, p, o⟩
  | .brk p o => some ⟨59, 0, p, o⟩
  | .msend p o => some ⟨32, 0, p, o⟩
  | .msendg p o => some ⟨32, 1, p, o⟩
  | .mgath p o => some ⟨33, 0, p, o⟩
  | .mgathg p o => some ⟨33, 1, p, o⟩
  | .scadd p o => some ⟨34, 0, p, o⟩
  | .scaddg p o => some ⟨34, 1, p, o⟩
  | .maor p o => some ⟨35, 0, p, o⟩
  | .mrecv p o => some ⟨36, 0, p, o⟩
  | .mpoll p o => some ⟨36, 1, p, o⟩
  | .mtag p o => some ⟨36, 2, p, o⟩
  | .vtset p o => some ⟨37, 0, p, o⟩
  | .vtget p o => some ⟨37, 1, p, o⟩
  | .mtadd p o => some ⟨38, 0, p, o⟩
  | .mtrd p o => some ⟨38, 1, p, o⟩
  | .dmaq p o => some ⟨40, 0, p, o⟩
  | .dmat p o => some ⟨41, 0, p, o⟩
  | .karr p o => some ⟨44, 0, p, o⟩
  | .ksig p o => some ⟨44, 1, p, o⟩
  | .kwait p o => some ⟨45, 0, p, o⟩
  | .ktest p o => some ⟨45, 1, p, o⟩
  | .karm p o => some ⟨46, 0, p, o⟩
  | .krst p o => some ⟨46, 1, p, o⟩
  | .ksigr p o => some ⟨47, 0, p, o⟩
  | .larmPly p o => some ⟨48, 0, p, o⟩
  | .larmKnot p o => some ⟨48, 1, p, o⟩
  | .ldis p o => some ⟨48, 2, p, o⟩
  | .lwait p o => some ⟨49, 0, p, o⟩
  | .lwaitr p o => some ⟨49, 1, p, o⟩
  | _ => none

/-- Whether an event's lists have the sizes that the spec gives them. -/
def Instr.sized : Instr → Bool
  | .mgmtWrite _ len _ _ => decide (1 ≤ len.val)
  | .i3cPrivateWrite b => b.length == 6 || b.length == 14
  | .guestWrite _ _ data => data.length % 64 == 0 && decide (64 ≤ data.length ∧ data.length ≤ 4096)
  | .activity cnt _ => cnt.length == 24
  | _ => true

/-- R116: whether a command is well-formed; `n3` says whether N3 is available in the channel. -/
def Instr.wellFormed (n3 : Bool) (i : Instr) : Bool :=
  i.sized && match i.fields with
    | some f => legal n3 f.maj f.mi f.op
    | none => true

end Sys2Proof
end

