-- ==== Sys2Proof/Decode.lean ====
section
/-! DEFINITION. The instruction words of the Brick Instruction Set (Table 3-2): the encoder of a command that is an instruction, and the
decoder of a word that a ply meets; and the table words of the host, which the table of this block does not have. -/
namespace Sys2Proof
open Machine

/-- The commands that are instructions, by 64 × major + minor opcode, part 0. -/
def brickCtors0 : List (Nat × (PlyId → IOp → Instr)) := [
  (0, .add), (1, .sub), (2, .and), (3, .or), (4, .xor), (5, .shl),
  (6, .shr), (7, .sra), (8, .mul), (9, .mulhu), (10, .mulh), (11, .min),
  (12, .max), (13, .minu), (14, .maxu), (15, .popc), (16, .clz), (64, .addi),
  (65, .andi), (66, .ori), (67, .xori), (68, .shli), (69, .shri), (70, .srai),
  (71, .muli), (72, .li), (73, .lih), (128, .cmpEq), (129, .cmpNe), (130, .cmpLt),
  (131, .cmpLtu), (132, .cmpGe), (133, .cmpGeu), (136, .cmpiEq), (137, .cmpiNe), (138, .cmpiLt),
  (139, .cmpiLtu), (140, .cmpiGe), (141, .cmpiGeu), (192, .pand)]

/-- The commands that are instructions, by 64 × major + minor opcode, part 1. -/
def brickCtors1 : List (Nat × (PlyId → IOp → Instr)) := [
  (193, .por), (194, .pxor), (195, .pandn), (196, .pset), (197, .pget), (198, .pput),
  (256, .amov), (257, .smov), (258, .aadd), (259, .aaddi), (512, .br), (513, .call),
  (576, .jr), (577, .jalr), (640, .loop), (641, .bz), (642, .bnz), (704, .nop),
  (768, .ldB), (769, .ldBu), (770, .ldH), (771, .ldHu), (772, .ldW), (773, .ldWu),
  (774, .ldD), (775, .ldA), (832, .stB), (833, .stH), (834, .stW), (835, .stD),
  (836, .stA), (960, .amoaddD), (961, .amoswapD), (962, .amocasD), (896, .vld), (897, .vst),
  (898, .vsbld), (899, .vsbst), (1024, .wld), (1025, .wsel)]

/-- The commands that are instructions, by 64 × major + minor opcode, part 2. -/
def brickCtors2 : List (Nat × (PlyId → IOp → Instr)) := [
  (1088, .step), (1152, .aclr), (1153, .adrain), (1154, .aaddFmt), (1536, .vadd), (1537, .vsub),
  (1538, .vmul), (1539, .vmax), (1540, .vmin), (1600, .vfma), (1664, .vabs), (1665, .vneg),
  (1666, .vrelu), (1672, .vrcp), (1673, .vrsqrt), (1674, .vexp2), (1675, .vlog2), (1728, .vcmpEq),
  (1729, .vcmpLt), (1730, .vcmpLe), (1731, .vsel), (1792, .vmov), (1793, .vbcast), (1794, .vins),
  (1795, .vext), (1856, .vperm), (1857, .vredAdd), (1858, .vredMax), (1920, .vand), (1921, .vor),
  (1922, .vxor), (1923, .vnot), (3200, .cvt), (3264, .scl), (3328, .sgctx), (3329, .chk),
  (3330, .esc), (3392, .sgrd), (3393, .seed), (3648, .rdsr)]

/-- The commands that are instructions, by 64 × major + minor opcode, part 3. -/
def brickCtors3 : List (Nat × (PlyId → IOp → Instr)) := [
  (3649, .wrsr), (3456, .fence), (3520, .yield), (3521, .endPly), (3522, .ppt), (3584, .trap),
  (3585, .tret), (3712, .ckpt), (3776, .brk), (2048, .msend), (2049, .msendg), (2112, .mgath),
  (2113, .mgathg), (2176, .scadd), (2177, .scaddg), (2240, .maor), (2304, .mrecv), (2305, .mpoll),
  (2306, .mtag), (2368, .vtset), (2369, .vtget), (2432, .mtadd), (2433, .mtrd), (2560, .dmaq),
  (2624, .dmat), (2816, .karr), (2817, .ksig), (2880, .kwait), (2881, .ktest), (2944, .karm),
  (2945, .krst), (3008, .ksigr), (3072, .larmPly), (3073, .larmKnot), (3074, .ldis), (3136, .lwait),
  (3137, .lwaitr)]

/-- The commands that are instructions, by their opcodes. -/
def brickCtors : List (Nat × (PlyId → IOp → Instr)) := brickCtors0 ++ brickCtors1 ++ brickCtors2 ++ brickCtors3

/-- Table 3-2: the word of a command that is an instruction; none of an event. -/
def Instr.encode (i : Instr) : Option Word := i.fields.map (fun f => wordOf f.maj f.mi f.op)

/-- R84, R116: the command that a word spells for a ply, where N3 is available or not; none of an illegal word. -/
def decodeBrick (n3 : Bool) (p : PlyId) (w : Word) : Option Instr :=
  let (maj, mi, o) := fieldsOf w
  if legal n3 maj mi o then (brickCtors.find? (fun e => e.1 == 64 * maj + mi)).map (fun e => e.2 p o) else none

/-- The command that a table word spells: the table of operations and events gives no row any bits, so none. -/
def decodeTableWord (_nbits _w : Nat) : Option Instr := none

end Sys2Proof
end

