-- ==== Sys2Proof/Machine/BrickSys.lean ====
section
/-! DEFINITION. Safeguard and system instructions, trap entry, and the events of a brick's pipeline (R83, R110-R117, R148-R151).
-/
namespace Sys2Proof.Machine

/-! ## Safeguard and rounding instructions (R110) -/

/-- R326: the word of an occurrence alias that holds counts `4 j` to `4 j + 3` of the register at `a`. -/
def occAdr (a j : Nat) : Nat := a - adrOff a + 0x80000 + 4 * adrOff a + 8 * j

/-- R110: sgctx. -/
def execSgctx (p : PlyId) (o : IOp) (s : State) : Out :=
  .next (issue 52 0 p o s (fun s => .done (setF s (CD_BK_ARRST_CTX p.n p.b) (o.bits 2 0))))

/-- R110: chk. -/
def execChk (p : PlyId) (o : IOp) (s : State) : Out :=
  .next (issue 52 1 p o s (fun s => .done (setF s (CD_PLY_STS_CHK_PEND p.n p.b p.q) 1)))

/-- R110: esc. -/
def execEsc (p : PlyId) (o : IOp) (s : State) : Out :=
  .next (issue 52 2 p o s (fun s => .done (setF s (CD_PLY_STS_ESC_PEND p.n p.b p.q) 1)))

/-- R110: the register that sgrd reads for an immediate. -/
def sgReg (n b : Nat) : Nat → Nat
  | 0 => CD_BK_SGCNT0 n b
  | 1 => CD_BK_SGCNT1 n b
  | 2 => CD_BK_SGCNT2 n b
  | 3 => CD_BK_SGCNT3 n b
  | 4 => CD_BK_SGSTS n b
  | _ => occAdr (CD_BK_SGSTS n b) 0

/-- R110: sgrd. -/
def execSgrd (p : PlyId) (o : IOp) (s : State) : Out :=
  .next (issue 53 0 p o s (fun s => .done (setS s p o.d (rd s (sgReg p.n p.b (o.bits 2 0))))))

/-- R68: a new generator state; 0 loads 1. -/
def seedVal (x : Nat) : Nat := if x % 2 ^ 32 = 0 then 1 else x % 2 ^ 32

/-- R110: seed. -/
def execSeed (p : PlyId) (o : IOp) (s : State) : Out :=
  .next (issue 53 1 p o s (fun s => .done (setF s (CD_BK_SEED_STATE p.n p.b) (seedVal (getS s p o.a).toNat))))

/-! ## System registers (R111) -/

/-- Table 3-18: the value of a system register. -/
def sysReg (s : State) (p : PlyId) : Nat → Word
  | 0 => BitVec.ofNat 64 p.q
  | 1 => BitVec.ofNat 64 p.b
  | 2 => BitVec.ofNat 64 p.n
  | 3 => BitVec.ofNat 64 (epochOf s p.n)
  | 4 => BitVec.ofNat 64 (plyGet s p.n p.b p.q).issued
  | 5 => rd s (CD_PLY_TVEC p.n p.b p.q)
  | 6 => rd s (CD_PLY_EPC p.n p.b p.q)
  | 7 => rd s (CD_PLY_CAUSE p.n p.b p.q)
  | _ => rd s (CD_PLY_TINFO p.n p.b p.q)

/-- R111: rdsr. -/
def execRdsr (p : PlyId) (o : IOp) (s : State) : Out :=
  .next (issue 57 0 p o s (fun s => .done (setS s p o.d (sysReg s p (o.bits 3 0)))))

/-- R111: wrsr writes the fields that the register's card lets software write. -/
def wrSys (s : State) (p : PlyId) (v : Word) : Nat → State
  | 5 => wr s (CD_PLY_TVEC p.n p.b p.q) (v &&& 0xFFFF9)
  | 6 => wr s (CD_PLY_EPC p.n p.b p.q) (v &&& 0xFFFF8)
  | 7 => wr s (CD_PLY_CAUSE p.n p.b p.q) (v &&& 0xFF)
  | _ => wr s (CD_PLY_TINFO p.n p.b p.q) v

/-- R111: wrsr. -/
def execWrsr (p : PlyId) (o : IOp) (s : State) : Out :=
  .next (issue 57 1 p o s (fun s => .done (wrSys s p (getS s p o.a) (o.bits 3 0))))

/-! ## Ordering, end, traps (R111-R116) -/

/-- Whether ply q holds a scoreboard entry of a major opcode that satisfies `f`. -/
def outstanding (s : State) (n b q : Nat) (f : Nat → Bool) : Bool :=
  (List.range 32).any (fun e => getF s (CD_BK_SB_VALID n b e) == 1 && getF s (CD_BK_SB_PLY n b e) == q
    && f (getF s (CD_BK_SB_OPC n b e) / 64))

/-- Majors of stores and atomics, and of the record of ckpt. -/
def storeMaj (m : Nat) : Bool := m == 13 || m == 14 || m == 15 || m == 58
/-- Majors of the array slot (R90). -/
def arrayMaj (m : Nat) : Bool := decide (16 ≤ m ∧ m ≤ 30) || m == 50 || m == 51
/-- Majors of message and DMA-issue instructions. -/
def messageMaj (m : Nat) : Bool := decide (32 ≤ m ∧ m ≤ 41)

/-- Table 3-19: whether the conditions that a fence selects hold. -/
def fenceMet (s : State) (p : PlyId) (o : IOp) : Bool :=
  (o.bits 0 0 == 0 || !outstanding s p.n p.b p.q storeMaj)
  && (o.bits 2 2 == 0 || !outstanding s p.n p.b p.q messageMaj)
  && (o.bits 3 3 == 0 || (!outstanding s p.n p.b p.q arrayMaj && !(brickGet s p.n p.b).shq.any (fun e => e.ply == p.q.val)))

/-- R111: fence holds its ply until its conditions hold. With the I bit it empties the fetch buffer. -/
def execFence (p : PlyId) (o : IOp) (s : State) : Out :=
  .next (issue 54 0 p o s (fun s =>
    if fenceMet s p o then
      .done (if o.bits 1 1 = 1 then plyMod s p.n p.b p.q (fun x => { x with fbuf := [] }) else s)
    else .hold))

/-- R150: yield places its ply last in both rotations. -/
def execYield (p : PlyId) (o : IOp) (s : State) : Out :=
  .next (issue 55 0 p o s (fun s =>
    .done (brickMod s p.n p.b (fun x => { x with yielded := x.yielded.filter (· != p.q.val) ++ [p.q.val] }))))

/-- R111: end: the ply issues nothing more; END_COMPLETE makes it IDLE. -/
def execEndPly (p : PlyId) (o : IOp) (s : State) : Out :=
  .next (issue 55 1 p o s (fun s => .done (plyMod s p.n p.b p.q (fun x => { x with ending := true }))))

/-- R112: ppt: with a pre-emption request pending the ply stops issuing and awaits its save. -/
def execPpt (p : PlyId) (o : IOp) (s : State) : Out :=
  .next (issue 55 2 p o s (fun s =>
    .done (if (plyGet s p.n p.b p.q).marked then plyMod s p.n p.b p.q (fun x => { x with saving := true }) else s)))

/-- R111: trap. -/
def execTrap (p : PlyId) (o : IOp) (s : State) : Out :=
  .next (issue 56 0 p o s (fun _ => .trap 5 o.immW.toNat true))

/-- R111: tret. -/
def execTret (p : PlyId) (o : IOp) (s : State) : Out :=
  .next (issue 56 1 p o s (fun s =>
    .jump (setF s (CD_PLY_STS_TH p.n p.b p.q) 0) (8 * getF s (CD_PLY_EPC_EPC p.n p.b p.q))))

/-- R115: brk. -/
def execBrk (p : PlyId) (o : IOp) (s : State) : Out :=
  .next (issue 59 0 p o s (fun _ => .trap 8 0 true))

/-- Table 3-20: the 56 words of a checkpoint record. -/
def ckptWords (s : State) (p : PlyId) : List Word :=
  (List.range 32).map (getS s p) ++ (List.range 16).map (getA s p)
  ++ [(rd s (CD_PLY_PRED p.n p.b p.q) &&& 0xFE) ||| 1, BitVec.ofNat 64 (getPc s p + 8),
      BitVec.ofNat 64 (plyGet s p.n p.b p.q).issued]
  ++ List.replicate 5 0

/-- Write words to the brick store. -/
def storeWords (s : State) (p : PlyId) : Nat → List Word → State
  | _, [] => s
  | a, w :: t => storeWords (storePut s p a 8 w.toNat) p (a + 8) t

/-- R113: ckpt. -/
def execCkpt (p : PlyId) (o : IOp) (s : State) : Out :=
  .next (issue 58 0 p o s (fun s =>
    let a := getA s p o.a + o.immW * 64
    match outOfStore a 448 with
    | some x => .trap 2 x false
    | none => if a.toNat % 64 = 0 then .done (storeWords s p a.toNat (ckptWords s p)) else .trap 3 a.toNat false))

/-! ## Pipeline events -/

/-- R83: a ply fetches the instruction at `pc` and those after it, up to the 16 of its fetch buffer. An address in the buffer
keeps the word it was fetched with. -/
def fetchInto (s : State) (p : PlyId) : Nat → List (Nat × Word) → List (Nat × Word)
  | 0, buf => buf
  | k + 1, buf =>
    let buf := fetchInto s p k buf
    let a := getPc s p + 8 * k
    if 16 ≤ buf.length ∨ buf.any (fun e => e.1 == a) ∨ 0x100000 ≤ a then buf
    else buf ++ [(a, BitVec.ofNat 64 (storeLE s p a 8))]

/-- R83: FETCH. Entries behind or far ahead of the PC leave the buffer. -/
def execFetch (p : PlyId) (s : State) : Out :=
  .next (if mayIssue s p then
      let pc := getPc s p
      let keep := (plyGet s p.n p.b p.q).fbuf.filter (fun e => decide (pc ≤ e.1 ∧ e.1 < pc + 128))
      plyMod s p.n p.b p.q (fun x => { x with fbuf := fetchInto s p 16 keep })
    else s)

/-- R115: a trap that is not handled: the ply becomes TRAPPED; DOUBLE is set inside a handler; every cause but a breakpoint
is reported. -/
def trapUnhandled (s : State) (p : PlyId) (cause : Nat) : State :=
  let inH := getF s (CD_PLY_STS_TH p.n p.b p.q) = 1
  let s := setF s (CD_PLY_STS_STATE p.n p.b p.q) 3
  let s := setF s (CD_PLY_PC_PC p.n p.b p.q) (getF s (CD_PLY_EPC_EPC p.n p.b p.q))
  let s := if inH then flag s (CD_PLY_STS_DOUBLE p.n p.b p.q) else s
  if cause = 8 then s else reportCh s 0x0202 p.n (0x400 + p.b) p.b (p.q + 256 * cause)

/-- R115: trap delivery, once earlier instructions have completed. -/
def deliverTrap (s : State) (p : PlyId) (t : TrapReq) : State :=
  let s := plyMod s p.n p.b p.q (fun x => { x with trap := none })
  let s := wr s (CD_PLY_EPC p.n p.b p.q) (BitVec.ofNat 64 (t.epc / 8 % 2 ^ 17 * 8))
  let s := wr s (CD_PLY_CAUSE p.n p.b p.q) (BitVec.ofNat 64 (t.cause % 256))
  let s := wr s (CD_PLY_TINFO p.n p.b p.q) (BitVec.ofNat 64 t.info)
  if getF s (CD_PLY_TVEC_EN p.n p.b p.q) = 1 ∧ getF s (CD_PLY_STS_TH p.n p.b p.q) = 0 ∧ t.cause ≠ 8 then
    setF (setF s (CD_PLY_STS_TH p.n p.b p.q) 1) (CD_PLY_PC_PC p.n p.b p.q) (getF s (CD_PLY_TVEC_BASE p.n p.b p.q))
  else trapUnhandled s p t.cause

/-! ## Scheduling (R149, R150) -/

/-- R150: AGEING: a low-priority ply eligible for 64 consecutive steps counts as high priority for one step. -/
def execAgeing (p : PlyId) (s : State) : Out :=
  .next (if 64 ≤ (plyGet s p.n p.b p.q).age ∧ bitN (getF s (CD_BK_SCHED_PRIO p.n p.b)) p.q = 0 then
      plyMod s p.n p.b p.q (fun x => { x with age := 0, aged := true })
    else s)

end Sys2Proof.Machine
end

