-- ==== Sys2Proof/Machine/Ledger.lean ====
section
/-! DEFINITION. The promise ledger: entries and their transitions (Tables 5-7 and 5-8), reserved resources (R164), committed power
(R168, R169), the events that put promises at risk (R171), and the ends of plies (R111, R117, R220). -/
namespace Sys2Proof.Machine

/-! ## Entries -/

/-- What a live ledger entry holds beside its registers. -/
def ledGet (s : State) (n i : Nat) : Option LedX := tabGet (fun _ => none) (dieGet s n).ledger i
def ledPut (s : State) (n i : Nat) (x : Option LedX) : State :=
  dieMod s n (fun d => { d with ledger := tabSet (fun _ => none) d.ledger i x })
def ledMod (s : State) (n i : Nat) (f : LedX → LedX) : State := ledPut s n i ((ledGet s n i).map f)

/-- `n` bytes of a request from byte `lo` (R16). -/
def byteN (x lo n : Nat) : Nat := x / 2 ^ (8 * lo) % 2 ^ (8 * n)

/-- The entries that are not FREE, with their indices. -/
def ledAll (s : State) (n : Nat) : List (Nat × LedX) :=
  (dieGet s n).ledger.filterMap (fun e => if e.1 < 4096 then e.2.map (fun x => (e.1, x)) else none)

def LedX.kind (x : LedX) : Nat := byteN x.req 0 1
def LedX.tag (x : LedX) : Nat := byteN x.req 4 4
def LedX.kn (x : LedX) : Bool := bitN (byteN x.req 1 1) 2 == 1
def LedX.knot (x : LedX) : Nat := byteN x.req 2 2
/-- Table 5-3, launch: first and last brick, ply mask. -/
def LedX.first (x : LedX) : Nat := byteN x.req 24 2
def LedX.last (x : LedX) : Nat := byteN x.req 26 2
def LedX.mask (x : LedX) : Nat := byteN x.req 28 1
def LedX.pc (x : LedX) : Nat := byteN x.req 32 4
def LedX.dP (x : LedX) : Nat := if x.kind = 1 then byteN x.req 30 2 else 0
/-- The plies that a launch names, as 4 b + q. -/
def LedX.plies (x : LedX) : List Nat :=
  if x.kind = 1 then
    ((List.range (4 * (x.last + 1 - x.first))).map (· + 4 * x.first)).filter (fun k => bitN x.mask (k % 4) == 1)
  else []
/-- The reserved engines, mortar shares and host shares of an entry. -/
def LedX.engines (x : LedX) : Nat := if x.kind = 1 then byteN x.req 45 1 else if x.kind = 2 then byteN x.req 40 1 else 0
def LedX.mortar (x : LedX) : Nat := if x.kind = 1 then byteN x.req 29 1 else 0
def LedX.host (x : LedX) : Nat := if x.kind = 2 ∧ byteN x.req 42 1 = 1 then byteN x.req 43 1 else 0
/-- The pin set an entry names; 0xFF names none. -/
def LedX.pin (x : LedX) : Nat := if x.kind = 1 then byteN x.req 44 1 else if x.kind = 2 then byteN x.req 41 1 else byteN x.req 42 1
/-- R4: the field of CH_ADM_ROPES of an external rope number of channel n, if it is the channel's. -/
def ropeField (n rope : Nat) : Option Nat :=
  if 3 * n + 1 ≤ rope ∧ rope ≤ 3 * n + 3 then some (rope - (3 * n + 1))
  else if 3 * n + 13 ≤ rope ∧ rope ≤ 3 * n + 15 then some (rope - (3 * n + 10))
  else none
/-- R4, Table 5-3: the rope of field i of the rope mask of channel n: 0-23 are external ropes 1-24, 24-33 interposer ropes. -/
def fieldRope (n i : Nat) : Nat := if i < 3 then 3 * n + i else if i < 6 then 3 * n + 9 + i else 24 + 2 * n + (i - 6)
/-- The shares that an entry holds of rope field i. -/
def LedX.ropeShare (n : Nat) (x : LedX) (i : Nat) : Nat :=
  if x.kind = 1 then (if bitN (byteN x.req 46 1) i = 1 then byteN x.req 47 1 else 0)
  else if x.kind = 3 ∧ ropeField n (byteN x.req 40 1) = some i then byteN x.req 41 1
  else 0
/-- Whether an entry reserves rope field i. -/
def LedX.usesRope (n : Nat) (x : LedX) (i : Nat) : Bool :=
  if x.kind = 1 then bitN (byteN x.req 46 1) i == 1 else x.kind == 3 && ropeField n (byteN x.req 40 1) == some i

/-- Whether a ledger state is ACCEPTED, ACTIVE or AT_RISK. -/
def liveLed (st : Nat) : Bool := st == 1 || st == 2 || st == 4

/-! ## Committed power (R168) -/

/-- The sum of the ΔP of every launch that has acted and not ended. -/
def sumE (s : State) (n : Nat) : Nat :=
  (ledAll s n).foldl (fun a e => a + (if e.2.inE then e.2.dP else 0) + e.2.holdE) 0

/-- Whether epoch `t` lies after the start of the window of 100,000 epochs that ends at `now`. -/
def inWindow (now t : Nat) : Bool := decide ((now + 2 ^ 48 - t) % 2 ^ 48 < 100000)

/-- Drop from a history, newest first, what ended before the window. -/
def trimE (now : Nat) : List (Nat × Nat) → List (Nat × Nat)
  | [] => []
  | (t, v) :: r => if inWindow now t then (t, v) :: trimE now r else [(t, v)]

/-- Take the committed power anew, at the current epoch. -/
def refreshE (s : State) (n : Nat) : State :=
  let e := sumE s n
  let h := (dieGet s n).powerE
  if (h.head?.map (·.2)).getD 0 = e then s
  else
    let now := epochOf s n
    let s := dieMod s n (fun d => { d with powerE := (now, e) :: trimE now (h.filter (fun x => x.1 != now)) })
    setF s (CH_SLEW_STS_E n) (min e 4095)

/-- The least committed power over the window, of a history newest first; `after` says that the value of the head ended
inside the window. 0 held before the first entry. -/
def minHist (now : Nat) : Bool → List (Nat × Nat) → Nat → Nat
  | live, [], m => if live then min m 0 else m
  | live, (t, v) :: r, m => if live then minHist now (inWindow now t) r (min m v) else m

/-- min(E over the epochs t − 100,000 to t), at the current epoch. -/
def minE (s : State) (n : Nat) : Nat := minHist (epochOf s n) true (dieGet s n).powerE (sumE s n)

/-- R170: the slew limit in force. -/
def slewLim (s : State) (n : Nat) : Nat := max 50 (min 2000 (getF s (CH_SLEW_CTL_LIM n)))

/-- R168, R169: whether a launch may act now; the power that its predecessor leaves at the same epoch is out of E. -/
def slewOk (s : State) (n : Nat) (x : LedX) : Bool :=
  decide (sumE s n + x.dEff ≤ slewLim s n + min (minE s n) (sumE s n))

/-! ## Transitions (Table 5-7) -/

/-- Count a promise that is broken. -/
def countBroken (s : State) (n i : Nat) : State :=
  if getF s (CH_LEDGER_P n i) = 1 ∧ getF s (CH_LEDGER_STATE n i) ≠ 5 then satF s (CH_ADM_STS_BROKEN n) 1 else s

/-- Enter a terminal state. -/
def ledEnd (s : State) (n i st code : Nat) : State :=
  let s := if st = 5 then countBroken s n i else s
  setFs s [(CH_LEDGER_STATE n i, st), (CH_LEDGER_END n i, code)]

/-- R169: the successors of entry `i`, once it has ended: with its work complete they may act, and the first keeps its ΔP in E;
otherwise they never act. -/
def tellSuccessors (n i dP : Nat) (complete : Bool) : State → List (Nat × LedX) → State
  | s, [] => s
  | s, (j, y) :: t =>
    if y.pred = some i ∧ !y.predDone ∧ y.stopped.isNone then
      let s := ledMod s n j (fun y =>
        { y with pred := if complete then y.pred else none, predDone := complete, holdE := if complete then dP else 0 })
      tellSuccessors n i (if complete then 0 else dP) complete s t
    else tellSuccessors n i dP complete s t

/-- R165: engines reserved by an entry are free of it. -/
def unreserveEngines (s : State) (n i : Nat) : State :=
  (List.range 64).foldl (fun s e =>
    if getF s (CD_DMA_ENG_RSVD n e) = 1 ∧ getF s (CD_DMA_ENG_ENTRY n e) = i then
      setFs s [(CD_DMA_ENG_RSVD n e, 0), (CD_DMA_ENG_ENTRY n e, 0)]
    else s) s

/-- R164: the resources of an entry are free again. -/
def ledRelease (s : State) (n i : Nat) (complete : Bool) : State :=
  match ledGet s n i with
  | some x =>
    if x.released then s
    else
      let s := unreserveEngines (ledMod s n i (fun x => { x with released := true, inE := false, holdE := 0 })) n i
      let s := tellSuccessors n i (if x.inE then x.dP else 0) complete s (ledAll s n)
      refreshE s n
  | none => s

/-- R172: the work of an entry has stopped, at the current epoch. -/
def ledStopped (s : State) (n i : Nat) : State :=
  match ledGet s n i with
  | some x =>
    if x.stopped.isSome ∨ x.released then s
    else
      let ep := epochOf s n
      let st := getF s (CH_LEDGER_STATE n i)
      let dl := getF s (CH_LEDGER_DEADLINE n i)
      let inTime := getF s (CH_LEDGER_P n i) = 0 ∨ epochReached dl ep
      let s := ledMod s n i (fun x => { x with stopped := some ep })
      let s := if liveLed st then (if inTime then ledEnd s n i 3 1 else ledEnd s n i 5 2) else s
      let code := getF s (CH_LEDGER_END n i)
      let s := if getF s (CH_LEDGER_STATE n i) = 5 ∧ code = 2 then
          setF s (CH_LEDGER_LATE n i) (min ((ep + 2 ^ 48 - dl) % 2 ^ 48) 0xFFFFFFFE)
        else s
      ledRelease s n i (code == 1 || code == 2 || code == 7)
  | none => s

/-- R171: an event puts a promise at risk; a best-effort entry never is. -/
def ledRisk (s : State) (n i bit : Nat) : State :=
  if getF s (CH_LEDGER_P n i) = 1 ∧ liveLed (getF s (CH_LEDGER_STATE n i)) then
    setFs s [(⟨CH_LEDGER n i 0, 8 + bit, 8 + bit, 0⟩, 1), (CH_LEDGER_STATE n i, 4)]
  else s

/-- Put at risk every entry that satisfies `f`. -/
def riskWhere (n bit : Nat) (f : LedX → Bool) : State → List (Nat × LedX) → State
  | s, [] => s
  | s, (i, x) :: t => riskWhere n bit f (if f x then ledRisk s n i bit else s) t

/-- R171: the entries that reserve a rope (Rope code) of channel n. -/
def ropeRisk (s : State) (n rope bit : Nat) : State :=
  riskWhere n bit (fun x => !x.released && (List.range 8).any (fun i => fieldRope n i == rope && x.usesRope n i)) s (ledAll s n)

/-- R171: a splice on a rope: counted on the entries that reserve it; the second puts them at risk with cause SPLICE. -/
def spliceCount (n rope : Nat) : State → List (Nat × LedX) → State
  | s, [] => s
  | s, (i, x) :: t =>
    let s := if !x.released && (List.range 8).any (fun k => fieldRope n k == rope && x.usesRope n k) then
        let s := satF s (CH_LEDGER_SPLICES n i) 1
        if 2 ≤ getF s (CH_LEDGER_SPLICES n i) then ledRisk s n i 0 else s
      else s
    spliceCount n rope s t

/-- Work begins (Table 5-7). -/
def ledBegin (s : State) (n i : Nat) : State :=
  if getF s (CH_LEDGER_STATE n i) = 1 then setF s (CH_LEDGER_STATE n i) 2 else s

/-! ## The ends of plies -/

/-- R172: ply 4 b + q of die n has ended: it leaves the launch that waits for it. -/
def ledPlyEnd (n k : Nat) : State → List (Nat × LedX) → State
  | s, [] => s
  | s, (i, x) :: t =>
    let s := if x.left.contains k then
        let s := ledMod s n i (fun x => { x with left := x.left.filter (· != k) })
        if x.left = [k] then ledStopped s n i else s
      else s
    ledPlyEnd n k s t

/-- R172: an ABORT of a launched ply breaks its entry; the entry's resources stay until its work has stopped. -/
def ledAbort (n k : Nat) : State → List (Nat × LedX) → State
  | s, [] => s
  | s, (i, x) :: t =>
    let s := if x.acted && x.left.contains k && liveLed (getF s (CH_LEDGER_STATE n i)) then
        setF (ledEnd s n i 5 3) (CH_LEDGER_LATE n i) 0xFFFFFFFF
      else s
    ledAbort n k s t

def preGet (s : State) (n k : Nat) : Option PreX := tabGet (fun _ => none) (dieGet s n).preReqs k
def prePut (s : State) (n k : Nat) (x : Option PreX) : State :=
  dieMod s n (fun d => { d with preReqs := tabSet (fun _ => none) d.preReqs k x })

/-- Whether a pre-emption request state is live. -/
def preLive (st : Nat) : Bool := decide (1 ≤ st ∧ st ≤ 6)

/-- Table 6-15: a request reaches a terminal state: its arrival is made when KN = 1. -/
def preEnd (s : State) (n k st : Nat) : State :=
  let s := setF s (CH_PRE_REQ_STATE n k) st
  match preGet s n k with
  | some x =>
    let e := (dieGet s n).preEnds
    let s := prePut s n k (some { x with ended := e })
    let s := dieMod s n (fun d => { d with preEnds := e + 1 })
    if bitN (byteN x.raw 1 1) 4 = 1 then arriveFrom s n (byteN x.raw 4 2) else s
  | none => s

/-- Table 6-11: an aborted ply leaves the live save request that names it; a request with no plies left is CANCELLED. -/
def preLeave (die b q : Nat) : Nat → State → State
  | 0, s => s
  | k + 1, s =>
    let s := preLeave die b q k s
    let n := die
    if preLive (getF s (CH_PRE_REQ_STATE n k)) ∧ getF s (CH_PRE_REQ_STATE n k) ≠ 6 ∧ getF s (CH_PRE_REQ_BRICK n k) = b
        ∧ getF s (CH_PRE_REQ_DIE n k) = die ∧ bitN (getF s (CH_PRE_REQ_PLIES n k)) q = 1 then
      let m := putN (getF s (CH_PRE_REQ_PLIES n k)) q 1 0
      let s := setFs s [(CH_PRE_REQ_PLIES n k, m), (CH_PRE_REQ_STOPPED n k, putN (getF s (CH_PRE_REQ_STOPPED n k)) q 1 0)]
      if m = 0 then preEnd s n k 9 else s
    else s

/-- R111, R117: the ply has no outstanding instruction and becomes IDLE. -/
def plyIdle (s : State) (p : PlyId) : State :=
  let s := setF s (CD_PLY_STS_STATE p.n p.b p.q) 0
  let s := plyMod s p.n p.b p.q (fun x => { x with ending := false, aborting := false, saving := false, marked := false })
  ledPlyEnd p.n (4 * p.b + p.q) s (ledAll s p.n)

/-- R117: an abort ends once the ply's outstanding instructions have completed. -/
def settle (s : State) (p : PlyId) : State :=
  if (plyGet s p.n p.b p.q).aborting ∧ sbHeld s p.n p.b p.q = 0 then
    let s := plyIdle s p
    if getF s (CD_PLY_CMD_STATUS p.n p.b p.q) = 1 then setF s (CD_PLY_CMD_STATUS p.n p.b p.q) 2 else s
  else s

/-- R117: the ply stops issuing, its wait is withdrawn, TH is cleared. -/
def abortPly (s : State) (p : PlyId) : State :=
  if plyState s p.n p.b p.q = 0 then s
  else
    let s := match sbWaitEntry s p.n p.b p.q with
      | some e => sbRelease s p.n p.b e
      | none => s
    let s := brickMod s p.n p.b (fun x => { x with recvQ := x.recvQ.filter (· != p.q.val) })
    let s := wr s (CD_PLY_WAIT p.n p.b p.q) 0
    let s := setFs s [(CD_PLY_STS_STATE p.n p.b p.q, 1), (CD_PLY_STS_TH p.n p.b p.q, 0)]
    let s := plyMod s p.n p.b p.q (fun x =>
      { x with trap := none, ending := false, saving := false, aborting := true, wait := none, held := none })
    let s := preLeave p.n p.b p.q 64 s
    settle s p

/-- R117: ABORT, as a command or as part of another reaction. -/
def abortLaunched (s : State) (p : PlyId) : State := abortPly (ledAbort p.n (4 * p.b + p.q) s (ledAll s p.n)) p

/-- The ply of die n at index 4 b + q. -/
def plyAt (n k : Nat) : PlyId := ⟨Fin.ofNat 4 n, Fin.ofNat 384 (k / 4), Fin.ofNat 4 k⟩

def abortAll (n : Nat) : State → List Nat → State
  | s, [] => s
  | s, k :: t => abortAll n (abortPly s (plyAt n k)) t

/-- Disarm the ply slots that the admission controller armed for plies of a list. -/
def disarmAdm (n : Nat) : State → List Nat → State
  | s, [] => s
  | s, k :: t =>
    let b := k / 4 % 384
    let s := if getF s (CD_BK_LSLOT_ADM n b (k % 4)) = 1 then
        setFs s [(CD_BK_LSLOT_ARMED n b (k % 4), 0), (CD_BK_LSLOT_ADM n b (k % 4), 0)]
      else s
    disarmAdm n s t

/-- Table 5-7, last rows: an entry is ended by the loss of its die, a fence, a degraded span or a forced dissolve: its plies are
aborted and its resources released; lateness is unknown. -/
def ledKill (s : State) (n i code : Nat) : State :=
  match ledGet s n i with
  | some x =>
    let s := ledEnd s n i 5 code
    let s := if code = 4 ∨ code = 5 ∨ code = 6 then setF s ⟨CH_LEDGER n i 0, 14, 14, 0⟩ 1 else s
    let s := setF s (CH_LEDGER_LATE n i) 0xFFFFFFFF
    let s := ledMod s n i (fun x => { x with stopped := some 0, left := [] })
    let s := ledRelease s n i false
    if x.released then s else abortAll n (disarmAdm n s x.plies) (if x.acted then x.left else [])
  | none => s

/-- End every entry that is not FREE. -/
def killAll (n code : Nat) : State → List (Nat × LedX) → State
  | s, [] => s
  | s, (i, _) :: t => killAll n code (ledKill s n i code) t

/-! ## Reserved resources (R164) -/

/-- The entries that still hold their resources. -/
def holders (s : State) (n : Nat) : List (Nat × LedX) := (ledAll s n).filter (fun e => !e.2.released)

def sumBy (f : Nat × LedX → Nat) (l : List (Nat × LedX)) : Nat := l.foldl (fun a e => a + f e) 0

/-- Whether ply 4 b + q is reserved, by an entry other than `but`. -/
def plyReserved (s : State) (n k : Nat) (but : Option Nat) : Bool :=
  (holders s n).any (fun e => some e.1 != but && e.2.plies.contains k)

/-- Whether ply 4 b + q is reserved by a live promise (R172, R214). -/
def plyPromised (s : State) (n k : Nat) : Bool :=
  (holders s n).any (fun e => e.2.plies.contains k && getF s (CH_LEDGER_P n e.1) == 1)

/-- Whether a ply is free for the admission controller: IDLE or SAVED (R217), its slot not armed. -/
def plyFree (s : State) (n k : Nat) : Bool :=
  (plyState s n (k / 4) (k % 4) == 0 || plyState s n (k / 4) (k % 4) == 4)
    && getF s (CD_BK_LSLOT_ARMED n (k / 4) (k % 4)) == 0

def freePlies (s : State) (n : Nat) : Nat :=
  1536 - ((List.range 1536).filter (fun k => plyReserved s n k none || !plyFree s n k)).length
def freeEngines (s : State) (n : Nat) : Nat := 64 - sumBy (fun e => e.2.engines) (holders s n)
def freeMortar (s : State) (n : Nat) : Nat := 64 - sumBy (fun e => e.2.mortar) (holders s n)
/-- R301: the host shares of rank `r`. -/
def hostShare (s : State) (r : Nat) : Nat := min 16 (getF s ⟨HP_HOST_SHARE (r / 8), 8 * (r % 8) + 7, 8 * (r % 8), 0⟩)
/-- R301: the free shares of the package's one pool. -/
def freeHost (s : State) : Nat :=
  hostShare s (getF s HP_GRP_STS_RANK) - (List.range 4).foldl (fun a n => a + sumBy (fun e => e.2.host) (holders s n)) 0

/-- CH_ADM_ROPES: the free sixteenths of a rope field that is up. -/
def freeRope (s : State) (n i : Nat) : Option Nat :=
  if getF s (OE_ROPE_STS_STATE (fieldRope n i)) = 3 then some (16 - sumBy (fun e => e.2.ropeShare n i) (holders s n)) else none

end Sys2Proof.Machine
end

