-- ==== Sys2Proof/Machine/BrickArray.lean ====
section
/-! DEFINITION. Weight planes, array steps, accumulators and the shadow lane (R65-R67, R70-R79, R99-R106). -/
namespace Sys2Proof.Machine

/-! ## Accumulator banks (R67) -/

/-- `k` occurrences of a one-bit flag (R325). -/
def flagN (s : State) (f : Fld) : Nat → State
  | 0 => s
  | k + 1 => flag (flagN s f k) f

/-- The 64 entries of a bank: the 32-bit pattern and the poison bit. -/
def bankEntries (s : State) (n b k : Nat) : List (Nat × Bool) :=
  let pw := (rd s (CD_BK_ACC n b k 32)).toNat
  (List.range 64).map (fun c =>
    (bitsN (rd s (CD_BK_ACC n b k (c / 2))).toNat (32 * (c % 2) + 31) (32 * (c % 2)), bitN pw c == 1))

def putBank (s : State) (n b k : Nat) (es : List (Nat × Bool)) : State :=
  putWords s (CD_BK_ACC n b k 0) 33 (packElems 32 (es.map (·.1)) + 2 ^ 2048 * packElems 1 (es.map (fun e => b2n e.2)))

def bankF32 (s : State) (n b k : Nat) : Bool := bitN (getF s (CD_BK_ARITH_BANK_F32 n b)) k == 1

/-- The exponent E of a bank, from its code (E + 127) mod 256 (R104). -/
def bankExp (s : State) (n b k : Nat) : Int :=
  let c := bitsN (getF s (CD_BK_ARITH_BANK_EXP n b)) (8 * k + 7) (8 * k)
  if c = 255 then -128 else (c : Int) - 127

/-- Set bit `k` of one of the four-bit bank fields. -/
def setBankBit (s : State) (f : Fld) (k : Nat) (v : Bool) : State := setF s f (putN (getF s f) k 1 (b2n v))

/-- R77: whether the shadow queue holds an entry for a bank. -/
def bankBusy (s : State) (n b k : Nat) : Bool := (brickGet s n b).shq.any (fun e => e.bank == k)

/-- The value of an entry (R67); NaN when it is poisoned. -/
def entryVal (f32 : Bool) (e : Int) (x : Nat × Bool) : V :=
  if x.2 then .nan else if f32 then decFloat .f32 x.1 else vInt (sextN x.1 32) e

/-- A 32-bit sum saturated to its bounds, and whether it saturated. -/
def clamp32 (v : Int) : Nat × Bool :=
  if v < -2 ^ 31 then (0x80000000, true)
  else if 2 ^ 31 - 1 < v then (0x7FFFFFFF, true)
  else (wrapN v 32, false)

/-- What one addition into an entry gives: the entry, the rounding state, whether it saturated, whether it became poisoned. -/
structure AccStep where
  x : Nat × Bool
  r : Rg
  sat : Bool
  fresh : Bool
  deriving DecidableEq, Repr

/-- R67: add a term to an entry. A NaN term is a poisoned one. A term beyond the F32 range is an infinity. -/
def accAdd (f32 : Bool) (e : Int) (r : Rg) (x : Nat × Bool) (t : V) : AccStep :=
  if x.2 then ⟨x, r, false, false⟩
  else
    match t with
    | .nan => ⟨(if f32 then 0x7FC00001 else x.1, true), r, false, true⟩
    | .inf sg =>
      if f32 then
        let v := (decFloat .f32 x.1).add (.inf sg)
        ⟨(encFloat .f32 v, v.isNan), r, false, v.isNan⟩
      else
        let (y, sat) := clamp32 (if sg then -2 ^ 32 else 2 ^ 32)
        ⟨(y, false), r, sat, false⟩
    | .num sg m q =>
      if f32 then
        let t := if m ≠ 0 ∧ 127 < t.log2 then .inf sg else t
        let v := (decFloat .f32 x.1).add t
        let (y, r') := roundFloat .f32 r v
        ⟨(y, v.isNan), r', false, v.isNan⟩
      else
        let (d, r') := r.draw
        let u := roundUnits d m q e
        let (y, sat) := clamp32 (sextN x.1 32 + (if sg then -(u : Int) else u))
        ⟨(y, false), r', sat, false⟩

/-- R106: add a raw integer to an entry of an integer bank. -/
def accAddRaw (r : Rg) (x : Nat × Bool) (t : Option Int) : AccStep :=
  if x.2 then ⟨x, r, false, false⟩
  else match t with
    | none => ⟨(x.1, true), r, false, true⟩
    | some v =>
      let (y, sat) := clamp32 (sextN x.1 32 + v)
      ⟨(y, false), r, sat, false⟩

/-- Result of adding a column of optional terms to a bank. -/
structure BankSum where
  es : List (Nat × Bool)
  r : Rg
  sats : Nat
  fresh : Nat
  deriving DecidableEq, Repr

/-- Add term `c` to entry `c` where there is one. -/
def bankSum {α : Type} (add : Rg → Nat × Bool → α → AccStep) : Rg → List (Nat × Bool) → List (Option α) → BankSum
  | r, x :: xs, some t :: ts =>
    let a := add r x t
    let z := bankSum add a.r xs ts
    ⟨a.x :: z.es, z.r, z.sats + b2n a.sat, z.fresh + b2n a.fresh⟩
  | r, x :: xs, none :: ts =>
    let z := bankSum add r xs ts
    { z with es := x :: z.es }
  | r, xs, _ => ⟨xs, r, 0, 0⟩

/-- R67, R79: write a bank's sums back, with the flags and counts they raise. -/
def bankStore (s : State) (n b k : Nat) (z : BankSum) : State :=
  let s := putRnd (putBank s n b k z.es) n b z.r
  let s := if z.sats = 0 then s else flagN (setBankBit s (CD_BK_ARITH_BANK_SATF n b) k true) (CD_BK_SGSTS_ACC_SAT n b) z.sats
  if z.fresh = 0 then s
  else flagN (addF s (CD_BK_SGCNT2_POISON n b) z.fresh) (CD_BK_SGSTS_POISON n b) z.fresh

/-- R67: add terms to a bank under a rounding. -/
def bankAdd (s : State) (n b k : Nat) (stoch : Bool) (ts : List (Option V)) : State :=
  bankStore s n b k
    (bankSum (accAdd (bankF32 s n b k) (bankExp s n b k)) ⟨getF s (CD_BK_SEED_STATE n b), stoch⟩ (bankEntries s n b k) ts)

/-- R104: clear the entries, the poison bits and the two side-band flags of a bank. -/
def bankClear (s : State) (n b k : Nat) : State :=
  let s := putBank s n b k (List.replicate 64 (0, false))
  setBankBit (setBankBit s (CD_BK_ARITH_BANK_SATF n b) k false) (CD_BK_ARITH_BANK_ESCF n b) k false

/-! ## Weight planes (R65, R99-R101) -/

/-- Rows of a plane (R100). -/
def planeRows : Fmt → Nat
  | .t2 => 64 | .n8 => 16 | .f16 => 8 | _ => 32

/-- MODE of a plane: a format code, 0xF none, 0xE borrowed. -/
def planeMode (s : State) (n b j : Nat) : Nat := getF s (CD_BK_WPL_MODE n b j)
def setMode (s : State) (n b j m : Nat) : State := setF s (CD_BK_WPL_MODE n b j) m

/-- The byte `i` of the scale (`at_` = 128) or flag (`at_` = 144) storage of a plane; bytes 128-255 of a T2 plane lie in the
plane of next higher index, modulo 4 (R65). -/
def planeByteAdr (n b j at_ i : Nat) : Nat × Nat :=
  (CD_BK_WPL n b (if i < 128 then j else (j + 1) % 4) (at_ + i % 128 / 8), i % 8)
def planeByte (s : State) (n b j at_ i : Nat) : Nat :=
  let (a, k) := planeByteAdr n b j at_ i
  bitsOf (rd s a) (8 * k + 7) (8 * k)
def putPlaneByte (s : State) (n b j at_ i v : Nat) : State :=
  let (a, k) := planeByteAdr n b j at_ i
  wr s a (putBits (rd s a) (8 * k + 7) (8 * k) v)

/-- Write scale and flag bytes of blocks `i` onward. -/
def putPlaneBytes (s : State) (n b j : Nat) : Nat → List (Nat × Nat) → State
  | _, [] => s
  | i, (sc, fl) :: t => putPlaneBytes (putPlaneByte (putPlaneByte s n b j 128 i sc) n b j 144 i fl) n b j (i + 1) t

/-- R101: the effect of a load into plane `d` on the modes of the others, before its own mode is set. -/
def unborrow (s : State) (n b d : Nat) : State :=
  let prev := (d + 3) % 4
  let next := (d + 1) % 4
  let s := if planeMode s n b d = 0xE then setMode s n b prev 0xF else s
  if planeMode s n b d = 2 ∧ planeMode s n b next = 0xE then setMode s n b next 0xF else s

/-- R101: set the mode of a plane being loaded; a T2 plane borrows its neighbour. -/
def loadMode (s : State) (n b d m : Nat) : State :=
  let s := setMode (unborrow s n b d) n b d m
  if m = 2 then
    let nb := (d + 1) % 4
    let far := (nb + 1) % 4
    let s := if planeMode s n b nb = 2 ∧ planeMode s n b far = 0xE then setMode s n b far 0xF else s
    setMode s n b nb 0xE
  else s

/-- Table 3-7, R65: a T2 code as an N4 code. -/
def t2ToN4 (c : Nat) : Nat := if c % 4 = 1 then 2 else if c % 4 = 3 then 10 else 0

/-- R99, R100: wld. `f` is the format in memory; with `c` a T2 tensor of 32 rows fills an N4 plane. -/
def loadPlane (s : State) (p : PlyId) (d : Nat) (f : Fmt) (c : Bool) (ea sa fa : Nat) (fl : Bool) (shadow : Nat) : State :=
  let n := p.n.val
  let b := p.b.val
  let rows := if c then 32 else planeRows f
  let mode : Fmt := if c || f = .n3 then .n4 else f
  let blocks := rows / 16 * 64
  let s := loadMode s n b d mode.code
  if f = .f16 then putWords s (CD_BK_WPL n b d 0) 128 (storeLE s p ea 1024)
  else
    let raw := storeLE s p ea (blocks * f.blockBytes)
    let codes : List Nat :=
      if f = .n3 then (unpackElems 3 2048 raw).map widenN3
      else if c then (unpackElems 2 2048 raw).map t2ToN4
      else []
    let bits := if f = .n3 ∨ c then packElems 4 codes else raw
    let bad := if f = .t2 then malformed (unpackElems 2 (blocks * 16) raw) else 0
    let meta_ : List (Nat × Nat) := (List.range blocks).map (fun i =>
      let sc := storeLE s p (sa + i) 1
      (sc, if fl then storeLE s p (fa + i) 1 else if sc = 0xFF then 4 else 0))
    let s := putWords s (CD_BK_WPL n b d 0) 128 bits
    let s := putPlaneBytes s n b d 0 meta_
    let s := setF s (CD_BK_WPL_SHADOW n b d) (shadow / 64)
    let s := brickMod s n b (fun x => { x with shHi := listPut x.shHi d (shadow / 0x100000) })
    if bad = 0 then s else addF s (CD_BK_SGCNT2_MALFORMED n b) bad

/-- R99: wld. -/
def execWld (p : PlyId) (o : IOp) (s : State) : Out :=
  .next (issue 16 0 p o s (fun s =>
    match o.xFmt with
    | none => .hold
    | some f =>
      let a := getA s p o.a + BitVec.ofNat 64 (64 * o.xOff)
      match outOfStore a 64 with
      | some x => .trap 2 x false
      | none =>
        if a.toNat % 64 ≠ 0 then .trap 3 a.toNat false
        else
          let dw (i : Nat) : Word := BitVec.ofNat 64 (storeLE s p (a.toNat + 8 * i) 8)
          let fl := bitN (storeLE s p (a.toNat + 32) 1) 0 == 1
          let blocks := (if o.xC then 32 else planeRows f) / 16 * 64
          let ranges : List (Word × Nat) :=
            if f = .f16 then [(dw 0, 1024)]
            else [(dw 0, blocks * f.blockBytes), (dw 1, blocks)] ++ (if fl then [(dw 2, blocks)] else [])
          match rangeTrap ranges with
          | some x => .trap 2 x false
          | none =>
            if f ≠ .f16 ∧ (dw 3).toNat % 64 ≠ 0 then .trap 3 (dw 3).toNat false
            else .done (loadPlane s p o.d f o.xC (dw 0).toNat (dw 1).toNat (dw 2).toNat fl (dw 3).toNat)))

/-- R102: wsel. -/
def execWsel (p : PlyId) (o : IOp) (s : State) : Out :=
  .next (issue 16 1 p o s (fun s => .done (setF s (CD_BK_ARRST_WACT p.n p.b) o.d)))

/-! ## Steps (R66, R70-R76, R103) -/

/-- Whether the array mode is a narrow one, which carries safeguards (R70). -/
def guardedMode : Fmt → Bool
  | .n4 | .i4 | .t2 => true
  | _ => false

/-- The exact sum of the products of two lists of values (R66). -/
def dot : List V → List V → V
  | xs, ws => vSum (List.zipWith V.mul xs ws)

/-- The element codes of block `h` of column `c` of a plane (R100). -/
def planeCodes (s : State) (n b j : Nat) (f : Fmt) (h c : Nat) : List Nat :=
  let e := planeRows f * c + 16 * h
  let byte := e * f.bits / 8
  let w0 := byte / 8
  let raw := wordsAt s (CD_BK_WPL n b j w0) (f.bits * 16 / 64 + 1)
  unpackElems f.bits 16 (raw / 2 ^ (8 * (byte % 8)))

/-- One input block of a step: its codes, values, scale code, poison (R66, R79) and SAT bit. -/
structure InBlk where
  vals : List V
  scale : Nat
  poison : Bool
  sat : Bool
  bad : Nat
  deriving DecidableEq, Repr

def inBlock (v : VReg) (f : Fmt) (j : Nat) : InBlk :=
  let cs := v.codes f j
  let vs := cs.map (decElem f)
  ⟨vs, v.scaleOf j, v.blockPoison f j || vs.any V.isNan, bitN v.sat j == 1, if f = .t2 then malformed cs else 0⟩

/-- R66: the term of one column: the exact partial sum times its scales, NaN when it is poisoned. -/
def colTerm (s : State) (n b j : Nat) (f : Fmt) (x : InBlk) (h c : Nat) : V :=
  let ws := (planeCodes s n b j f h c).map (decElem f)
  let i := planeRows f / 16 * c + h
  let sc := planeByte s n b j 128 i
  if x.poison || sc == 0xFF || bitN (planeByte s n b j 144 i) 2 == 1 || ws.any V.isNan then .nan
  else (dot x.vals ws).scale ((x.scale : Int) - 127 + ((sc : Int) - 127))

/-- R74: whether a block is saturated: its input block or one of its 64 weight blocks carries SAT. -/
def blockSat (s : State) (n b j : Nat) (f : Fmt) (x : InBlk) (h : Nat) : Bool :=
  x.sat || (List.range 64).any (fun c => bitN (planeByte s n b j 144 (planeRows f / 16 * c + h)) 0 == 1)

/-- R71: whether the block of counter value `bc` is sampled under a context. -/
def sampledBy (s : State) (n b ctx bc : Nat) : Bool :=
  let k := min (getF s (CD_BK_SGCTX_K n b ctx)) 10
  (bc + 2 ^ 32 - getF s (CD_BK_SGCTX_PHASE n b ctx)) % 2 ^ k == 0

/-- What the safeguards decide for one block (R71, R74, R76). -/
structure Guarding where
  bc : Nat
  saturated : Bool
  sampled : Bool
  escalated : Bool
  deriving DecidableEq, Repr

def Guarding.queued (g : Guarding) : Bool := g.sampled || g.escalated

/-- R71, R74, R76: decide the blocks of a step in order, from the block counter, the frame and its saturated count. -/
def guardings (s : State) (p : PlyId) (j ctx : Nat) (f : Fmt) (chk esc : Bool) :
    List (Nat × InBlk) → Nat → Nat → Nat → List Guarding × Nat × Nat
  | [], _, fr, cnt => ([], fr, cnt)
  | (h, x) :: t, bc, fr, cnt =>
    let cnt := if bc / 1024 = fr then cnt else 0
    let sat := blockSat s p.n p.b j f x h
    let cnt := cnt + b2n sat
    let tooMany := sat && decide (getF s (CD_BK_SGCTX_SAT_LIM p.n p.b ctx) < cnt)
    let g : Guarding := ⟨bc, sat, !x.poison && (chk || sampledBy s p.n p.b ctx bc), !x.poison && (esc || tooMany)⟩
    let (gs, fr', cnt') := guardings s p j ctx f chk esc t ((bc + 1) % 2 ^ 32) (bc / 1024) cnt
    (g :: gs, fr', cnt')

/-- R66: run the blocks of a step: each adds its 64 terms, and a sampled or escalated block enters the shadow queue. -/
def runBlocks (p : PlyId) (k j : Nat) (f : Fmt) (stoch : Bool) (mk : Nat → List V → Guarding → Option ShadowEntry) :
    State → List (Nat × InBlk × Guarding) → State
  | s, [] => s
  | s, (h, x, g) :: t =>
    let n := p.n.val
    let b := p.b.val
    let ts := (List.range 64).map (colTerm s n b j f x h)
    let s := bankAdd s n b k stoch (ts.map some)
    let s := if x.bad = 0 then s else addF s (CD_BK_SGCNT2_MALFORMED n b) x.bad
    let s := if g.saturated then addF s (CD_BK_SGCNT3_SAT_STEP n b) 1 else s
    let s := match mk h ts g with
      | some e => brickMod s n b (fun y => { y with shq := y.shq ++ [e] })
      | none => s
    runBlocks p k j f stoch mk s t

/-- R70: base address of a plane's shadow operands. -/
def shadowBase (s : State) (n b j : Nat) : Nat :=
  ((brickGet s n b).shHi.getD j 0) * 0x100000 + 64 * getF s (CD_BK_WPL_SHADOW n b j)

/-- R110: the pending chk and esc of a ply are used up by a step that executes. -/
def usePend (s : State) (p : PlyId) : State :=
  setF (setF s (CD_PLY_STS_CHK_PEND p.n p.b p.q) 0) (CD_PLY_STS_ESC_PEND p.n p.b p.q) 0

/-- R70-R76: a step in the N4, I4 or T2 mode, whose addresses have been checked. -/
def guardedStep (s : State) (p : PlyId) (o : IOp) (f : Fmt) (j rec_ : Nat) : Body :=
  let n := p.n.val
  let b := p.b.val
  let v := getV s n b o.a
  let nb := planeRows f / 16
  let blks := (List.range nb).map (fun h => (h, inBlock v f (nb * o.xPart + h)))
  let ctx := getF s (CD_BK_ARRST_CTX n b)
  let x := brickGet s n b
  let (gs, fr, cnt) := guardings s p j ctx f (getF s (CD_PLY_STS_CHK_PEND n b p.q) == 1)
    (getF s (CD_PLY_STS_ESC_PEND n b p.q) == 1) blks (getF s (CD_BK_SGCNT3_BLOCKS n b)) x.frame x.satCount
  if 4 < x.shq.length + (gs.filter Guarding.queued).length then .stall (addF s (CD_BK_SGCNT3_STALL n b) 1)
  else
    let stoch := (rndOf s n b o.xRnd).stoch
    let base := shadowBase s n b j
    let rows := planeRows f
    let tol := getF s (CD_BK_SGCTX_TOL n b ctx)
    let mk (h : Nat) (ts : List V) (g : Guarding) : Option ShadowEntry :=
      if g.queued then some
        ⟨p.q, o.d, ts, rec_ + 16 * h, rec_ + 16 * nb + h, base + 1024 * h, base + 64 * rows + 64 * h, tol, g.sampled, g.escalated, stoch⟩
      else none
    let s := runBlocks p o.d j f stoch mk s (List.zipWith (fun a g => (a.1, a.2, g)) blks gs)
    let s := addF s (CD_BK_SGCNT3_BLOCKS n b) nb
    .done (usePend (brickMod s n b (fun y => { y with frame := fr, satCount := cnt })) p)

/-- R66: a step in the N8 mode. -/
def n8Step (s : State) (p : PlyId) (o : IOp) (j : Nat) : State :=
  let x := inBlock (getV s p.n p.b o.a) .n8 o.xPart
  usePend (bankAdd s p.n p.b o.d (rndOf s p.n p.b o.xRnd).stoch
    ((List.range 64).map (fun c => some (colTerm s p.n p.b j .n8 x 0 c)))) p

/-- R66: the entry and the eight products of one column, summed exactly. -/
def f16Col (s : State) (n b j : Nat) (xs : List V) (c : Nat) : List V :=
  let e := 8 * c
  List.zipWith V.mul xs ((unpackElems 16 8 (wordsAt s (CD_BK_WPL n b j (e * 2 / 8)) 2)).map (decElem .f16))

/-- R66, R62: add the products of a column to an F32 entry with one rounding. -/
def accAddF16 (r : Rg) (x : Nat × Bool) (ps : List V) : AccStep :=
  if x.2 then ⟨x, r, false, false⟩
  else
    let v := vSum (decFloat .f32 x.1 :: ps)
    let (y, r') := roundFloat .f32 r v
    ⟨(y, v.isNan), r', false, v.isNan⟩

/-- R66: a step in the F16 mode. -/
def f16Step (s : State) (p : PlyId) (o : IOp) (j : Nat) : State :=
  let v := getV s p.n p.b o.a
  let xs := (unpackElems 16 8 (v.data / 2 ^ (128 * o.xPart))).map (decElem .f16)
  usePend (bankStore s p.n p.b o.d (bankSum accAddF16 (rndOf s p.n p.b o.xRnd) (bankEntries s p.n p.b o.d)
    ((List.range 64).map (fun c => some (f16Col s p.n p.b j xs c))))) p

/-- R103: step. -/
def execStep (p : PlyId) (o : IOp) (s : State) : Out :=
  .next (issue 17 0 p o s (fun s =>
    match o.xFmt with
    | none => .hold
    | some f =>
      let n := p.n.val
      let b := p.b.val
      let j := getF s (CD_BK_ARRST_WACT n b)
      let modeTrap (ok : Body) : Body :=
        if planeMode s n b j = f.code then ok else .trap 6 (j + 16 * planeMode s n b j) false
      if guardedMode f then
        let nb := planeRows f / 16
        let a := getA s p o.b + BitVec.ofNat 64 (64 * o.xOff)
        match outOfStore a (17 * nb) with
        | some x => .trap 2 x false
        | none =>
          if a.toNat % 64 ≠ 0 then .trap 3 (getA s p o.b).toNat false
          else modeTrap
            (match outOfStore (BitVec.ofNat 64 (shadowBase s n b j)) (64 * planeRows f + 64 * nb) with
             | some x => .trap 2 x false
             | none => guardedStep s p o f j a.toNat)
      else if f = .n8 then modeTrap (.done (n8Step s p o j))
      else modeTrap (if bankF32 s n b o.d then .done (f16Step s p o j) else .trap 7 o.d false)))

/-! ## The shadow lane (R72-R76) -/

/-- R70: N8 values at a brick-store address, as the shadow lane reads them. -/
def n8At (s : State) (n b off k : Nat) : List V :=
  (unpackElems 8 k (readLE s (storePa n b off) k)).map (decElem .n8)

/-- R70, R72: the shadow partial sum of one column; NaN when it is poisoned. -/
def shadowSum (s : State) (n b : Nat) (e : ShadowEntry) (c : Nat) : V :=
  let xs := n8At s n b e.inAddr 16
  let ws := (List.range 16).map (fun r => decElem .n8 (readLE s (storePa n b (e.wAddr + 64 * r + c)) 1))
  let xsc := readLE s (storePa n b e.inScale) 1
  let wsc := readLE s (storePa n b (e.wScale + c)) 1
  if xsc = 0xFF ∨ wsc = 0xFF ∨ xs.any V.isNan ∨ ws.any V.isNan then .nan
  else (dot xs ws).scale ((xsc : Int) - 127 + ((wsc : Int) - 127))

/-- The greatest magnitude of a list of values. -/
def vMaxAbs : List V → V
  | [] => .zero
  | v :: t => let m := vMaxAbs t; if m.lt v.abs then v.abs else m

/-- R73: whether the check of a block trips, over the columns in which neither sum is poisoned. -/
def trips (tol : Nat) (ns ss : List V) : Bool :=
  let ok := (List.zip ns ss).filter (fun q => !q.1.isNan && !q.2.isNan)
  let big := vMaxAbs (ok.map (·.2))
  if big.isZero then ok.any (fun q => !q.1.isZero)
  else ((V.num false tol (-16)).mul big).lt (vMaxAbs (ok.map (fun q => q.1.sub q.2)))

/-- R72-R76: the shadow lane finishes the entry at the head of the queue. -/
def shadowServe (s : State) (n b : Nat) (e : ShadowEntry) (rest : List ShadowEntry) : State :=
  let ss := (List.range 64).map (shadowSum s n b e)
  let cols := List.zip e.sums ss
  let bad := cols.any (fun q => !q.1.isNan && q.2.isNan)
  let trip := e.sampled && !bad && trips e.tol e.sums ss
  let s := if e.sampled then addF s (CD_BK_SGCNT1_CHECKS n b) 1 else s
  let s := if trip then flag (addF s (CD_BK_SGCNT1_TRIPS n b) 1) (CD_BK_SGSTS_TRIP n b) else s
  let esc := e.escalated || trip
  let s :=
    if esc || bad then bankAdd s n b e.bank e.stoch (cols.map (fun q =>
      if q.1.isNan then none else if q.2.isNan then some .nan else if esc then some (q.2.sub q.1) else none))
    else s
  let s :=
    if esc then flag (addF (setBankBit s (CD_BK_ARITH_BANK_ESCF n b) e.bank true) (CD_BK_SGCNT2_ESC n b) 1) (CD_BK_SGSTS_ESC n b)
    else s
  brickMod s n b (fun y => { y with shq := rest })

/-- R73: the shadow lane finishes an entry; with an empty queue nothing happens. -/
def execShadowCheck (k : BrickId) (s : State) : Out :=
  .next (match (brickGet s k.n k.b).shq with
    | [] => s
    | e :: rest => shadowServe s k.n k.b e rest)

/-! ## Accumulator instructions (R104-R106) -/

/-- R104: aclr. -/
def execAclr (p : PlyId) (o : IOp) (s : State) : Out :=
  .next (issue 18 0 p o s (fun s =>
    if bankBusy s p.n p.b o.d then .hold
    else
      let s := bankClear s p.n p.b o.d
      let s := setBankBit s (CD_BK_ARITH_BANK_F32 p.n p.b) o.d (o.bits 8 8 == 1)
      let e := CD_BK_ARITH_BANK_EXP p.n p.b
      .done (setF s e (putN (getF s e) (8 * o.d) 8 ((o.bits 7 0 + 127) % 256)))))

/-- Blocks of values, 16 at a time. -/
def chunk16 : Nat → List V → List (List V)
  | 0, _ => []
  | k + 1, vs => vs.take 16 :: chunk16 k (vs.drop 16)

/-- Write encoded blocks from block `j` on. -/
def putBlks (f : Fmt) (esc : Bool) : VReg → Nat → List Blk → VReg
  | v, _, [] => v
  | v, j, k :: t => putBlks f esc (v.putBlk f j k false esc) (j + 1) t

/-- Encode blocks in order, threading the generator. -/
def encBlks (f : Fmt) : Rg → List (List V) → List Blk × Rg
  | r, [] => ([], r)
  | r, vs :: t =>
    let (k, r1) := encBlock f r vs
    let (ks, r2) := encBlks f r1 t
    (k :: ks, r2)

/-- Count what R69 counts for narrowed blocks. -/
def countBlks (s : State) (n b : Nat) : List Blk → State
  | [] => s
  | k :: t => countBlks (countBlk s n b k) n b t

/-- R105: the register and state after a drain. -/
def drain (s : State) (p : PlyId) (o : IOp) (f : Fmt) : State :=
  let n := p.n.val
  let b := p.b.val
  let f32 := bankF32 s n b o.a
  let es := bankEntries s n b o.a
  let esc := bitN (getF s (CD_BK_ARITH_BANK_ESCF n b)) o.a == 1
  let r := rndOf s n b o.xRnd
  let v0 := getV s n b o.d
  let whole : VReg := { v0 with scale := scaleOnes, sat := 0, esc := 0, poison := 0 }
  let part (k : Nat) : List (Nat × Bool) := (es.drop (k * o.xPart)).take k
  let vals (l : List (Nat × Bool)) : List V := l.map (entryVal f32 (bankExp s n b o.a))
  let (v, s) : VReg × State :=
    match f with
    | .f16 =>
      let l := part 32
      let (ks, r') := encBlks .f16 r (chunk16 2 (vals l))
      (putBlks .f16 esc whole 0 (List.zipWith (fun (k : Blk) q => { k with poison := q })
        ks [(l.take 16).any (·.2), (l.drop 16).any (·.2)]), putRnd s n b r')
    | .f32 =>
      let l := part 16
      let (ks, r') := if f32 then ([⟨l.map (fun x => if x.2 then 0x7FC00001 else x.1), 0x7F, false, false, 0, 0⟩], r)
        else encBlks .f32 r [vals l]
      (putBlks .f32 esc whole 0 (ks.map (fun k => { k with poison := l.any (·.2) })), putRnd s n b r')
    | .i32 =>
      let l := part 16
      (putBlks .i32 esc whole 0 [⟨l.map (fun x => if x.2 then 0x80000000 else x.1), 0x7F, false, l.any (·.2), 0, 0⟩], s)
    | _ =>
      let (ks, r') := encBlks f r (chunk16 4 (vals es))
      (putBlks f esc (if f = .n8 then whole else v0) (4 * o.xPart) ks, countBlks (putRnd s n b r') n b ks)
  let s := setV s n b o.d v
  if o.xC then bankClear s n b o.a else s

/-- R105: adrain. -/
def execAdrain (p : PlyId) (o : IOp) (s : State) : Out :=
  .next (issue 18 1 p o s (fun s =>
    match o.xFmt with
    | none => .hold
    | some f =>
      if bankBusy s p.n p.b o.a then .hold
      else if f = .i32 ∧ bankF32 s p.n p.b o.a then .trap 7 o.a false
      else .done (drain s p o f)))

/-- Optional terms for entries `k * part` onward. -/
def placed {α : Type} (k part : Nat) (l : List α) : List (Option α) :=
  List.replicate (k * part) none ++ l.map some

/-- R106: aadd. -/
def execAaddFmt (p : PlyId) (o : IOp) (s : State) : Out :=
  .next (issue 18 2 p o s (fun s =>
    match o.xFmt with
    | none => .hold
    | some f =>
      let n := p.n.val
      let b := p.b.val
      if bankBusy s n b o.d then .hold
      else if bankF32 s n b o.d = (f == .i32) then .trap 7 o.d false
      else
        let v := getV s n b o.a
        let r := rndOf s n b o.xRnd
        match f with
        | .i32 =>
          let xs := (v.codes .i32 0).map (fun x => if v.blockPoison .i32 0 then none else some (sextN x 32))
          .done (bankStore s n b o.d (bankSum accAddRaw r (bankEntries s n b o.d) (placed 16 o.xPart xs)))
        | _ =>
          let xs := ((List.range f.blocks).map (fun j => (v.codes f j).map (decElem f))).flatten
          .done (bankAdd s n b o.d r.stoch (placed xs.length o.xPart (xs.map id)))))

end Sys2Proof.Machine
end

