-- ==== Sys2Proof/Machine/BrickVector.lean ====
section
/-! DEFINITION. Vector elementwise instructions and the precision instructions cvt and scl (R107-R109). -/
namespace Sys2Proof.Machine

/-- Elements per register of a format. -/
def elemsOf (f : Fmt) : Nat := 512 / f.bits

/-- The element codes of a whole register. -/
def VReg.all (v : VReg) (f : Fmt) : List Nat := unpackElems f.bits (elemsOf f) v.data

/-- Whether an element code is a NaN of a float format. -/
def isNanCode (f : Fmt) (x : Nat) : Bool :=
  match f with
  | .f16 | .f32 => (decElem f x).isNan
  | _ => false

/-- R107: bit `j` of a list of per-block flags. -/
def bitsFrom (g : Nat → Bool) : Nat → Nat
  | 0 => 0
  | k + 1 => bitsFrom g k + b2n (g k) * 2 ^ k

/-- R107: an output register: element codes, SCALE 0x7F, SAT and ESC ORed over the source blocks, and POISON where a block holds
a NaN or, in I32, where a source block was poisoned. -/
def vecOut (f : Fmt) (codes : List Nat) (srcs : List VReg) : VReg :=
  let nb := f.blocks
  let nan (j : Nat) : Bool := ((codes.drop (16 * j)).take 16).any (isNanCode f)
  ⟨packElems f.bits codes, scaleOnes,
   srcs.foldl (fun a v => a ||| v.sat % 2 ^ nb) 0, srcs.foldl (fun a v => a ||| v.esc % 2 ^ nb) 0,
   if f = .i32 then srcs.foldl (fun a v => a ||| v.poison % 2 ^ nb) 0 else bitsFrom nan nb⟩

/-- R107: round exact values into a float format in element order. -/
def roundAll (f : Fmt) (r : Rg) (vs : List V) : List Nat × Rg := encFloatAll f r vs

/-- R107: the body of an elementwise instruction: floats by an operation on values with one rounding, I32 by one on integers. -/
def vecBody (p : PlyId) (o : IOp) (fl : List V → V) (iv : List Int → Int) (srcs : List (Fin 32)) (s : State) : Body :=
  match o.xFmt with
  | none => .hold
  | some f =>
    let vs := srcs.map (fun (i : Fin 32) => getV s p.n p.b i.val)
    let cols (g : Nat → List Nat) : List (List Nat) := (List.range (elemsOf f)).map g
    let at_ (i : Nat) : List Nat := vs.map (fun v => (v.data / 2 ^ (f.bits * i)) % 2 ^ f.bits)
    if f = .i32 then
      .done (setV s p.n p.b o.d (vecOut f ((cols at_).map (fun l => wrapN (iv (l.map (fun x => sextN x 32))) 32)) vs))
    else
      let (cs, r) := roundAll f (rndOf s p.n p.b o.xRnd) ((cols at_).map (fun l => fl (l.map (decElem f))))
      .done (setV (putRnd s p.n p.b r) p.n p.b o.d (vecOut f cs vs))

/-- The first and second of a list of operands. -/
def arg0 {α : Type} (d : α) (l : List α) : α := l.getD 0 d
def arg1 {α : Type} (d : α) (l : List α) : α := l.getD 1 d
def arg2 {α : Type} (d : α) (l : List α) : α := l.getD 2 d

/-- A two-operand elementwise instruction. -/
def vecBin (maj mi : Nat) (fl : V → V → V) (iv : Int → Int → Int) (p : PlyId) (o : IOp) (s : State) : Out :=
  .next (issue maj mi p o s (vecBody p o (fun l => fl (arg0 .nan l) (arg1 .nan l)) (fun l => iv (arg0 0 l) (arg1 0 l)) [o.a, o.b]))

/-- A one-operand elementwise instruction. -/
def vecUn (mi : Nat) (fl : V → V) (iv : Int → Int) (p : PlyId) (o : IOp) (s : State) : Out :=
  .next (issue 26 mi p o s (vecBody p o (fun l => fl (arg0 .nan l)) (fun l => iv (arg0 0 l)) [o.a]))

/-- Whether a value is negative or a negative zero. -/
def V.isNeg : V → Bool
  | .nan => false
  | .inf s => s
  | .num s _ _ => s

/-- IEEE 754 maximum: NaN where either is NaN, +0 above −0. -/
def vMax (a b : V) : V :=
  if a.isNan || b.isNan then .nan
  else if a.lt b then b else if b.lt a then a else if a.isNeg then b else a
/-- IEEE 754 minimum. -/
def vMin (a b : V) : V :=
  if a.isNan || b.isNan then .nan
  else if a.lt b then a else if b.lt a then b else if a.isNeg then a else b

/-- Table 3-16: vD[i] := vA[i] + vB[i]. -/
def execVadd (p : PlyId) (o : IOp) (s : State) : Out := vecBin 24 0 V.add (fun a b => a + b) p o s
/-- Table 3-16: vD[i] := vA[i] − vB[i]. -/
def execVsub (p : PlyId) (o : IOp) (s : State) : Out := vecBin 24 1 V.sub (fun a b => a - b) p o s
/-- Table 3-16: vD[i] := vA[i] × vB[i]. -/
def execVmul (p : PlyId) (o : IOp) (s : State) : Out := vecBin 24 2 V.mul (fun a b => a * b) p o s
/-- Table 3-16: vD[i] := the larger of vA[i] and vB[i]. -/
def execVmax (p : PlyId) (o : IOp) (s : State) : Out := vecBin 24 3 vMax max p o s
/-- Table 3-16: vD[i] := the smaller of vA[i] and vB[i]. -/
def execVmin (p : PlyId) (o : IOp) (s : State) : Out := vecBin 24 4 vMin min p o s
/-- Table 3-16: vD[i] := vD[i] + vA[i] × vB[i], fused. -/
def execVfma (p : PlyId) (o : IOp) (s : State) : Out :=
  .next (issue 25 0 p o s (vecBody p o (fun l => (arg0 .nan l).add ((arg1 .nan l).mul (arg2 .nan l)))
    (fun l => arg0 0 l + arg1 0 l * arg2 0 l) [o.d, o.a, o.b]))
/-- Table 3-16: the absolute value. -/
def execVabs (p : PlyId) (o : IOp) (s : State) : Out := vecUn 0 V.abs (fun a => a.natAbs) p o s
/-- Table 3-16: the negation. -/
def execVneg (p : PlyId) (o : IOp) (s : State) : Out := vecUn 1 V.neg (fun a => -a) p o s
/-- Table 3-16: max(vA[i], 0), NaN kept. -/
def execVrelu (p : PlyId) (o : IOp) (s : State) : Out := vecUn 2 (vMax .zero) (fun a => max a 0) p o s

/-! ## Transcendentals -/

/-- The largest `r` below `2^(k+1)` with `r² ≤ n`, found bit by bit above `r`. -/
def isqrtFrom (n : Nat) : Nat → Nat → Nat
  | 0, r => if (r + 1) * (r + 1) ≤ n then r + 1 else r
  | k + 1, r => isqrtFrom n k (if (r + 2 ^ (k + 1)) * (r + 2 ^ (k + 1)) ≤ n then r + 2 ^ (k + 1) else r)

/-- The integer square root. -/
def isqrt (n : Nat) : Nat := isqrtFrom n (Nat.log2 n / 2) 0

/-- 1 / x, truncated far below the precision of F32. -/
def vRcp : V → V
  | .nan => .nan
  | .inf s => .num s 0 0
  | .num s m e => if m = 0 then .inf s else .num s (2 ^ 200 / m) (-e - 200)

/-- 1 / √x, truncated far below the precision of F32. -/
def vRsqrt : V → V
  | .nan => .nan
  | .inf s => if s then .nan else .num false 0 0
  | .num s m e =>
    if m = 0 then .inf s
    else if s then .nan
    else
      let odd := (e % 2).toNat
      .num false (isqrt (2 ^ 400 / (m * 2 ^ odd))) (-((e - (odd : Int)) / 2) - 200)

/-- 2^f for a fraction `f` in units of 2^-160, in units of 2^-192: one factor 2^(2^-i) per bit of `f`. -/
def exp2Frac (f : Nat) : Nat → Nat → Nat → Nat
  | 0, _, acc => acc
  | k + 1, c, acc =>
    let c := isqrt (c * 2 ^ 192)
    exp2Frac f k c (if bitN f k = 1 then acc * c / 2 ^ 192 else acc)

/-- 2^x, truncated far below the precision of F32. -/
def vExp2 : V → V
  | .nan => .nan
  | .inf s => if s then .num false 0 0 else .inf false
  | .num s m e =>
    if 12 ≤ (V.num false m e).log2 ∧ m ≠ 0 then (if s then .num false 0 0 else .inf false)
    else
      let u := vUnits s (if e < -160 then m / 2 ^ (-160 - e).toNat else m) (max e (-160)) (-160)
      let n := u / 2 ^ 160
      if 200 < n then .inf false
      else if n < -400 then .num false 0 0
      else .num false (exp2Frac (u % 2 ^ 160).toNat 160 (2 * 2 ^ 192) (2 ^ 192)) (n - 192)

/-- Fraction bits of log2 y, y in [1, 2) in units of 2^-256: one bit per squaring. -/
def log2Frac : Nat → Nat → Nat → Nat
  | 0, _, acc => acc
  | k + 1, y, acc =>
    let y := y * y / 2 ^ 256
    if 2 ^ 257 ≤ y then log2Frac k (y / 2) (2 * acc + 1) else log2Frac k y (2 * acc)

/-- log2 x, truncated far below the precision of F32. -/
def vLog2 : V → V
  | .nan => .nan
  | .inf s => if s then .nan else .inf false
  | .num s m e =>
    if m = 0 then .inf true
    else if s then .nan
    else
      let l := Nat.log2 m
      let fr := log2Frac 96 (m * 2 ^ 256 / 2 ^ l) 0
      vInt (((l : Int) + e) * 2 ^ 96 + fr) (-96)

/-- R107: the result of a transcendental whose truncated exact value is `v`, off by at most the error that the spec allows:
`k` is the free choice (assumption 4), in F32 from 1 ulp below to 2 above, in F16 0 or 1 above the truncated value. -/
def withError (f : Fmt) (v : V) (k : Nat) : Nat :=
  match v with
  | .num .. =>
    let x := encFloat f v
    let sb := 2 ^ (f.bits - 1)
    let top := if f = .f16 then 0x7C00 else 0x7F800000
    let m := x % sb
    let m' := if f = .f16 then m + k % 2 else m + k % 4 - 1
    x / sb * sb + min m' top
  | _ => encFloat f v

/-- The generator after one rounded element per finite result. -/
def drawAll (r : Rg) : List V → Rg
  | [] => r
  | .num .. :: t => drawAll r.draw.2 t
  | _ :: t => drawAll r t

/-- R107: a transcendental instruction. -/
def vecTrans (mi : Nat) (fn : V → V) (p : PlyId) (o : IOp) (s : State) : Out :=
  .next (issue 26 mi p o s (fun s =>
    match o.xFmt with
    | none => .hold
    | some f =>
      let v := getV s p.n p.b o.a
      let vs := (v.all f).map (fun x => fn (decElem f x))
      let cs := List.zipWith (fun x i => withError f x (Config.freeValue (s.draws + i)).toNat) vs (List.range (elemsOf f))
      let s := putRnd { s with draws := s.draws + elemsOf f } p.n p.b (drawAll (rndOf s p.n p.b o.xRnd) vs)
      .done (setV s p.n p.b o.d (vecOut f cs [v]))))

/-- Table 3-16: reciprocal. -/
def execVrcp (p : PlyId) (o : IOp) (s : State) : Out := vecTrans 8 vRcp p o s
/-- Table 3-16: reciprocal square root. -/
def execVrsqrt (p : PlyId) (o : IOp) (s : State) : Out := vecTrans 9 vRsqrt p o s
/-- Table 3-16: base-2 exponential. -/
def execVexp2 (p : PlyId) (o : IOp) (s : State) : Out := vecTrans 10 vExp2 p o s
/-- Table 3-16: base-2 logarithm. -/
def execVlog2 (p : PlyId) (o : IOp) (s : State) : Out := vecTrans 11 vLog2 p o s

/-! ## Compare, select, move -/

/-- An element of a register as a value; poisoned I32 blocks read as NaN, so that a compare with one is false. -/
def cmpVal (v : VReg) (f : Fmt) (i : Nat) : V :=
  if f = .i32 ∧ v.blockPoison .i32 0 then .nan else decElem f ((v.data / 2 ^ (f.bits * i)) % 2 ^ f.bits)

/-- R107: a compare to a mask of all ones or zeros. -/
def vecCmp (mi : Nat) (c : V → V → Bool) (p : PlyId) (o : IOp) (s : State) : Out :=
  .next (issue 27 mi p o s (fun s =>
    match o.xFmt with
    | none => .hold
    | some f =>
      let a := getV s p.n p.b o.a
      let b := getV s p.n p.b o.b
      .done (setV s p.n p.b o.d (vecOut f
        ((List.range (elemsOf f)).map (fun i => if c (cmpVal a f i) (cmpVal b f i) then 2 ^ f.bits - 1 else 0)) [a, b]))))

/-- Table 3-16: all ones where vA[i] = vB[i]. -/
def execVcmpEq (p : PlyId) (o : IOp) (s : State) : Out := vecCmp 0 V.eq p o s
/-- Table 3-16: all ones where vA[i] < vB[i]. -/
def execVcmpLt (p : PlyId) (o : IOp) (s : State) : Out := vecCmp 1 V.lt p o s
/-- Table 3-16: all ones where vA[i] ≤ vB[i]. -/
def execVcmpLe (p : PlyId) (o : IOp) (s : State) : Out := vecCmp 2 (fun a b => a.lt b || a.eq b) p o s

/-- R107: an instruction that moves element codes: the output's codes from the state, its source registers. -/
def vecMove (maj mi : Nat) (codes : State → Fmt → List Nat) (srcs : List (Fin 32)) (p : PlyId) (o : IOp) (s : State) : Out :=
  .next (issue maj mi p o s (fun s =>
    match o.xFmt with
    | none => .hold
    | some f => .done (setV s p.n p.b o.d (vecOut f (codes s f) (srcs.map (fun (i : Fin 32) => getV s p.n p.b i.val))))))

/-- Table 3-16: vD[i] := vA[i] where vB[i] ≠ 0. -/
def execVsel (p : PlyId) (o : IOp) (s : State) : Out :=
  vecMove 27 3 (fun s f =>
    let a := (getV s p.n p.b o.a).all f
    let b := (getV s p.n p.b o.b).all f
    let d := (getV s p.n p.b o.d).all f
    List.zipWith (fun x q => if (decElem f x).isZero then q.2 else q.1) b (List.zip a d)) [o.a, o.b, o.d] p o s

/-- Table 3-16: copies data and side-band. -/
def execVmov (p : PlyId) (o : IOp) (s : State) : Out :=
  .next (issue 28 0 p o s (fun s => .done (setV s p.n p.b o.d (getV s p.n p.b o.a))))

/-- Table 3-16: every element := low bits of sA. -/
def execVbcast (p : PlyId) (o : IOp) (s : State) : Out :=
  vecMove 28 1 (fun s f => List.replicate (elemsOf f) ((getS s p o.a).toNat % 2 ^ f.bits)) [] p o s

/-- Table 3-16: vD[IDX] := low bits of sA; the other elements, and the side-band of the other blocks, stay. -/
def execVins (p : PlyId) (o : IOp) (s : State) : Out :=
  .next (issue 28 2 p o s (fun s =>
    match o.xFmt with
    | none => .hold
    | some f =>
      let v := getV s p.n p.b o.d
      let v' := { v with data := putN v.data (f.bits * o.vIdx) f.bits (getS s p o.a).toNat }
      let j := o.vIdx / 16
      let pz := if f = .i32 then bitN v.poison j == 1 else (v'.codes f j).any (isNanCode f)
      .done (setV s p.n p.b o.d { (v'.putScale j 0x7F) with poison := putN v.poison j 1 (b2n pz) })))

/-- Table 3-16: sD := vA[IDX], sign-extended in I32, a zero-extended pattern otherwise. -/
def execVext (p : PlyId) (o : IOp) (s : State) : Out :=
  .next (issue 28 3 p o s (fun s =>
    match o.xFmt with
    | none => .hold
    | some f =>
      let x := ((getV s p.n p.b o.a).data / 2 ^ (f.bits * o.vIdx)) % 2 ^ f.bits
      .done (setS s p o.d (if f = .i32 then BitVec.ofInt 64 (sextN x 32) else BitVec.ofNat 64 x))))

/-- Table 3-16: vD[i] := vA[vB[i] mod n]; every output block takes the flags ORed over all blocks of vA. -/
def execVperm (p : PlyId) (o : IOp) (s : State) : Out :=
  .next (issue 29 0 p o s (fun s =>
    match o.xFmt with
    | none => .hold
    | some f =>
      let a := getV s p.n p.b o.a
      let xs := a.all f
      let cs := ((getV s p.n p.b o.b).all f).map (fun i => xs.getD (i % elemsOf f) 0)
      let any (m : Nat) : Nat := if m % 2 ^ f.blocks = 0 then 0 else 2 ^ f.blocks - 1
      .done (setV s p.n p.b o.d ⟨packElems f.bits cs, scaleOnes, any a.sat, any a.esc, any a.poison⟩)))

/-- R107: one level of a pairwise tree. -/
def pairUp {α : Type} (g : α → α → α) : List α → List α
  | a :: b :: t => g a b :: pairUp g t
  | l => l

/-- R107: a pairwise tree in element order. -/
def treeFold {α : Type} (g : α → α → α) : Nat → List α → List α
  | 0, l => l
  | k + 1, l => treeFold g k (pairUp g l)

/-- R107: a reduction: floats in F32 rounded to nearest even at each node, I32 in 32 bits. -/
def vecRed (mi : Nat) (fl : V → V → V) (iv : Int → Int → Int) (p : PlyId) (o : IOp) (s : State) : Out :=
  .next (issue 29 mi p o s (fun s =>
    match o.xFmt with
    | none => .hold
    | some f =>
      let xs := (getV s p.n p.b o.a).all f
      if f = .i32 then
        let l := treeFold (fun a b => sextN (wrapN (iv a b) 32) 32) 5 (xs.map (fun x => sextN x 32))
        .done (setS s p o.d (BitVec.ofInt 64 (l.getD 0 0)))
      else
        let l := treeFold (fun a b => (roundF32 ⟨0, false⟩ (fl a b)).1) 5 (xs.map (decElem f))
        .done (setS s p o.d (BitVec.ofNat 64 (encFloat .f32 (l.getD 0 .nan))))))

/-- Table 3-16: sD := the tree sum of vA. -/
def execVredAdd (p : PlyId) (o : IOp) (s : State) : Out := vecRed 1 V.add (fun a b => a + b) p o s
/-- Table 3-16: sD := the tree maximum of vA. -/
def execVredMax (p : PlyId) (o : IOp) (s : State) : Out := vecRed 2 vMax max p o s

/-- R107: a bitwise operation on 512 bits; the side-band of vA is copied. -/
def vecBits (mi : Nat) (g : Nat → Nat → Nat) (p : PlyId) (o : IOp) (s : State) : Out :=
  .next (issue 30 mi p o s (fun s =>
    let a := getV s p.n p.b o.a
    .done (setV s p.n p.b o.d { a with data := g a.data (getV s p.n p.b o.b).data % 2 ^ 512 })))

/-- Table 3-16: bitwise and. -/
def execVand (p : PlyId) (o : IOp) (s : State) : Out := vecBits 0 (fun a b => a &&& b) p o s
/-- Table 3-16: bitwise or. -/
def execVor (p : PlyId) (o : IOp) (s : State) : Out := vecBits 1 (fun a b => a ||| b) p o s
/-- Table 3-16: bitwise exclusive or. -/
def execVxor (p : PlyId) (o : IOp) (s : State) : Out := vecBits 2 (fun a b => a ^^^ b) p o s
/-- Table 3-16: bitwise not of vA. -/
def execVnot (p : PlyId) (o : IOp) (s : State) : Out := vecBits 3 (fun a _ => 2 ^ 512 - 1 - a) p o s

/-! ## Precision (R108, R109) -/

/-- R108: the values of a source block. In a float-to-float conversion each element carries its own NaN; otherwise every element
of a poisoned block is NaN. -/
def cvtVals (v : VReg) (d f : Fmt) (j : Nat) : List V :=
  let fl (x : Fmt) : Bool := x == .f16 || x == .f32
  if fl f && fl d then (v.codes f j).map (decElem f) else v.values f j

/-- R108: convert `k` blocks from block `i` of `v` to block `j` of the destination. -/
def cvtBlocks (v : VReg) (d f : Fmt) : Nat → Nat → Nat → Rg → VReg → List Blk → VReg × Rg × List Blk
  | 0, _, _, r, w, ks => (w, r, ks)
  | n + 1, i, j, r, w, ks =>
    let (k, r') := encBlock d r (cvtVals v d f i)
    let k := { k with poison := k.poison || bitN v.poison i == 1 }
    cvtBlocks v d f n (i + 1) (j + 1) r' (w.putBlk d j k (bitN v.sat i == 1) (bitN v.esc i == 1)) (ks ++ [k])

/-- R108: cvt. Every format's register capacity is a whole number of blocks, so blocks move one to one. -/
def execCvt (p : PlyId) (o : IOp) (s : State) : Out :=
  .next (issue 50 0 p o s (fun s =>
    match o.cD, o.cS with
    | some d, some f =>
      let v := getV s p.n p.b o.a
      let nb := min f.blocks d.blocks
      let src := if d.blocks ≤ f.blocks then o.cPart * nb else 0
      let dst := if d.blocks ≤ f.blocks then 0 else o.cPart * nb
      let (w, r, ks) := cvtBlocks v d f nb src dst (rndOf s p.n p.b o.cRnd) (getV s p.n p.b o.d) []
      let bad := if f = .t2 then malformed ((List.range nb).map (fun i => v.codes f (src + i))).flatten else 0
      let s := countBlks (putRnd (setV s p.n p.b o.d w) p.n p.b r) p.n p.b (if d.narrow then ks else [])
      .done (if bad = 0 then s else addF s (CD_BK_SGCNT2_MALFORMED p.n p.b) bad)
    | _, _ => .hold))

/-- R109: adjust the scale of block `j`, and the blocks below it. -/
def sclBlocks (f : Fmt) (mask : Nat) (amt : Int) : Nat → VReg → Nat → Nat → VReg × Nat × Nat
  | 0, v, hi, lo => (v, hi, lo)
  | j + 1, v, hi, lo =>
    if bitN mask j = 1 ∧ ¬ v.blockPoison f j then
      let c : Int := v.scaleOf j + amt
      if 0xFE < c then sclBlocks f mask amt j { (v.putScale j 0xFE) with sat := putN v.sat j 1 1 } (hi + 1) lo
      else if c < 0 then sclBlocks f mask amt j (v.putScale j 0) hi (lo + 1)
      else sclBlocks f mask amt j (v.putScale j c.toNat) hi lo
    else sclBlocks f mask amt j v hi lo

/-- R109: scl. -/
def execScl (p : PlyId) (o : IOp) (s : State) : Out :=
  .next (issue 51 0 p o s (fun s =>
    match o.xFmt with
    | none => .hold
    | some f =>
      let (v, hi, lo) := sclBlocks f (o.bits 23 8) (sextN (o.bits 7 0) 8) f.blocks (getV s p.n p.b o.d) 0 0
      let s := setV s p.n p.b o.d v
      let s := if hi = 0 then s else addF s (CD_BK_SGCNT0_SAT_NARROW p.n p.b) hi
      .done (if lo = 0 then s else addF s (CD_BK_SGCNT0_UNDER_NARROW p.n p.b) lo)))

end Sys2Proof.Machine
end

