-- ==== Sys2Proof/Machine/Message.lean ====
section
/-! DEFINITION. Places, the vertex table and directory, the message engine, its instructions and the performing of messages
(R119-R134; Tables 4-1 to 4-6). -/
namespace Sys2Proof.Machine

/-! ## Places (Table 4-1) and tags (Table 4-2) -/

def placeIdx (d : Nat) : Nat := d % 2 ^ 16
def placeBrick (d : Nat) : Nat := d / 2 ^ 16 % 2 ^ 9
def placeDie (d : Nat) : Nat := d / 2 ^ 25 % 4
def mkPlace (idx b n : Nat) : Nat := idx % 2 ^ 16 + b % 2 ^ 9 * 2 ^ 16 + n % 4 * 2 ^ 25

/-- R128: the place names a brick of the sender's die or of a die in its span. -/
def placeOk (s : State) (n d : Nat) : Bool := sameSpan s n (placeDie d) && decide (placeBrick d < 384)

/-- Table 4-2: operations of a message tag. -/
def opSend : Nat := 0
def opGather : Nat := 1
def opReply : Nat := 2
def opScatter : Nat := 3

/-- Table 4-2: a tag from its fields. -/
def mkTag (scale sat esc op fmt len tally dest : Nat) : Nat :=
  scale % 2 ^ 64 + sat % 256 * 2 ^ 64 + esc % 256 * 2 ^ 72 + op % 8 * 2 ^ 80 + fmt % 16 * 2 ^ 83 + len % 2 * 2 ^ 87
    + tally % 4 * 2 ^ 88 + dest % 2 ^ 32 * 2 ^ 90

def Msg.scale (m : Msg) (j : Nat) : Nat := bitsN m.tag (8 * j + 7) (8 * j)
def Msg.sat (m : Msg) : Nat := bitsN m.tag 71 64
def Msg.esc (m : Msg) : Nat := bitsN m.tag 79 72
def Msg.op (m : Msg) : Nat := bitsN m.tag 82 80
def Msg.fmt (m : Msg) : Nat := bitsN m.tag 86 83
def Msg.len (m : Msg) : Nat := bitsN m.tag 87 87
def Msg.tally (m : Msg) : Nat := bitsN m.tag 89 88
def Msg.dest (m : Msg) : Nat := bitsN m.tag 121 90
/-- Body bytes. -/
def Msg.bytes (m : Msg) : Nat := 32 * (m.len + 1)

/-- Bytes of one block as it lies in a register or body. -/
def Fmt.regBytes (f : Fmt) : Nat := 2 * f.bits
/-- Blocks that a body of `k` bytes holds; a part of a block counts as one. -/
def bodyBlocks (f : Fmt) (k : Nat) : Nat := max 1 (k / f.regBytes)

/-! ## Sending (R122, R126-R128) -/

/-- R122: outbox entries of a brick: its accepted messages of the request class that still stand there. -/
def outboxCount (s : State) (n b : Nat) : Nat :=
  (s.flights.filter (fun x => x.die == n && x.brick == b && x.at_ == .outbox && x.msg.op != opReply)).length

def pushFlight (s : State) (n b : Nat) (m : Msg) : State := { s with flights := s.flights ++ [⟨n, b, .outbox, m⟩] }

/-- R126: the body and tag that the engine builds from vB. -/
def bodyOf (v : VReg) (f : Fmt) (len sHalf op tally dest : Nat) : Msg :=
  let bytes := 32 * (len + 1)
  let nb := bodyBlocks f bytes
  let first := sHalf * 32 / f.regBytes
  let raw := v.data / 2 ^ (256 * sHalf) % 2 ^ (8 * bytes)
  let pz (j : Nat) : Bool := bitN v.poison (first + j) == 1
  let data :=
    match f with
    | .f16 | .f32 =>
      packElems f.bits ((List.range (bytes * 8 / f.bits)).map (fun i =>
        if pz (i / 16) then poisonNan f else raw / 2 ^ (f.bits * i) % 2 ^ f.bits))
    | _ => raw
  let scale := packElems 8 ((List.range 8).map (fun j =>
    if f.narrow && decide (j < nb) then (if pz j then 0xFF else v.scaleOf (first + j)) else 0x7F))
  let bits (x : Nat) : Nat := x / 2 ^ first % 2 ^ nb
  ⟨data, mkTag scale (bits v.sat) (bits v.esc) op f.code len tally dest⟩

/-- R121: keep the 32 directory entries used most recently. -/
def cacheDir (s : State) (n b : Nat) (v e : Nat) : State :=
  brickMod s n b (fun x => { x with dirCache := ((v, e) :: x.dirCache.filter (fun q => q.1 != v)).take 32 })

/-- R121: the directory entry of a global identifier, from the brick's cache or the bed. -/
def dirEntry (s : State) (n b v : Nat) : Option Nat :=
  match (brickGet s n b).dirCache.find? (fun q => q.1 == v) with
  | some q => some q.2
  | none =>
    let first := getF s (CD_DIR_FIRST_FIRST n)
    let off := getF s (CD_DIR_BASE n) + 4 * (v - first)
    if getF s (CD_DIR_EN n) = 1 ∧ first ≤ v ∧ v < first + getF s (CD_DIR_LEN n) ∧ off + 4 ≤ 2 ^ 27 then
      let e := readLE s (bedPa n off) 4
      if bitN e 31 = 1 then some e else none
    else none

/-- R121, R128: resolve the operand of a message instruction to a place, and go on. -/
def withPlace (s : State) (p : PlyId) (o : IOp) (global : Bool) (k : State → Nat → Body) : Body :=
  let w := (getS s p o.a).toNat
  if global then
    let v := w % 2 ^ 40
    match dirEntry s p.n p.b v with
    | none => .trap 0x11 v false
    | some e => if placeOk s p.n e then k (cacheDir s p.n p.b v e) (e % 2 ^ 27) else .trap 0x11 v false
  else
    let d := if o.mH then w / 2 ^ 32 else w % 2 ^ 32
    if placeOk s p.n d then k s (d % 2 ^ 27) else .trap 0x10 d false

/-- Table 4-7: accept a message into the outbox, or count a step of waiting. -/
def acceptMsg (s : State) (p : PlyId) (m : Msg) : Body :=
  if outboxCount s p.n p.b < 64 then .done (pushFlight s p.n p.b m) else .stall (addF s (CD_ME_STS_OB_STALL p.n p.b) 1)

/-- R126: msend and scadd. -/
def sendBody (maj mi op : Nat) (p : PlyId) (o : IOp) (s : State) : Out :=
  .next (issue maj mi p o s (fun s =>
    match o.xFmt with
    | none => .hold
    | some f =>
      withPlace s p o (mi == 1) (fun s' d =>
        match acceptMsg s' p (bodyOf (getV s p.n p.b o.b) f (b2n o.mLen) (b2n o.mS) op o.mT d) with
        | .stall _ => .stall (addF s (CD_ME_STS_OB_STALL p.n p.b) 1)
        | r => r)))

/-- Table 4-6: msend. -/
def execMsend (p : PlyId) (o : IOp) (s : State) : Out := sendBody 32 0 opSend p o s
/-- Table 4-6: msendg. -/
def execMsendg (p : PlyId) (o : IOp) (s : State) : Out := sendBody 32 1 opSend p o s
/-- Table 4-6: scadd. -/
def execScadd (p : PlyId) (o : IOp) (s : State) : Out := sendBody 34 0 opScatter p o s
/-- Table 4-6: scaddg. -/
def execScaddg (p : PlyId) (o : IOp) (s : State) : Out := sendBody 34 1 opScatter p o s

/-- R128, R130: mgath. The body of the request is the requester's place with the return offset as its IDX. -/
def gatherBody (mi : Nat) (p : PlyId) (o : IOp) (s : State) : Out :=
  .next (issue 33 mi p o s (fun s =>
    withPlace s p o (mi == 1) (fun s' d =>
      let off := getS s p o.b
      let len := b2n o.mLen
      match outOfStore off (32 * (len + 1) + 16) with
      | some x => .trap 2 x false
      | none =>
        if off.toNat % 32 ≠ 0 then .trap 3 off.toNat false
        else
          match acceptMsg s' p ⟨mkPlace (off.toNat / 32) p.b p.n, mkTag 0x7F7F7F7F7F7F7F7F 0 0 opGather 0 len o.mT d⟩ with
          | .stall _ => .stall (addF s (CD_ME_STS_OB_STALL p.n p.b) 1)
          | r => r)))

/-- Table 4-6: mgath. -/
def execMgath (p : PlyId) (o : IOp) (s : State) : Out := gatherBody 0 p o s
/-- Table 4-6: mgathg. -/
def execMgathg (p : PlyId) (o : IOp) (s : State) : Out := gatherBody 1 p o s

/-! ## Tallies (R133) -/

/-- Make `k` arrivals at a knot. -/
def arriveN (s : State) (n h : Nat) : Nat → State
  | 0 => s
  | k + 1 => arriveN (arriveFrom s n h) n h k

/-- R133: add to a tally and make the arrivals that fall due. -/
def tallyAdd (s : State) (n b t k : Nat) : State :=
  let every := getF s (CD_ME_TALLY_EVERY n b t)
  let sum := getF s (CD_ME_TALLY_COUNT n b t) + k
  if every = 0 then setF s (CD_ME_TALLY_COUNT n b t) sum
  else
    let s' := setF s (CD_ME_TALLY_COUNT n b t) (sum % every)
    let s' := if sum / every = 0 then s' else addF s' (CD_ME_TALLY_ARRIVALS n b t) (sum / every)
    arriveN s' n (getF s (CD_ME_TALLY_KNOT n b t)) (sum / every)

/-- Table 4-6: mtadd. -/
def execMtadd (p : PlyId) (o : IOp) (s : State) : Out :=
  .next (issue 38 0 p o s (fun s => .done (tallyAdd s p.n p.b (o.bits 1 0) ((getS s p o.a).toNat % 2 ^ 16))))
/-- Table 4-6: mtrd. -/
def execMtrd (p : PlyId) (o : IOp) (s : State) : Out :=
  .next (issue 38 1 p o s (fun s => .done (setS s p o.d (rd s (CD_ME_TALLY p.n p.b (o.bits 1 0))))))
/-- Table 4-6: vtset writes all fields of a vertex table entry. -/
def execVtset (p : PlyId) (o : IOp) (s : State) : Out :=
  .next (issue 37 0 p o s (fun s =>
    .done (wr s (CD_ME_VT p.n p.b ((getS s p o.a).toNat % 4096)) (getS s p o.b &&& 0xFFFFFFFFFFFFF))))
/-- Table 4-6: vtget. -/
def execVtget (p : PlyId) (o : IOp) (s : State) : Out :=
  .next (issue 37 1 p o s (fun s => .done (setS s p o.d (rd s (CD_ME_VT p.n p.b ((getS s p o.a).toNat % 4096))))))

/-! ## The inbox (R129) -/

/-- R129: the register that an inbox entry fills. -/
def recvReg (m : Msg) : VReg :=
  let body := m.body % 2 ^ (8 * m.bytes)
  match fmtOf m.fmt with
  | none => ⟨body, scaleOnes, m.sat, m.esc, 0⟩
  | some f =>
    let nb := bodyBlocks f m.bytes
    let sc (j : Nat) : Nat := if f.narrow && decide (j < nb) then m.scale j else 0x7F
    let v : VReg := ⟨body, packElems 8 ((List.range 16).map sc), m.sat, m.esc, 0⟩
    let pz (j : Nat) : Bool := (f.narrow && sc j == 0xFF) ||
      ((f == .f16 || f == .f32) && ((v.codes f j).map (decElem f)).any V.isNan)
    { v with poison := bitsFrom pz nb }

/-- R129, R127: give an inbox entry to a ply: its register, and the tag that mtag reads. -/
def takeEntry (s : State) (p : PlyId) (d : Nat) (m : Msg) : State :=
  plyMod (setV s p.n p.b d (recvReg m)) p.n p.b p.q (fun x => { x with lastTag := BitVec.ofNat 64 (m.tag / 2 ^ 64) })

/-- Table 4-6: mrecv takes the oldest entry, or the ply waits for one (R151). -/
def execMrecv (p : PlyId) (o : IOp) (s : State) : Out :=
  .next (issue 36 0 p o s (fun s =>
    match (brickGet s p.n p.b).inbox with
    | m :: t => .done (takeEntry (brickMod s p.n p.b (fun x => { x with inbox := t })) p o.d m)
    | [] =>
      let s := setF s (CD_PLY_STS_STATE p.n p.b p.q) 2
      let s := wr s (CD_PLY_WAIT p.n p.b p.q) 3
      let s := plyMod s p.n p.b p.q (fun x => { x with wait := some ⟨o.d, none⟩ })
      .done (brickMod s p.n p.b (fun x => { x with recvQ := x.recvQ ++ [p.q.val] }))))
/-- Table 4-6: mpoll. -/
def execMpoll (p : PlyId) (o : IOp) (s : State) : Out :=
  .next (issue 36 1 p o s (fun s => .done (setP s p o.d (!(brickGet s p.n p.b).inbox.isEmpty))))
/-- Table 4-6: mtag. -/
def execMtag (p : PlyId) (o : IOp) (s : State) : Out :=
  .next (issue 36 2 p o s (fun s => .done (setS s p o.d (plyGet s p.n p.b p.q).lastTag)))

/-- R151: a waiting ply goes on: its scoreboard entry is released. -/
def wakePly (s : State) (p : PlyId) : State :=
  let s := setF s (CD_PLY_STS_STATE p.n p.b p.q) 1
  let s := wr s (CD_PLY_WAIT p.n p.b p.q) 0
  let s := plyMod s p.n p.b p.q (fun x => { x with wait := none })
  match sbWaitEntry s p.n p.b p.q with
  | some e => sbRelease s p.n p.b e
  | none => s

/-- R129: serve the plies that wait in mrecv, in the order in which they issued it. -/
def serveRecv (s : State) (n : Die) (b : Fin 384) : State :=
  let x := brickGet s n b
  match x.recvQ, x.inbox with
  | q :: qs, m :: t =>
    let p : PlyId := ⟨n, b, Fin.ofNat 4 q⟩
    let d := (((plyGet s n b q).wait).map (·.d)).getD 0
    wakePly (takeEntry (brickMod s n b (fun x => { x with recvQ := qs, inbox := t })) p d m) p
  | _, _ => s

/-! ## Performing messages (R124, R129-R132) -/

/-- Whether flight `k` stands where it can be performed: in the outbox of a brick of its destination die, or past that die's
gateway. -/
def atDest (x : Flight) : Bool :=
  match x.at_ with
  | .outbox => x.die == placeDie x.msg.dest
  | .gateway g => g == placeDie x.msg.dest

/-- The class of a message (R124): replies, or requests. -/
def sameClass (a c : Msg) : Bool := (a.op == opReply) == (c.op == opReply)

/-- R124: messages of one class from one brick to one destination are performed in the order in which they issued. -/
def inOrder (l : List Flight) (k : Nat) (x : Flight) : Bool :=
  !(l.take k).any (fun y => y.die == x.die && y.brick == x.brick && sameClass y.msg x.msg
    && placeDie y.msg.dest == placeDie x.msg.dest && placeBrick y.msg.dest == placeBrick x.msg.dest)


/-- The flight of index `k` when it can be performed now as operation `op`. -/
def performable (s : State) (op k : Nat) : Option Flight :=
  match s.flights[k]? with
  | some x => if x.msg.op = op ∧ atDest x ∧ inOrder s.flights k x ∧ !pkgSafe s then some x else none
  | none => none

def dropFlight (s : State) (k : Nat) : State := { s with flights := listDel s.flights k }

/-- R132: an invalid destination at a brick: flag, count, class C fault naming the brick and the tag. -/
def badDest (s : State) (n b : Nat) (m : Msg) : State :=
  reportCh (satF (flag s (CD_ME_STS_BAD_DEST n b)) (CD_ME_STS_BAD_CNT n b) 1) 0x0302 n (0x400 + b) b m.tag

/-- R120: a record as the vertex table describes it: format, address and bytes of its element array, address of its scale bytes,
blocks of the element array, whether flag bytes follow them. -/
structure Rec where
  fmt : Fmt
  addr : Nat
  bytes : Nat
  side : Nat
  blocks : Nat
  flags : Bool
  deriving DecidableEq, Repr

/-- R120: bytes of the element array of a packed record. -/
def packedBytes (f : Fmt) (stride : Nat) : Nat :=
  match f with
  | .n4 | .n8 => if 64 + 2 * (64 / f.blockBytes) ≤ 32 * stride then 64 else 32
  | _ => 32 * stride

/-- R120, R132: the record of a local vertex index, none where the destination is invalid. -/
def recordOf (s : State) (n b idx : Nat) : Option Rec :=
  let e := idx / 16
  let m := idx % 16
  let stride := getF s (CD_ME_VT_STRIDE n b e)
  let sep := getF s (CD_ME_VT_SEP n b e) = 1
  let noflag := getF s (CD_ME_VT_NOFLAG n b e)
  let addr := 32 * getF s (CD_ME_VT_BASE n b e) + 32 * stride * m
  match fmtOf (getF s (CD_ME_VT_RFMT n b e)) with
  | none => none
  | some f =>
    let nw := f = .n4 ∨ f = .n8
    let ok := getF s (CD_ME_VT_VALID n b e) = 1 ∧ m ≤ getF s (CD_ME_VT_LAST n b e) ∧ stride ≠ 0
      ∧ (nw ∨ (¬ sep ∧ (f = .f16 ∨ f = .f32 ∨ f = .raw))) ∧ addr + 32 * stride ≤ 0x100000
    if ok ∧ !(brickGet s n b).swapped then
      if sep then
        let nb := 32 * stride / f.blockBytes
        let side := 4 * getF s (CD_ME_VT_SBASE n b e) + m * nb * (2 - noflag)
        if side + nb * (2 - noflag) ≤ 0x100000 then some ⟨f, addr, 32 * stride, side, nb, noflag == 0⟩ else none
      else
        let bytes := packedBytes f stride
        let nb := if nw then bytes / f.blockBytes else 0
        if bytes + 2 * nb ≤ 32 * stride then some ⟨f, addr, bytes, addr + bytes, nb, true⟩ else none
    else none

/-- One byte of the store of a brick. -/
def bkByte (s : State) (n b off : Nat) : Nat := readLE s (storePa n b off) 1

/-- R120: scale and flag byte of block `j` of a record; without flag bytes, POISON comes from the scale code. -/
def recScale (s : State) (n b : Nat) (r : Rec) (j : Nat) : Nat := bkByte s n b (r.side + j)
def recFlag (s : State) (n b : Nat) (r : Rec) (j : Nat) : Nat :=
  if r.flags then bkByte s n b (r.side + r.blocks + j) else if recScale s n b r j = 0xFF then 4 else 0

/-- R130: the reply to a gather request: element bytes, then scale and flag bytes; FMT 0xF where the record is invalid. -/
def gatherReply (s : State) (n b : Nat) (m : Msg) : Option Msg :=
  match recordOf s n b (placeIdx m.dest) with
  | none => none
  | some r =>
    if r.bytes < m.bytes then none
    else
      let nb := if r.blocks = 0 then 0 else m.bytes / r.fmt.blockBytes
      let el := readLE s (storePa n b r.addr) m.bytes
      let sc := (List.range nb).map (recScale s n b r)
      let fl := (List.range nb).map (recFlag s n b r)
      some ⟨el + 2 ^ (8 * m.bytes) * packElems 8 (sc ++ fl),
        mkTag (packElems 8 (sc ++ List.replicate (8 - nb) 0x7F)) (packElems 1 (fl.map (fun x => bitN x 0)))
          (packElems 1 (fl.map (fun x => bitN x 1))) opReply r.fmt.code m.len m.tally (m.body % 2 ^ 32)⟩

/-- R130: GATHER_REQUEST: message `k` is performed at the brick that holds the record. -/
def execGatherRequest (k : Nat) (s : State) : Out :=
  .next (match performable s opGather k with
    | none => s
    | some x =>
      let n := placeDie x.msg.dest
      let b := placeBrick x.msg.dest
      let s := dropFlight s k
      match gatherReply s n b x.msg with
      | some m => pushFlight s n b m
      | none => pushFlight (badDest s n b x.msg) n b ⟨0, mkTag 0 0 0 opReply 0xF x.msg.len x.msg.tally (x.msg.body % 2 ^ 32)⟩)

/-- R130: GATHER_REPLY: message `k` is performed at the requester. -/
def execGatherReply (k : Nat) (s : State) : Out :=
  .next (match performable s opReply k with
    | none => s
    | some x =>
      let n := placeDie x.msg.dest
      let b := placeBrick x.msg.dest
      let s := dropFlight s k
      let off := 32 * placeIdx x.msg.dest
      let nb := match fmtOf x.msg.fmt with
        | some f => if f = .n4 ∨ f = .n8 then x.msg.bytes / f.blockBytes else 0
        | none => 0
      let s := if x.msg.fmt = 0xF then flag s (CD_ME_STS_BAD_DEST n b)
        else writeLE s (storePa n b off) (x.msg.bytes + 2 * nb) x.msg.body
      tallyAdd s n b x.msg.tally 1)

/-- R129: SEND_PERFORMED: message `k` enters the inbox of its brick, when that has room. -/
def execSendPerformed (k : Nat) (s : State) : Out :=
  .next (match performable s opSend k with
    | none => s
    | some x =>
      let n : Die := Fin.ofNat 4 (placeDie x.msg.dest)
      let b : Fin 384 := Fin.ofNat 384 (placeBrick x.msg.dest)
      if (brickGet s n b).swapped then badDest (dropFlight s k) n b x.msg
      else if (brickGet s n b).inbox.length < 256 then
        let s := brickMod (dropFlight s k) n b (fun y => { y with inbox := y.inbox ++ [x.msg] })
        let s := if getF s (CD_ME_CTL_IBK_EN n b) = 1 then arriveFrom s n (getF s (CD_ME_CTL_IBK n b)) else s
        serveRecv (tallyAdd s n b x.msg.tally 1) n b
      else s)

/-! ## Scatter-add (R131, R132) -/

/-- R131: the allowed pairs of body and record format. -/
def scaddPair : Fmt → Fmt → Bool
  | .n4, .n4 | .n4, .n8 | .n4, .f16 | .n4, .f32 => true
  | .n8, .n8 | .n8, .f16 | .n8, .f32 => true
  | .f16, .f16 | .f16, .f32 | .f32, .f32 => true
  | _, _ => false

/-- The exact values of a message body; a block of scale 0xFF, or one that holds a NaN, is poisoned, and every element of it is NaN (R79, R131). -/
def bodyVals (m : Msg) (f : Fmt) : List V :=
  let cs := unpackElems f.bits (m.bytes * 8 / f.bits) m.body
  let vs := (List.zip cs (List.range cs.length)).map (fun q =>
    if f.narrow then
      if m.scale (q.2 / 16) = 0xFF then .nan else (decElem f q.1).scale ((m.scale (q.2 / 16) : Int) - 127)
    else decElem f q.1)
  (List.zip vs (List.range vs.length)).map (fun q => if ((vs.drop (16 * (q.2 / 16))).take 16).any V.isNan then .nan else q.1)

/-- R131: the block of 16 values of a narrow record. -/
def recVals (s : State) (n b : Nat) (r : Rec) (j : Nat) : List V :=
  let cs := unpackElems r.fmt.bits 16 (readLE s (storePa n b (r.addr + j * r.fmt.blockBytes)) r.fmt.blockBytes)
  let sc := recScale s n b r j
  if sc = 0xFF ∨ bitN (recFlag s n b r j) 2 = 1 then cs.map (fun _ => .nan)
  else cs.map (fun c => (decElem r.fmt c).scale ((sc : Int) - 127))

/-- R131: write block `j` of a narrow record. -/
def putRecBlk (s : State) (n b : Nat) (r : Rec) (j : Nat) (k : Blk) (sat esc : Bool) : State :=
  let s := writeLE s (storePa n b (r.addr + j * r.fmt.blockBytes)) r.fmt.blockBytes (packElems r.fmt.bits k.codes)
  let old := recFlag s n b r j
  let s := writeLE s (storePa n b (r.side + j)) 1 k.scale
  if r.flags then
    writeLE s (storePa n b (r.side + r.blocks + j)) 1
      (b2n (sat || k.sat || bitN old 0 == 1) + 2 * b2n (esc || bitN old 1 == 1) + 4 * b2n (k.poison || bitN old 2 == 1))
  else s

/-- R131: add body blocks into a narrow record, block by block. -/
def scaddNarrow (n b : Nat) (r : Rec) (m : Msg) (stoch : Bool) : State → Nat → List (List V) → State
  | s, _, [] => s
  | s, j, xs :: t =>
    let (k, g) := narrowBlock r.fmt ⟨getF s (CD_BK_SEED_STATE n b), stoch⟩ (List.zipWith V.add (recVals s n b r j) xs)
    let s := countBlk (putRnd (putRecBlk s n b r j k (bitN m.sat j == 1) (bitN m.esc j == 1)) n b g) n b k
    scaddNarrow n b r m stoch s (j + 1) t

/-- R131: add into an F16 or F32 record: one rounding for each element. -/
def scaddFloat (s : State) (n b : Nat) (r : Rec) (xs : List V) (stoch : Bool) : State :=
  let w := r.fmt.bits / 8
  let old := (List.range xs.length).map (fun i => decFloat r.fmt (readLE s (storePa n b (r.addr + w * i)) w))
  let (ys, g) := encFloatAll r.fmt ⟨getF s (CD_BK_SEED_STATE n b), stoch⟩ (List.zipWith V.add old xs)
  putRnd (writeLE s (storePa n b r.addr) (w * xs.length) (packElems r.fmt.bits ys)) n b g

/-- R132, R69: poison a record: every block of scale 0xFF with elements 0 and POISON set, or every element the canonical poison NaN; a RAW record
stays. -/
def poisonRec (s : State) (n b : Nat) (r : Rec) : State :=
  match r.fmt with
  | .n4 | .n8 =>
    let s := writeLE s (storePa n b r.addr) r.bytes 0
    let s := writeLE s (storePa n b r.side) r.blocks (2 ^ (8 * r.blocks) - 1)
    if r.flags then
      writeLE s (storePa n b (r.side + r.blocks)) r.blocks
        (packElems 8 ((List.range r.blocks).map (fun j => putN (recFlag s n b r j) 2 1 1)))
    else s
  | .f16 | .f32 =>
    writeLE s (storePa n b r.addr) r.bytes (packElems r.fmt.bits (List.replicate (r.bytes * 8 / r.fmt.bits) (poisonNan r.fmt)))
  | _ => s

/-- R131, R132: perform a scatter-add in its destination brick, without the count on its tally. -/
def scatter (s : State) (n b : Nat) (m : Msg) : State :=
  match recordOf s n b (placeIdx m.dest), fmtOf m.fmt with
  | some r, some f =>
    if r.bytes * 8 / r.fmt.bits < m.bytes * 8 / f.bits then badDest s n b m
    else if !scaddPair f r.fmt then badDest (poisonRec s n b r) n b m
    else
      let stoch := getF s (CD_BK_ARITH_RND n b) == 1
      let xs := bodyVals m f
      let marks := m.sat != 0 || m.esc != 0
      if r.fmt.narrow then
        let s := scaddNarrow n b r m stoch s 0 (chunk16 (xs.length / 16) xs)
        if marks && !r.flags then flag s (CD_ME_STS_ESC_IN n b) else s
      else
        let s := scaddFloat s n b r xs stoch
        if marks then flag s (CD_ME_STS_ESC_IN n b) else s
  | _, _ => badDest s n b m

/-- R131: SCATTER_ADD: message `k` is performed at its destination and counted. -/
def execScatterAdd (k : Nat) (s : State) : Out :=
  .next (match performable s opScatter k with
    | none => s
    | some x =>
      let n := placeDie x.msg.dest
      let b := placeBrick x.msg.dest
      tallyAdd (scatter (dropFlight s k) n b x.msg) n b x.msg.tally 1)

/-! ## Inbox stall (R125) -/

/-- Whether a send waits to enter the full inbox of a brick. -/
def inboxStuck (s : State) (n b : Nat) : Bool :=
  (brickGet s n b).inbox.length == 256
  && s.flights.any (fun x => x.msg.op == opSend && atDest x && placeDie x.msg.dest == n && placeBrick x.msg.dest == b)

/-- R125: INBOX_STALL: the inbox of brick `k` has been full for STALL_LIM µs while a send waits to enter it. -/
def execInboxStall (k : BrickId) (s : State) : Out :=
  .next (if inboxStuck s k.n k.b then
      reportCh (flag s (CD_ME_STS_IB_STALL k.n k.b)) 0x0301 k.n (0x400 + k.b) k.b (rd s (CD_ME_STS k.n k.b)).toNat
    else s)

end Sys2Proof.Machine
end

