-- ==== Sys2Proof/Machine/Knot.lean ====
section
/-! DEFINITION. Knots, span knots, the knot instructions and the performing of knot operations and notices (R134, R137-R143). -/
namespace Sys2Proof.Machine

/-! ## Handles and fields (Table 4-8) -/

def isSpanKnot (h : Nat) : Bool := bitN h 13 == 1
def knotDie (h : Nat) : Nat := h / 2 ^ 14 % 4
/-- The register of the knot that a handle names. -/
def knotReg (h : Nat) : Nat := if isSpanKnot h then HP_SKNOT (h % 1024) else CD_KNOT (knotDie h) (h % 4096)

def kCount (h : Nat) : Fld := ⟨knotReg h, 15, 0, 0⟩
def kTarget (h : Nat) : Fld := ⟨knotReg h, 31, 16, 0⟩
def kGen (h : Nat) : Fld := ⟨knotReg h, 47, 32, 0⟩
def kArmed (h : Nat) : Fld := ⟨knotReg h, 48, 48, 0⟩
def kAuto (h : Nat) : Fld := ⟨knotReg h, 49, 49, 0⟩
def kStray (h : Nat) : Fld := ⟨knotReg h, 50, 50, 0⟩
/-- Dies that have a watch registered. -/
def kDies (h : Nat) : Fld :=
  if isSpanKnot h then HP_SKNOT_DIES (h % 1024) else CD_KNOT_WAIT_DIES (knotDie h) (h % 4096)
/-- Courses that have a watch registered; a span knot has none. -/
def kCourses (h : Nat) : Fld := CD_KNOT_WAIT_COURSES (knotDie h) (h % 4096)

/-- R137: whether a handle is valid for a brick of channel n. -/
def handleOk (s : State) (n h : Nat) : Bool :=
  bitN h 12 == 0 &&
  (if isSpanKnot h then knotDie h == 0 && bitsN h 11 10 == 0 && spanOf s n != 0
   else sameSpan s n (knotDie h))

/-- The knot engine that a handle names: 0-63 for the engines of the dies, 64 for the hub's. -/
def engineOf (h : Nat) : Nat := if isSpanKnot h then 64 else 16 * knotDie h + bitsN h 11 8

/-! ## Knot engines (R138-R143) -/

/-- R143: mirror the SPAN and GEN of a span knot in the bed of every ACTIVE die. -/
def mirrorSk (s : State) (h : Nat) : State :=
  if isSpanKnot h then
    let i := h % 1024
    let v := getF s (HP_SKNOT_SPAN i) + 4 * getF s (HP_SKNOT_GEN i)
    (List.range 4).foldl (fun s n =>
      if getF s (CH_DIE_STS_STATE n) = 3 then dieMod s n (fun x => { x with skMirror := tabSet (fun _ => 0) x.skMirror i v })
      else s) s
  else s

/-- R138, R140: send a notice to every course and die that has a watch registered, and clear their bits. -/
def notify (s : State) (h : Nat) (kind : NKind) : State :=
  let g := getF s (kGen h)
  let cs := if isSpanKnot h then [] else (List.range 16).filter (fun c => bitN (getF s (kCourses h)) c == 1)
  let ds := (List.range 4).filter (fun d => bitN (getF s (kDies h)) d == 1)
  let out := cs.map (fun c => (⟨.course (knotDie h) c, h, kind, g, 0, 0⟩ : Notice)) ++ ds.map (fun d => ⟨.die d, h, kind, g, 0, 0⟩)
  let s := { s with notices := s.notices ++ out }
  let s := if isSpanKnot h then s else setF s (kCourses h) 0
  setF s (kDies h) 0

/-- R246: each fire of a span knot that an enabled trigger names passes to the interposer controller. -/
def passFire (s : State) (h : Nat) : State :=
  if isSpanKnot h then
    let ts := (List.range 16).filter (fun t => getF s (PI_STEER_TRIG_EN t) == 1 && getF s (PI_STEER_TRIG_KNOT t) == h % 1024)
    { s with opt := { s.opt with fires := s.opt.fires ++ ts } }
  else s

/-- R138: a knot fires. -/
def fireKnot (s : State) (h : Nat) : State :=
  let s := mirrorSk (addF (passFire s h) (kGen h) 1) h
  let s := if getF s (kAuto h) = 1 then setF s (kCount h) (getF s (kTarget h)) else setF s (kArmed h) 0
  notify s h .fire

/-- R138: an arrival. -/
def arriveAt (s : State) (h : Nat) : State :=
  if getF s (kArmed h) = 0 then flag s (kStray h)
  else if getF s (kCount h) ≤ 1 then fireKnot (setF s (kCount h) 0) h
  else setF s (kCount h) (getF s (kCount h) - 1)

/-- R138: a signal. -/
def signalAt (s : State) (h : Nat) : State := if getF s (kArmed h) = 0 then flag s (kStray h) else fireKnot s h

/-- Table 4-9: karm. -/
def armAt (s : State) (h target : Nat) (auto : Bool) : State :=
  setFs s [(kTarget h, target), (kCount h, target), (kArmed h, 1), (kAuto h, b2n auto)]

/-- Table 4-9: krst. -/
def resetAt (s : State) (h : Nat) : State :=
  let s := setFs s [(kArmed h, 0), (kCount h, 0)]
  notify (mirrorSk (addF s (kGen h) 1) h) h .reset

/-- R140: register the waiter of a watch. -/
def registerAt (s : State) (h n b : Nat) : State :=
  if !isSpanKnot h && n == knotDie h then setF s (kCourses h) (putN (getF s (kCourses h)) (b / 24) 1 1)
  else setF s (kDies h) (putN (getF s (kDies h)) n 1 1)

/-- A reply to the ply that issued an operation. -/
def replyTo (s : State) (k : KnotOp) (gen : Nat) (word : Word) : State :=
  match k.src with
  | .ply n b q => { s with notices := s.notices ++ [⟨.ply n b q, k.handle, .reply, gen, word.toNat, k.seq⟩] }
  | .engine _ => s

/-- R138-R141: one knot operation at its engine. -/
def doKnot (s : State) (k : KnotOp) : State :=
  let h := k.handle
  let g := getF s (kGen h)
  let reply (s : State) : State := if k.reply then replyTo s k g 0 else s
  match k.op with
  | .arrive => reply (arriveAt s h)
  | .signal => signalAt s h
  | .test => replyTo s k g (rd s (knotReg h))
  | .arm => armAt s h k.arg k.auto
  | .reset => resetAt s h
  | .watch =>
    match k.src with
    | .ply n b _ => if g ≠ k.arg then replyTo s k g 0 else registerAt s h n b
    | .engine _ => s

/-- The die that issued a knot operation. -/
def KnotOp.die (k : KnotOp) : Nat :=
  match k.src with
  | .ply n _ _ => n
  | .engine n => n

/-- R124, R138: operation `j` may be performed: no earlier operation of the same brick is on its way to the same engine. -/
def knotReady (l : List KnotOp) (j : Nat) (k : KnotOp) : Bool :=
  !(l.take j).any (fun y => engineOf y.handle == engineOf k.handle &&
    match y.src, k.src with
    | .ply n b _, .ply n' b' _ => n == n' && b == b'
    | _, _ => false)

/-- R138: perform operation `j` of the knot operations on their way when it is of kind `op`. While the hub is absent its span-knot
engine performs nothing; in the safe state knots hold (R352). An engine's operation on an invalid handle has no effect; a signal by ksigr
(die 4) was checked as it came in. -/
def knotEvent (s : State) (op : KOp) (j : Nat) : State :=
  match s.knotOps[j]? with
  | none => s
  | some k =>
    if k.op = op ∧ knotReady s.knotOps j k ∧ !pkgSafe s ∧ !(isSpanKnot k.handle && (dieGet s k.die).hubAbsent) then
      let s := { s with knotOps := listDel s.knotOps j }
      if k.die = 4 ∨ handleOk s k.die k.handle then doKnot s k else s
    else s

/-- R138: KNOT_ARRIVE. -/
def execKnotArrive (j : Nat) (s : State) : Out := .next (knotEvent s .arrive j)
/-- R138: KNOT_SIGNAL. -/
def execKnotSignal (j : Nat) (s : State) : Out := .next (knotEvent s .signal j)
/-- R139: KNOT_TEST. -/
def execKnotTest (j : Nat) (s : State) : Out := .next (knotEvent s .test j)
/-- R139: KNOT_ARM. -/
def execKnotArm (j : Nat) (s : State) : Out := .next (knotEvent s .arm j)
/-- R139: KNOT_RESET. -/
def execKnotReset (j : Nat) (s : State) : Out := .next (knotEvent s .reset j)
/-- R140: KNOT_WATCH. -/
def execKnotWatch (j : Nat) (s : State) : Out := .next (knotEvent s .watch j)

/-! ## Waiting and waking (R140, R151) -/

/-- R140: a ply waits on a knot: CD_PLY_WAIT names the handle and the observed GEN. -/
def waitKnot (s : State) (p : PlyId) (d h g : Nat) (deadline : Option Nat) : State :=
  let s := setF s (CD_PLY_STS_STATE p.n p.b p.q) 2
  let s := wr s (CD_PLY_WAIT p.n p.b p.q) (BitVec.ofNat 64 (1 + h % 2 ^ 16 * 2 ^ 4 + g % 2 ^ 16 * 2 ^ 20))
  plyMod s p.n p.b p.q (fun x => { x with wait := some ⟨d, deadline⟩ })

/-- R151: a ply waits for an epoch. -/
def waitEpoch (s : State) (p : PlyId) (t : Nat) : State :=
  let s := setF s (CD_PLY_STS_STATE p.n p.b p.q) 2
  let s := wr s (CD_PLY_WAIT p.n p.b p.q) (BitVec.ofNat 64 (2 + t % 2 ^ 48 * 2 ^ 4))
  plyMod s p.n p.b p.q (fun x => { x with wait := some ⟨0, some (t % 2 ^ 48)⟩ })

/-- Whether a ply waits on a knot, and with which handle and observed GEN. -/
def knotWait (s : State) (n b q : Nat) : Option (Nat × Nat) :=
  let w := rd s (CD_PLY_WAIT n b q)
  if plyState s n b q = 2 ∧ bitsOf w 3 0 = 1 then some (bitsOf w 19 4, bitsOf w 35 20) else none

/-- Table 4-9: wake a ply from kwait with a status and the GEN last known. -/
def wakeKnot (s : State) (p : PlyId) (status gen : Nat) : State :=
  let d := (((plyGet s p.n p.b p.q).wait).map (·.d)).getD 0
  setS (wakePly s p) p d (BitVec.ofNat 64 (status + gen % 2 ^ 16 * 2 ^ 16))

/-- R140: wake the plies of a list that wait on the notice's knot with a GEN other than the notice's. -/
def wakeAll (v : Notice) (status : Nat) : State → List PlyId → State
  | s, [] => s
  | s, p :: t =>
    let s := match knotWait s p.n p.b p.q with
      | some (h, g) => if h = v.handle ∧ g ≠ v.gen then wakeKnot s p status v.gen else s
      | none => s
    wakeAll v status s t

/-- The plies of brick indices `lo` to `lo + k - 1` of a die. -/
def pliesOf (n : Die) (lo k : Nat) : List PlyId :=
  (List.range (4 * k)).map (fun i => ⟨n, Fin.ofNat 384 (lo + i / 4), Fin.ofNat 4 i⟩)

/-- The plies that a fire or reset notice can wake. -/
def noticePlies : NDest → List PlyId
  | .course n c => pliesOf (Fin.ofNat 4 n) (24 * c) 24
  | .die n => pliesOf (Fin.ofNat 4 n) 0 384
  | .ply n b q => [⟨Fin.ofNat 4 n, Fin.ofNat 384 b, Fin.ofNat 4 q⟩]

/-- R140: a fire or reset notice arrives. -/
def noticeEvent (s : State) (kind : NKind) (status j : Nat) : State :=
  match s.notices[j]? with
  | none => s
  | some v =>
    if v.kind = kind then wakeAll v status { s with notices := listDel s.notices j } (noticePlies v.dest) else s

/-- R140: KNOT_NOTICE_FIRE. -/
def execKnotNoticeFire (j : Nat) (s : State) : Out := .next (noticeEvent s .fire 0 j)
/-- R140: KNOT_NOTICE_RESET. -/
def execKnotNoticeReset (j : Nat) (s : State) : Out := .next (noticeEvent s .reset 1 j)

/-- R139, R140: a reply reaches its ply: it completes the karr or ktest of the scoreboard entry it echoes, or ends the wait of a
kwait whose knot had already advanced. A reply for a withdrawn instruction is ignored. -/
def replyArrives (s : State) (p : PlyId) (v : Notice) : State :=
  let n := p.n.val
  let b := p.b.val
  if getF s (CD_BK_SB_VALID n b v.seq) = 1 ∧ getF s (CD_BK_SB_PLY n b v.seq) = p.q.val then
    let d := getF s (CD_BK_SB_D n b v.seq)
    let opc := getF s (CD_BK_SB_OPC n b v.seq)
    if opc = 44 * 64 then settle (setS (sbRelease s n b v.seq) p d (BitVec.ofNat 64 v.gen)) p
    else if opc = 45 * 64 + 1 then settle (setS (sbRelease s n b v.seq) p d (BitVec.ofNat 64 v.word)) p
    else if opc = 45 * 64 then
      match knotWait s n b p.q with
      | some (h, _) => if h = v.handle then wakeKnot s p 0 v.gen else s
      | none => s
    else s
  else s

/-- R139: KNOT_NOTICE_REPLY. -/
def execKnotNoticeReply (j : Nat) (s : State) : Out :=
  .next (match s.notices[j]? with
    | none => s
    | some v =>
      match v.kind, v.dest with
      | .reply, .ply n b q =>
        replyArrives { s with notices := listDel s.notices j } ⟨Fin.ofNat 4 n, Fin.ofNat 384 b, Fin.ofNat 4 q⟩ v
      | _, _ => s)

/-- R140: KWAIT_TIMEOUT: the limit of a kwait has passed on the channel's epoch counter. -/
def execKwaitTimeout (p : PlyId) (s : State) : Out :=
  .next (match knotWait s p.n p.b p.q, ((plyGet s p.n p.b p.q).wait).bind (·.deadline) with
    | some (_, g), some t => if epochReached (epochOf s p.n) t then wakeKnot s p 2 g else s
    | _, _ => s)

/-! ## Knot instructions (Table 4-9) -/

/-- R122: knot queue entries of a brick. -/
def knotQueue (s : State) (n b : Nat) : Nat :=
  (s.knotOps.filter (fun k => match k.src with
    | .ply n' b' _ => n' == n && b' == b
    | .engine _ => false)).length

/-- R137, R142, R143: the checks of a knot instruction at issue, then its acceptance into the knot queue. `wait` says that it
waits at the knot. -/
def knotIssue (s : State) (p : PlyId) (h : Nat) (wait zero : Bool) (ok : Body) : Body :=
  let remote := isSpanKnot h || knotDie h != p.n.val
  if !handleOk s p.n h then .trap 0x12 h false
  else if wait && remote && getF s HP_CAP_EFF_SPAN_KNOT_EXT == 0 then .trap 0x13 (h + 1 * 2 ^ 16) false
  else if zero then .trap 0x13 (h + 3 * 2 ^ 16) false
  else if isSpanKnot h && (dieGet s p.n).hubAbsent then .stall (plyMod s p.n p.b p.q (fun x => { x with held := some h }))
  else if isSpanKnot h && getF s (HP_SKNOT_SPAN (h % 1024)) != spanOf s p.n then .trap 0x13 (h + 2 * 2 ^ 16) false
  else if 8 ≤ knotQueue s p.n p.b then .hold
  else ok

/-- The operation that a knot instruction puts into the knot queue. -/
def plyOp (s : State) (p : PlyId) (h : Nat) (op : KOp) (auto reply : Bool) (arg : Nat) : KnotOp :=
  ⟨.ply p.n p.b p.q, h, op, auto, reply, arg, sbFree s p.n p.b⟩

/-- The handle in a scalar register. -/
def handleIn (s : State) (p : PlyId) (i : Nat) : Nat := (getS s p i).toNat % 2 ^ 16

/-- Table 4-9: karr. -/
def execKarr (p : PlyId) (o : IOp) (s : State) : Out :=
  .next (issue 44 0 p o s (fun s =>
    let h := handleIn s p o.a
    knotIssue s p h false false (.done (pushKnot s (plyOp s p h .arrive false (o.d.val != 0) 0)))))
/-- Table 4-9: ksig. -/
def execKsig (p : PlyId) (o : IOp) (s : State) : Out :=
  .next (issue 44 1 p o s (fun s =>
    let h := handleIn s p o.a
    knotIssue s p h false false (.done (pushKnot s (plyOp s p h .signal false false 0)))))
/-- Table 4-9: kwait. -/
def execKwait (p : PlyId) (o : IOp) (s : State) : Out :=
  .next (issue 45 0 p o s (fun s =>
    let h := handleIn s p o.a
    let g := handleIn s p o.b
    let lim := o.bits 31 0
    let lim := (plyGet s p.n p.b p.q).rewait.getD lim
    let dl := if lim = 0 then none else some ((epochOf s p.n + lim) % 2 ^ 48)
    knotIssue s p h true false (.done (waitKnot (pushKnot s (plyOp s p h .watch false true g)) p o.d h g dl))))
/-- Table 4-9: ktest. -/
def execKtest (p : PlyId) (o : IOp) (s : State) : Out :=
  .next (issue 45 1 p o s (fun s =>
    let h := handleIn s p o.a
    knotIssue s p h false false (.done (if o.d = 0 then s else pushKnot s (plyOp s p h .test false true 0)))))
/-- Table 4-9: karm. -/
def execKarm (p : PlyId) (o : IOp) (s : State) : Out :=
  .next (issue 46 0 p o s (fun s =>
    let h := handleIn s p o.a
    let t := handleIn s p o.b
    knotIssue s p h false (t == 0) (.done (pushKnot s (plyOp s p h .arm (o.bits 0 0 == 1) false t)))))
/-- Table 4-9: krst. -/
def execKrst (p : PlyId) (o : IOp) (s : State) : Out :=
  .next (issue 46 1 p o s (fun s =>
    let h := handleIn s p o.a
    knotIssue s p h false false (.done (pushKnot s (plyOp s p h .reset false false 0)))))

/-! ## Epoch waits (Table 4-12) -/

/-- R145: wait until epoch `t` is reached. -/
def lwaitBody (s : State) (p : PlyId) (t : Nat) : Body :=
  let t := match (plyGet s p.n p.b p.q).rewait with
    | some k => (epochOf s p.n + k) % 2 ^ 48
    | none => t
  if epochReached (epochOf s p.n) t then .done s else .done (waitEpoch s p t)

/-- Table 4-12: lwait. -/
def execLwait (p : PlyId) (o : IOp) (s : State) : Out :=
  .next (issue 49 0 p o s (fun s => lwaitBody s p ((getS s p o.a).toNat % 2 ^ 48)))
/-- Table 4-12: lwaitr. -/
def execLwaitr (p : PlyId) (o : IOp) (s : State) : Out :=
  .next (issue 49 1 p o s (fun s => lwaitBody s p ((epochOf s p.n + o.bits 31 0) % 2 ^ 48)))

/-- R146: LWAIT_WAKE: the awaited epoch is reached. -/
def execLwaitWake (p : PlyId) (s : State) : Out :=
  .next (let w := rd s (CD_PLY_WAIT p.n p.b p.q)
    if plyState s p.n p.b p.q = 2 ∧ bitsOf w 3 0 = 2 ∧ epochReached (epochOf s p.n) (bitsOf w 51 4) then wakePly s p else s)

end Sys2Proof.Machine
end

