-- ==== Sys2Proof/Machine/Launch.lean ====
section
/-! DEFINITION. Launch slots and launch instructions (R145-R147), the slew governor's acting of launches (R168, R169), and the
ends of instructions and plies (R111, R115, R117, R148). -/
namespace Sys2Proof.Machine

/-! ## Launch slots (R145-R147) -/

/-- Arm a slot. -/
def armSlot (s : State) (n b i epoch arg adm : Nat) : State :=
  setFs s [(CD_BK_LSLOT_EPOCH n b i, epoch), (CD_BK_LSLOT_ARMED n b i, 1), (CD_BK_LSLOT_ADM n b i, adm), (CD_BK_LSARG_ARG n b i, arg)]

/-- R147: a ply slot starts its ply: PC, ISSUED, TH, the fetch buffer and the state; other registers keep their values. -/
def startPly (s : State) (n b q pc : Nat) : State :=
  let s := setF s (CD_PLY_PC_PC n b q) (pc / 8)
  let s := setIssued s n b q 0
  let s := setFs s [(CD_PLY_STS_TH n b q, 0), (CD_PLY_STS_STATE n b q, 1)]
  plyMod s n b q (fun x =>
    { PlyX.reset with marked := x.marked, lastTag := x.lastTag })

/-- R147: a slot acts: it is free again, LATE says that its epoch had been reached before. A knot slot performs ksig. -/
def slotFire (s : State) (n b i : Nat) (late : Bool) : State :=
  let s := setFs s [(CD_BK_LSLOT_ARMED n b i, 0), (CD_BK_LSLOT_ADM n b i, 0)]
  let s := if late then flag s (CD_BK_LSLOT_LATE n b i) else s
  let arg := getF s (CD_BK_LSARG_ARG n b i)
  if i < 4 then startPly s n b i arg
  else pushKnot s ⟨.engine n, arg % 2 ^ 16, .signal, false, false, 0, 0⟩

/-- R155: whether the channel's epoch clock is lost. -/
def epochStale (s : State) (n : Nat) : Bool := getF s (CD_EPOCH_STALE n) == 1

/-- R146, R400: whether launches and slots of a channel do not act: its epoch clock is lost, or VCORE is in retention. -/
def slotsHeld (s : State) (n : Nat) : Bool := epochStale s n || getF s (HP_VCORE_RETENTION n) == 1

/-- Arm a slot for an epoch; one already reached acts at once with LATE set (R146). -/
def armOrAct (s : State) (n b i t arg : Nat) : State :=
  let s := armSlot s n b i t arg 0
  if epochReached (epochOf s n) t ∧ !slotsHeld s n then slotFire s n b i true else s

/-- Table 4-12: larm.ply. -/
def execLarmPly (p : PlyId) (o : IOp) (s : State) : Out :=
  .next (issue 48 0 p o s (fun s =>
    let j := o.bits 1 0
    let pc := getS s p o.b
    if plyState s p.n p.b j ≠ 0 ∨ getF s (CD_BK_LSLOT_ARMED p.n p.b j) = 1 ∨ pc.toNat % 8 ≠ 0 then .trap 0x15 j false
    else .done (armOrAct s p.n p.b j ((getS s p o.a).toNat % 2 ^ 48) (pc.toNat % 2 ^ 20))))

/-- Table 4-12: larm.knot. -/
def execLarmKnot (p : PlyId) (o : IOp) (s : State) : Out :=
  .next (issue 48 1 p o s (fun s =>
    let h := handleIn s p o.b
    if !handleOk s p.n h then .trap 0x12 h false
    else match ([4, 5, 6, 7] : List Nat).find? (fun i => getF s (CD_BK_LSLOT_ARMED p.n p.b i) == 0) with
      | none => .trap 0x15 8 false
      | some i => .done (armOrAct s p.n p.b i ((getS s p o.a).toNat % 2 ^ 48) h)))

/-- Table 4-12: ldis. -/
def execLdis (p : PlyId) (o : IOp) (s : State) : Out :=
  .next (issue 48 2 p o s (fun s =>
    let i := o.bits 2 0
    .done (setFs s [(CD_BK_LSLOT_ARMED p.n p.b i, 0), (CD_BK_LSLOT_ADM p.n p.b i, 0)])))

/-! ## Launches of the admission controller (R168, R169) -/

/-- R168, R169: a launch acts: its work begins, its ΔP counts in E, its predecessor's leaves E. -/
def actLaunch (s : State) (n i : Nat) : State :=
  let s := ledMod s n i (fun x => { x with acted := true, inE := true, holdE := 0 })
  refreshE (ledBegin s n i) n

/-- R168: a launch is deferred; counted once. -/
def deferLaunch (s : State) (n i : Nat) : State :=
  match ledGet s n i with
  | some x => if x.deferred then s else addF (ledMod s n i (fun x => { x with deferred := true })) (CH_SLEW_STS_DEFER n) 1
  | none => s

/-- The launch that armed the slot of ply 4 b + q. -/
def launchOf (s : State) (n k : Nat) : Option (Nat × LedX) :=
  (ledAll s n).find? (fun e => e.2.kind == 1 && !e.2.released && e.2.plies.contains k)

/-- R147: LAUNCH_SLOT_ACT. A slot that the admission controller armed acts only with its launch (R168). A SAVED ply goes to IDLE
first for such a slot (Table 6-11). -/
def execLaunchSlotAct (k : BrickId) (q : Fin 4) (s : State) : Out :=
  .next (
    let n := k.n.val
    let b := k.b.val
    let adm := getF s (CD_BK_LSLOT_ADM n b q) = 1
    let st := plyState s n b q
    if getF s (CD_BK_LSLOT_ARMED n b q) = 1 ∧ !slotsHeld s n ∧ epochReached (epochOf s n) (getF s (CD_BK_LSLOT_EPOCH n b q))
        ∧ (st = 0 ∨ (adm ∧ st = 4)) ∧ !pkgSafe s then
      let late := decide (epochOf s n ≠ getF s (CD_BK_LSLOT_EPOCH n b q))
      if adm then
        match launchOf s n (4 * b + q) with
        | some (i, x) =>
          if x.acted then slotFire s n b q late
          else if slewOk s n x then slotFire (actLaunch s n i) n b q late
          else deferLaunch s n i
        | none => slotFire s n b q late
      else slotFire s n b q late
    else s)

/-- Arm, at the current epoch, the slots of the plies of a launch, and start those whose ply is IDLE or SAVED. -/
def startPlies (n pc : Nat) : State → List Nat → State
  | s, [] => s
  | s, k :: t =>
    let b := k / 4
    let q := k % 4
    let s := armSlot s n b q (epochOf s n) pc 1
    let s := if plyState s n b q = 0 ∨ plyState s n b q = 4 then slotFire s n b q false else s
    startPlies n pc s t

/-- R168: SLEW_DEFERRED_LAUNCH: a deferred launch acts at the first epoch at which the condition holds. -/
def execSlewDeferredLaunch (n : Die) (i : Fin 4096) (s : State) : Out :=
  .next (match ledGet s n i with
    | some x =>
      if x.deferred ∧ !x.acted ∧ !x.released ∧ (x.pred.isNone ∨ x.predDone) ∧ slewOk s n x ∧ !slotsHeld s n then
        startPlies n x.pc (actLaunch s n i) x.plies
      else s
    | none => s)

/-- R169: SUCCESSOR_LAUNCH: a successor acts at the first epoch at or after EPOCH at which its predecessor has ended with its work
complete; the slew condition may defer it. -/
def execSuccessorLaunch (n : Die) (i : Fin 4096) (s : State) : Out :=
  .next (match ledGet s n i with
    | some x =>
      if x.pred.isSome ∧ x.predDone ∧ !x.acted ∧ !x.deferred ∧ !x.released ∧ !slotsHeld s n ∧ epochReached (epochOf s n) x.start then
        if slewOk s n x then startPlies n x.pc (actLaunch s n i) x.plies else deferLaunch s n i
      else s
    | none => s)

/-- R147: KNOT_SLOT_ACT: knot slot 4 + i acts at its epoch. -/
def execKnotSlotAct (k : BrickId) (i : Fin 4) (s : State) : Out :=
  .next (
    let n := k.n.val
    let b := k.b.val
    let j := 4 + i.val
    if getF s (CD_BK_LSLOT_ARMED n b j) = 1 ∧ !slotsHeld s n ∧ epochReached (epochOf s n) (getF s (CD_BK_LSLOT_EPOCH n b j)) then
      slotFire s n b j (decide (epochOf s n ≠ getF s (CD_BK_LSLOT_EPOCH n b j)))
    else s)

/-! ## Ends of instructions and plies -/

/-- R148: INSTRUCTION_COMPLETE: an instruction that awaits no reply and no wake completes and releases its entry. -/
def execInstructionComplete (k : BrickId) (e : Fin 32) (s : State) : Out :=
  .next (if getF s (CD_BK_SB_VALID k.n k.b e) = 1 ∧ getF s (CD_BK_SB_AWAIT k.n k.b e) = 0 then
      let q := getF s (CD_BK_SB_PLY k.n k.b e)
      settle (sbRelease s k.n k.b e) ⟨k.n, k.b, Fin.ofNat 4 q⟩
    else s)

/-- R111: END_COMPLETE. -/
def execEndComplete (p : PlyId) (s : State) : Out :=
  .next (if (plyGet s p.n p.b p.q).ending ∧ sbHeld s p.n p.b p.q = 0 then plyIdle s p else s)

/-- R117: carry out the command in CD_PLY_CMD, whose STATUS is 1; with a trap entry in progress it waits for that (R117). -/
def plyCmd (s : State) (p : PlyId) : State :=
  let op := getF s (CD_PLY_CMD_OP p.n p.b p.q)
  let st := plyState s p.n p.b p.q
  let sts := CD_PLY_CMD_STATUS p.n p.b p.q
  if (plyGet s p.n p.b p.q).trap.isSome then holdCmd s (CD_PLY_CMD p.n p.b p.q) true
  else if op = 1 ∧ st = 3 then
    setFs s [(CD_PLY_STS_TH p.n p.b p.q, 0), (CD_PLY_STS_DOUBLE p.n p.b p.q, 0), (CD_PLY_STS_STATE p.n p.b p.q, 1), (sts, 2)]
  else if op = 2 ∧ st ≠ 0 then abortLaunched s p
  else setF s sts 3

/-- R115: TRAP_ENTRY: once the ply's earlier instructions have completed, the trap is delivered. A launched ply that becomes TRAPPED
puts its promise at risk (R171). -/
def execTrapEntry (p : PlyId) (s : State) : Out :=
  .next (match (plyGet s p.n p.b p.q).trap with
    | some t =>
      if sbHeld s p.n p.b p.q = 0 then
        let s := deliverTrap s p t
        let s := if plyState s p.n p.b p.q = 3 then
            riskWhere p.n 3 (fun x => x.left.contains (4 * p.b + p.q)) s (ledAll s p.n)
          else s
        if getF s (CD_PLY_CMD_STATUS p.n p.b p.q) = 1 then plyCmd s p else s
      else s
    | none => s)

/-! ## Slew estimates (R168, R170) -/

/-- R168, R170: SLEW_ESTIMATE: the governor's estimate `w` of its die's power, in 0.1 W, taken every 1 µs. A rise of more than L
within the last 100 µs sets OVER and records class C. -/
def execSlewEstimate (n : Die) (w : Fin 4096) (s : State) : Out :=
  .next (
    let h := (dieGet s n).powerP
    let s := setF s (CH_SLEW_STS_P_EST n) w
    let s := dieMod s n (fun d => { d with powerP := (w.val :: h).take 100 })
    if h.any (fun v => decide (v + slewLim s n < w.val)) then
      reportCh (flag s (CH_SLEW_STS_OVER n)) 0x0401 n 0x900 n (rd s (CH_SLEW_STS n)).toNat
    else s)

end Sys2Proof.Machine
end

