-- ==== Sys2Proof/Machine/Rope.lean ====
section
/-! DEFINITION. Ropes and their link layer: which rope goes where (R4, R223, R244), flits, sequencing, acknowledgement, resending and
credits (R265-R275). Rope codes: 0-23 are external ropes 1-24, 24-33 interposer ropes 0-9. -/
namespace Sys2Proof.Machine

/-! ## Ropes -/

def ropeGet (s : State) (r : Nat) : RopeX := tabGet (fun _ => RopeX.reset) s.ropes r
def ropeMod (s : State) (r : Nat) (f : RopeX → RopeX) : State :=
  { s with ropes := tabMod (fun _ => RopeX.reset) s.ropes r f }
def optMod (s : State) (f : OptX → OptX) : State := { s with opt := f s.opt }
def netMod (s : State) (f : NetX → NetX) : State := { s with net := f s.net }

/-- Table 8-7: the state of a rope: 0 ABSENT, 1 DOWN, 2 TRAINING, 3 UP, 4 RETRAIN, 5 HELD. -/
def ropeState (s : State) (r : Nat) : Nat := getF s (OE_ROPE_STS_STATE r)

/-- R223: the die that owns interposer rope ρ; 4 is the hub. -/
def ownerOf (rho : Nat) : Nat := if rho < 8 then rho / 2 else 4
/-- R223: the die of a receiving bank. -/
def bankDie (b : Nat) : Nat := if b < 12 then b / 3 else 4
/-- R244: the bank to which interposer rope ρ is steered; 31 parked. -/
def bankOf (s : State) (rho : Nat) : Nat := bitsN (getF s PI_STEER_STS_DEST) (5 * rho + 4) (5 * rho)
/-- The die to which interposer rope ρ is steered, if it is. -/
def destOf (s : State) (rho : Nat) : Option Nat := if bankOf s rho < 14 then some (bankDie (bankOf s rho)) else none
/-- R275: the interposer rope that runs from ρ's destination to its owner, the lowest-numbered (assumption 20). -/
def pairOf (s : State) (rho : Nat) : Option Nat :=
  (destOf s rho).bind (fun d => (List.range 10).find? (fun p => ownerOf p == d && destOf s p == some (ownerOf rho)))

/-- R4: the channel of a rope; none for a hub rope. -/
def ropeChan (r : Nat) : Option Nat :=
  if r < 12 then some (r / 3) else if r < 24 then some ((r - 12) / 3) else if r < 32 then some ((r - 24) / 2) else none

/-- The instance that names a rope in a fault record: its number or ρ. -/
def ropeInst (r : Nat) : Nat := if r < 24 then r + 1 else r - 24
/-- R343: a fault of a rope or of a part of it: scope its channel, or the package for the interposer where `pkg`, and for hub ropes. -/
def reportRope (s : State) (cause r inst detail : Nat) (pkg : Bool) : State :=
  let unit := if r < 24 then 5 else 6
  let blk := if r < 24 then 0x80 + r else 0x30 + (r - 24)
  match (if pkg && decide (24 ≤ r) then none else ropeChan r) with
  | some n => report s ⟨cause, 2 ^ n, unit, blk, inst, detail, 0⟩
  | none => report s ⟨cause, 0, unit, blk, inst, detail, 0⟩

/-! ## Sending (R267, R268, R273) -/

/-- Whether a rope may send a flit of a virtual queue now: link control also in phases 4 and 5 of training (R280). -/
def mayFlit (s : State) (r : Nat) (x : RopeX) (vq : Nat) : Bool :=
  let st := ropeState s r
  if vq = 0 then st == 3 || ((st == 2 || st == 4) && decide (4 ≤ x.phase))
  else st == 3 && decide (0 < x.credit.getD (vq - 1) 0)

/-- Send flits that wait, each the first whose queue may send, up to the unacknowledged limit. -/
def pumpFlits (r : Nat) : Nat → State → State
  | 0, s => s
  | k + 1, s =>
    let x := ropeGet s r
    if 3584 ≤ x.sent.length then s
    else match firstIdx (fun f => mayFlit s r x f.vq) x.out with
      | none => s
      | some i =>
        match x.out[i]? with
        | none => s
        | some f =>
          let credit := if f.vq = 0 then x.credit else listPut x.credit (f.vq - 1) (x.credit.getD (f.vq - 1) 0 - 1)
          let s := ropeMod s r (fun x => { x with
            out := listDel x.out i, sent := x.sent ++ [{ f with seq := x.next }], next := (x.next + 1) % 4096, credit := credit })
          pumpFlits r k (addF s (OE_ROPE_CNT_TX r) 1)

/-- Send what may be sent, and show how much is unacknowledged. -/
def pumpRope (s : State) (r : Nat) : State :=
  let s := pumpFlits r (ropeGet s r).out.length s
  setF s (OE_ROPE_STS_UNACK r) (ropeGet s r).sent.length

/-- Cut bytes into flit payloads of 240 bytes. -/
def flitBodies : Nat → List Byte → List (List Byte)
  | 0, _ => []
  | _, [] => []
  | k + 1, l => l.take 240 :: flitBodies k (l.drop 240)

/-- R287: fill the last flit of the queue that has not been sent; the rest of the bytes need flits of their own. -/
def packLast (vq : Nat) (bytes : List Byte) : List TxFlit → Option (List TxFlit × List Byte)
  | [] => none
  | f :: t =>
    match packLast vq bytes t with
    | some (t, rest) => some (f :: t, rest)
    | none =>
      if f.vq = vq ∧ f.body.length < 240 then
        let room := 240 - f.body.length
        some ({ f with body := f.body ++ bytes.take room } :: t, bytes.drop room)
      else none

/-- R287: the bytes of a segment join a virtual queue of a rope, back to back with those before them. -/
def pushBytes (s : State) (r vq : Nat) (bytes : List Byte) : State :=
  pumpRope (ropeMod s r (fun x =>
    let (out, rest) := (packLast vq bytes x.out).getD (x.out, bytes)
    { x with out := out ++ (flitBodies (rest.length + 1) rest).map (fun b => ⟨0, vq, b⟩) })) r

/-- R274: a link control body is sent. -/
def sendLctl (s : State) (r : Nat) (body : List Byte) : State :=
  pumpRope (ropeMod s r (fun x => { x with out := x.out ++ [⟨0, 0, body⟩] })) r

/-- R272, R280: every unacknowledged flit is sent again, oldest first. -/
def replay (s : State) (r : Nat) : State := addF s (OE_ROPE_CNT_REPLAYS r) 1

/-! ## Acknowledgements (R270-R273) -/

/-- Flits after the one numbered `a`. -/
def dropThrough (a : Nat) : List TxFlit → List TxFlit
  | [] => []
  | f :: t => if f.seq = a then t else dropThrough a t

/-- R271: an ack frees every flit up to ACK. -/
def freeTo (s : State) (r a : Nat) : State :=
  let x := ropeGet s r
  let s := setF s (OE_ROPE_STS_ACK_RX r) a
  if x.sent.any (fun f => f.seq == a) then
    let s := ropeMod s r (fun x => { x with sent := dropThrough a x.sent })
    setF s (OE_ROPE_STS_UNACK r) (ropeGet s r).sent.length
  else s

/-- R271: whether the guard of a resend still runs. -/
def guarded (s : State) (x : RopeX) (key : Nat) : Bool := x.guard.any (fun g => g.1 == key && decide (s.hubTime < g.2 + 250))

/-- `n` flits are resent under the guard `key`. -/
def resend (s : State) (r key n : Nat) : State :=
  let t := s.hubTime
  let s := ropeMod s r (fun x => { x with guard := (key, t) :: x.guard.filter (fun g => g.1 != key && decide (t < g.2 + 250)) })
  addF s (OE_ROPE_CNT_RESENT r) n

/-- R271: the flits that a NAK bitmap names. -/
def nakList (a nak : Nat) : List Nat := ((List.range 32).filter (fun i => bitN nak i == 1)).map (fun i => (a + 1 + i) % 4096)

/-- R271: what a sender does on the acknowledgement fields of a reverse flit or return frame. -/
def onAck (s : State) (r : Nat) (ackv : Bool) (ack : Nat) (nakv : Bool) (nak : Nat) (ovf resync : Bool) (cvq credits : Nat) : State :=
  let s := if 1 ≤ cvq ∧ cvq ≤ 3 then
      ropeMod s r (fun x => { x with credit := listPut x.credit (cvq - 1) (x.credit.getD (cvq - 1) 0 + credits) })
    else s
  let s := if ackv then freeTo s r ack else s
  let s := if ackv && nakv then (nakList ack nak).foldl (fun s q =>
      if (ropeGet s r).sent.any (fun f => f.seq == q) && !guarded s (ropeGet s r) q then resend s r q 1 else s) s
    else s
  let s := if ovf && !guarded s (ropeGet s r) 4096 then
      resend s r 4096 ((ropeGet s r).sent.filter (fun f => decide (512 < (f.seq + 4096 - ack) % 4096))).length
    else s
  let s := if resync && !guarded s (ropeGet s r) 4097 then resend s r 4097 (ropeGet s r).sent.length else s
  pumpRope s r

/-! ## Segments on the wire (R287, R288) -/

/-- Table 8-12: the header and body of a segment. -/
def segBytes (g : Seg) : List Byte :=
  [BitVec.ofNat 8 g.kind,
   BitVec.ofNat 8 (g.via % 16 + 16 * b2n g.viaEn + 32 * b2n g.dual + 64 * b2n g.prom + 128 * b2n g.resent),
   BitVec.ofNat 8 (g.srcRank % 16 + 16 * (g.srcEp % 8)), BitVec.ofNat 8 (g.dstRank % 16 + 16 * (g.dstEp % 8))]
  ++ leBytes 4 g.tseq ++ leBytes 2 g.body.length ++ leBytes 2 g.gen ++ leBytes 4 g.arg ++ leBytes 8 g.addr ++ g.body

/-- The first segment of a byte stream, if it is whole, and the rest. -/
def parseSeg (l : List Byte) : Option (Seg × List Byte) :=
  let f (o n : Nat) : Nat := leVal ((l.drop o).take n)
  let len := f 8 2
  if l.length < 24 + len then none
  else
    let flags := f 1 1
    some (⟨f 0 1, flags % 16, bitN flags 4 == 1, bitN flags 5 == 1, bitN flags 6 == 1, bitN flags 7 == 1, f 2 1 % 16, f 2 1 / 16 % 8,
      f 3 1 % 16, f 3 1 / 16 % 8, f 4 4, f 10 2, f 12 4, f 16 8, (l.drop 24).take len⟩, l.drop (24 + len))

/-- The whole segments of a queue's bytes, and the bytes left. Every flit gives 240 bytes, so a zero where a segment would start is
the unused end of its flit (assumption 21). -/
def cutSegs : Nat → List Byte → List Seg × List Byte
  | 0, l => ([], l)
  | _, [] => ([], [])
  | k + 1, b :: t =>
    if b = 0 then
      let n := (t.length + 1) % 240
      cutSegs k ((b :: t).drop (if n = 0 then 240 else n))
    else match parseSeg (b :: t) with
      | none => ([], b :: t)
      | some (g, rest) => let (gs, l) := cutSegs k rest; (g :: gs, l)

/-! ## Receiving (R266, R269, R273) -/

/-- Deliver a flit to its virtual queue: link control bodies wait for their events; the segments of an external rope that are whole
have arrived. -/
def deliver (s : State) (r : Nat) (f : TxFlit) : State :=
  let s := addF s (OE_ROPE_CNT_RX r) 1
  if f.vq = 0 then ropeMod s r (fun x => { x with lctl := x.lctl ++ [f.body] })
  else
    let x := ropeGet s r
    let i := f.vq - 1
    let l := x.bufs.getD i [] ++ f.body
    let (gs, rest) := cutSegs (l.length + 1) l
    let s := ropeMod s r (fun x => { x with bufs := listPut x.bufs i rest, ret := listPut x.ret i (x.ret.getD i 0 + 1) })
    if r < 24 then netMod s (fun n => { n with arrived := n.arrived ++ gs.map (fun g => (r, f.vq, g)) }) else s

/-- R269: stored flits are delivered in sequence order; E advances past them. -/
def deliverAll (r : Nat) : Nat → State → State
  | 0, s => s
  | k + 1, s =>
    let x := ropeGet s r
    match x.held.find? (fun f => f.seq == x.e) with
    | none => s
    | some f =>
      let s := ropeMod s r (fun x => { x with held := x.held.filter (fun g => g.seq != x.e), e := (x.e + 1) % 4096 })
      deliverAll r k (deliver s r f)

/-- R270: ACK, OVF and the reorder count follow the receiver's record. -/
def refreshAck (s : State) (r : Nat) : State :=
  let s := ropeMod s r (fun x =>
    let lost := x.lost.filter (fun q => decide ((q + 4096 - x.e) % 4096 < 3584))
    { x with lost := lost, ovf := x.ovf && lost.any (fun q => decide (512 ≤ (q + 4096 - x.e) % 4096)) })
  let x := ropeGet s r
  setFs s [(OE_ROPE_STS_ACK_TX r, x.e + 4095), (OE_ROPE_STS_REORD r, x.held.length)]

/-- R269: store a sequenced flit, or discard it. `ahead` says that a number beyond the window lies ahead of it. -/
def storeFlit (s : State) (r : Nat) (ahead : Bool) (f : TxFlit) : State :=
  let x := ropeGet s r
  let d := (f.seq + 4096 - x.e) % 4096
  if d < 512 ∧ !x.held.any (fun g => g.seq == f.seq) then
    refreshAck (deliverAll r 513 (ropeMod s r (fun x => { x with held := f :: x.held, lost := x.lost.filter (· != f.seq) }))) r
  else if 512 ≤ d ∧ ahead then
    refreshAck (addF (ropeMod s r (fun x => { x with ovf := true, lost := f.seq :: x.lost.filter (· != f.seq) })) (OE_ROPE_CNT_DROPPED r) 1) r
  else addF s (OE_ROPE_CNT_DUP r) 1

/-- R269: the receiver's count meets the six bits that a good in-order or IDLE flit carries: the numbers in between are lost. -/
def countTo (s : State) (r low : Nat) : State :=
  ropeMod s r (fun x =>
    let n := (low + 64 - x.count % 64) % 64
    { x with count := (x.count + n) % 4096, slots := 0, lost := x.lost ++ (List.range n).map (fun i => (x.count + i) % 4096) })

/-- R269: whether the receiver has lost count and waits for an ALIGN. -/
def lostCount (s : State) (r : Nat) : Bool × State :=
  let x := ropeGet s r
  if x.resync then (true, s)
  else if 63 < x.slots then (true, refreshAck (ropeMod s r (fun x => { x with resync := true })) r)
  else (false, s)

/-- Table 8-2, Table 8-3: a field of a flit. -/
def flitF (f : BitVec 2048) (hi lo : Nat) : Nat := bitsN f.toNat hi lo
/-- Bytes `lo` onward of a flit. -/
def flitBytes (f : BitVec 2048) (lo n : Nat) : List Byte := leBytes n (f.toNat / 2 ^ (8 * lo))

/-- CRC-32, one bit step of the reflected form. -/
def crc32Bit (c : Nat) : Nat := if c % 2 = 1 then (c / 2) ^^^ 0xEDB88320 else c / 2
/-- CRC-32 over bytes, from a register value. -/
def crc32From : Nat → List Byte → Nat
  | c, [] => c
  | c, b :: t =>
    let x := c ^^^ b.toNat
    crc32From (crc32Bit (crc32Bit (crc32Bit (crc32Bit (crc32Bit (crc32Bit (crc32Bit (crc32Bit x)))))))) t
/-- R266: the CRC-32 of IEEE 802.3. -/
def crc32 (l : List Byte) : Nat := crc32From 0xFFFFFFFF l ^^^ 0xFFFFFFFF

/-- R265, R266: whether a flit's CRC holds and its TYPE is not reserved. -/
def flitGood (f : BitVec 2048) : Bool :=
  crc32 (flitBytes f 0 248 ++ flitBytes f 252 4) == flitF f (8 * 248 + 31) (8 * 248) && decide (flitF f 3 0 < 4)

/-- R266, R269: a flit is lost, with its ack fields. -/
def loseSlots (s : State) (r n : Nat) : State := ropeMod s r (fun x => { x with slots := x.slots + n })

/-- The rope whose transmit direction the ack fields of a flit on rope `r` concern: itself, or its pair (R275). -/
def ackRope (s : State) (r : Nat) : Option Nat := if r < 24 then some r else (pairOf s (r - 24)).map (· + 24)

/-- The ack fields of a flit. -/
def flitAck (s : State) (r : Nat) (f : BitVec 2048) : State :=
  let t := 8 * 248
  match ackRope s r with
  | some a => onAck s a (flitF f (t + 44) (t + 44) == 1) (flitF f (t + 43) (t + 32)) (flitF f 19 19 == 1) (flitF f 51 20) (flitF f 53 53 == 1)
      (flitF f 52 52 == 1) (flitF f (t + 46) (t + 45)) (flitF f (t + 55) (t + 48))
  | none => s

/-- Whether the receiver of a rope takes flits: it is UP, or past phase 2 of training, and has codeword alignment. -/
def takesFlits (s : State) (r : Nat) : Bool :=
  let x := ropeGet s r
  x.aligned && (ropeState s r == 3 || ((ropeState s r == 2 || ropeState s r == 4) && decide (3 ≤ x.phase)))

/-- Table 8-6: the map in a body: 16 strands of five bits. -/
def mapOf (body : List Byte) : List Nat :=
  let v := leVal ((body.drop 2).take 10)
  (List.range 16).map (fun i => bitsN v (5 * i + 4) (5 * i))
/-- The ten bytes of a map. -/
def mapBytes (m : List Nat) : List Byte := leBytes 10 ((List.range 16).foldl (fun a i => a + (m.getD i 31 % 32) * 2 ^ (5 * i)) 0)
/-- How many strands a map has in service. -/
def mapWidth (m : List Nat) : Nat := (m.filter (· != 31)).length

/-- A width and map come into force in one direction. -/
def applyMap (s : State) (r : Nat) (tx : Bool) (m : List Nat) : State :=
  let fld := if tx then OE_ROPE_STS_TX15 r else OE_ROPE_STS_RX15 r
  let w := b2n (decide (mapWidth m < 16))
  let changed := getF s fld ≠ w
  let s := setF (ropeMod s r (fun x => if tx then { x with txMap := m } else { x with rxMap := m })) fld w
  if changed then flag s (OE_ROPE_EVT_WIDTH r) else s

/-- R269: FLIT_DATA and FLIT_LCTL: a sequenced flit, first sent or resent. -/
def recvSeq (s : State) (r : Nat) (f : BitVec 2048) : State :=
  let vq := if flitF f 3 0 = 2 then 0 else flitF f 18 17
  let body := flitBytes f 8 240
  let s := flitAck s r f
  if flitF f 4 4 = 1 then storeFlit s r false ⟨flitF f 16 5, vq, body⟩
  else
    let (wait, s) := lostCount s r
    if wait then s
    else
      let s := countTo s r (flitF f 10 5)
      let q := (ropeGet s r).count
      storeFlit (ropeMod s r (fun x => { x with count := (x.count + 1) % 4096 })) r true ⟨q, vq, body⟩

/-- R266: a flit arrives: what follows when it is good and of the type of the command. -/
def recvFlit (s : State) (r : Nat) (f : BitVec 2048) (type : Nat) (k : State → State) : State :=
  if !takesFlits s r then s
  else if flitGood f ∧ flitF f 3 0 ≠ type then s
  else withCheck s 5 (if r < 24 then r + 1 else 0x100 + (r - 24)) (flitGood f) (fun ok s =>
    if ok then k s else loseSlots (addF s (OE_ROPE_CNT_CRC_FAIL r) 1) r 1)

/-- R269: FLIT_DATA. -/
def execFlitData (r : Fin 34) (f : BitVec 2048) (s : State) : Out := .next (recvFlit s r f 1 (fun s => recvSeq s r f))
/-- R269, R274: FLIT_LCTL: its body waits for the event of its kind. -/
def execFlitLctl (r : Fin 34) (f : BitVec 2048) (s : State) : Out := .next (recvFlit s r f 2 (fun s => recvSeq s r f))
/-- R269: FLIT_IDLE: it carries the low bits of the next number. -/
def execFlitIdle (r : Fin 34) (f : BitVec 2048) (s : State) : Out :=
  .next (recvFlit s r f 0 (fun s =>
    let (wait, s) := lostCount (flitAck s r f) r
    if wait then s else refreshAck (countTo s r (flitF f 10 5)) r))
/-- R267, R269: FLIT_ALIGN: the count, width and map are taken from it. -/
def execFlitAlign (r : Fin 34) (f : BitVec 2048) (s : State) : Out :=
  .next (recvFlit s r f 3 (fun s =>
    let q := flitF f 16 5
    let s := flitAck s r f
    let s := ropeMod s r (fun x =>
      let n := (q + 4096 - x.count) % 4096
      let lost := if n < 3584 then ((List.range n).map (fun i => (x.count + i) % 4096)).filter (fun q => !x.held.any (fun g => g.seq == q)) else []
      { x with count := q, slots := 0, resync := false, lost := x.lost ++ lost.filter (fun q => !x.lost.contains q) })
    let body := flitBytes f 8 16
    let s := if body.headD 0 = 8 then applyMap s r false (mapOf body) else s
    refreshAck s r))
/-- R266: FLIT_CRC_FAIL: a flit whose CRC fails or whose TYPE is reserved is lost. -/
def execFlitCrcFail (r : Fin 34) (f : BitVec 2048) (s : State) : Out :=
  .next (if takesFlits s r ∧ !flitGood f then loseSlots (addF s (OE_ROPE_CNT_CRC_FAIL r) 1) r 1 else s)
/-- R262: UNCORRECTABLE_CODEWORD: every flit with a bit in it is lost; `flits` says how many, at most four. -/
def execUncorrectableCodeword (r : Fin 34) (flits : Fin 5) (s : State) : Out :=
  .next (loseSlots (addF s (OE_ROPE_CNT_UNCORR r) 1) r flits)
/-- R263: CODEWORD_ALIGNMENT: the receiver finds alignment again. -/
def execCodewordAlignment (r : Fin 34) (s : State) : Out := .next (ropeMod s r (fun x => { x with aligned := true }))
/-- R270, R273: ACK_REFRESH: the values are sent again, and waiting credits with them. -/
def execAckRefresh (r : Fin 34) (s : State) : Out :=
  .next (refreshAck (ropeMod s r (fun x => { x with ret := [0, 0, 0] })) r)
/-- R272: LINK_REPLAY: ACK has not advanced for 2 µs: every unacknowledged flit is sent again. -/
def execLinkReplay (r : Fin 34) (s : State) : Out :=
  .next (if ropeState s r = 3 ∧ (ropeGet s r).sent ≠ [] then flag (replay s r) (OE_ROPE_EVT_REPLAY r) else s)
/-- R275: RETURN_FRAME: the receiver of an unpaired interposer rope reports to its sender: ACK, the NAK bitmap of lost flits, OVF, RESYNC,
credits. -/
def execReturnFrame (rho : Fin 10) (s : State) : Out :=
  .next (let r := rho.val + 24
    if (pairOf s rho).isSome then s
    else
      let x := ropeGet s r
      let ack := (x.e + 4095) % 4096
      let nak := (List.range 32).foldl (fun a i => if x.lost.contains ((ack + 1 + i) % 4096) then a + 2 ^ i else a) 0
      let vq := ((List.range 3).find? (fun i => x.ret.getD i 0 != 0)).map (· + 1)
      let q := vq.getD 0
      let n := if q = 0 then 0 else min 255 (x.ret.getD (q - 1) 0)
      let s := if q = 0 then s else ropeMod s r (fun x => { x with ret := listPut x.ret (q - 1) (x.ret.getD (q - 1) 0 - n) })
      onAck s r true ack true nak x.ovf x.resync q n)

end Sys2Proof.Machine
end

