-- ==== Sys2Proof/Machine/Transport.lean ====
section
/-! DEFINITION. The transport: connections, paths, sending, acknowledging, resending and rerouting segments (R286-R297). -/
namespace Sys2Proof.Machine

/-- This package's rank. -/
def ownRank (s : State) : Nat := getF s HP_GRP_STS_RANK
/-- R304: whether a rank is present in the group; one in CONFLICT counts as not present. -/
def rankPresent (s : State) (r : Nat) : Bool := bitN (getF s HP_GRP_STS_PRESENT) r == 1 && bitN (getF s HP_GRP_STS_CONFLICT) r == 0

/-! ## Connections -/

/-- The index of a connection in CD_TR_TX and CD_TR_RX: rank, endpoint, class. -/
def connIx (r e k : Nat) : Nat := 15 * r + 3 * e + k
/-- The key of a connection of endpoint `ep`. -/
def connKey (ep i : Nat) : Nat := ep * 240 + i
def txGet (s : State) (ep i : Nat) : ConnTx := tabGet (fun _ => ConnTx.reset) s.net.tx (connKey ep i)
def txMod (s : State) (ep i : Nat) (f : ConnTx → ConnTx) : State :=
  netMod s (fun n => { n with tx := tabMod (fun _ => ConnTx.reset) n.tx (connKey ep i) f })
def rxGet (s : State) (ep i : Nat) : ConnRx := tabGet (fun _ => ConnRx.reset) s.net.rx (connKey ep i)
def rxMod (s : State) (ep i : Nat) (f : ConnRx → ConnRx) : State :=
  netMod s (fun n => { n with rx := tabMod (fun _ => ConnRx.reset) n.rx (connKey ep i) f })

/-- Table 8-5: the virtual queue of a class. -/
def classVq (k : Nat) : Nat := if k = 2 then 1 else if k = 1 then 2 else 3
/-- The class that a virtual queue carries. -/
def vqClass (vq : Nat) : Nat := if vq = 1 then 2 else if vq = 2 then 1 else 0

/-! ## Paths (R292, R294, R299) -/

/-- Path `p` of channel `n` to a rank, if it is up: its rope code, and its relay. The rope belongs to the channel and is UP; its far
end is the rank, or the relay (assumption 22). -/
def pathUp (s : State) (n r p : Nat) : Option (Nat × Option Nat) :=
  let w := bitsOf (rd s (CD_TR_ROUTE n r)) (16 * p + 15) (16 * p)
  let q := w % 32
  let via := bitsN w 9 6
  if (ropeField n q).isNone ∨ ropeState s (q - 1) ≠ 3 then none
  else
    let peer := getF s (OE_ROPE_PEER_RANK (q - 1))
    if bitN w 5 = 1 then (if peer = via then some (q - 1, some via) else none)
    else if peer = r then some (q - 1, none) else none

/-- The paths of channel `n` to a rank that are up, lowest number first: path, rope, relay. -/
def pathsUp (s : State) (n r : Nat) : List (Nat × Nat × Option Nat) :=
  (List.range 4).filterMap (fun p => (pathUp s n r p).map (fun x => (p, x.1, x.2)))

/-- R292: the channel whose paths an endpoint uses: itself, or for the hub the lowest-numbered ACTIVE channel with a path up. -/
def pathChan (s : State) (ep r : Nat) : Option Nat :=
  if ep < 4 then some ep else (List.range 4).find? (fun n => dieUp s n && !(pathsUp s n r).isEmpty)

/-- R292, R295: the path of the first copy of a segment, and the second copy's rope and relay. -/
def copies (s : State) (ep r k : Nat) : Option ((Nat × Nat × Option Nat) × Option (Nat × Option Nat)) :=
  match pathChan s ep r with
  | none => none
  | some n =>
    match pathsUp s n r with
    | [] => none
    | p :: t =>
      if k ≠ 2 then some (p, none)
      else match t.find? (fun x => x.2.1 != p.2.1) with
        | some x => some (p, some x.2)
        | none =>
          let others := ((List.range 3).map (fun i => (n + 1 + i) % 4)).filter (fun m => dieUp s m)
          some (p, (others.filterMap (fun m => (pathsUp s m r).head?)).head?.map (·.2))

/-! ## Sending -/

/-- A segment goes out on a rope, through a relay if one is named. -/
def emit (s : State) (vq : Nat) (g : Seg) (p : Nat × Option Nat) : State :=
  pushBytes s p.1 vq (segBytes { g with viaEn := p.2.isSome, via := p.2.getD 0 })

/-- Send, or send again, one segment of a connection on the path that R292 and R296 give: the segment with its ropes, if there is a
path. A control segment is dual-sent (R295). -/
def sendOne (s : State) (ep i : Nat) (t : TxSeg) (again : Bool) : Option (TxSeg × State) :=
  let k := i % 3
  let vq := classVq k
  let g := { t.seg with resent := t.seg.resent || again }
  match t.named with
  | some q =>
    if q < 24 ∧ ropeState s q = 3 then some ({ t with seg := g, ropes := [q] }, emit s vq g (q, none)) else none
  | none =>
    match copies s ep g.dstRank k with
    | none => none
    | some (p, second) =>
      let g := { g with dual := decide (k = 2) }
      let s := emit s vq g p.2
      let s := setF s (CD_TR_TX_PATH ep i) (if ep < 4 then p.1 else (pathChan s ep g.dstRank).getD 0)
      if k ≠ 2 then some ({ t with seg := g, ropes := [p.2.1] }, s)
      else match second with
        | some q => some ({ t with seg := g, ropes := [p.2.1, q.1] }, emit s vq g q)
        | none => some ({ t with seg := g, ropes := [p.2.1] }, flag s (CD_TR_STS_SINGLE (if ep < 4 then ep else (pathChan s ep g.dstRank).getD 0)))

/-- OUT follows the unacknowledged segments. -/
def showOut (s : State) (ep i : Nat) : State := setF s (CD_TR_TX_OUT ep i) (txGet s ep i).unacked.length

/-- A segment takes the next TSEQ of its connection and is sent. -/
def launchSeg (s : State) (ep i : Nat) (t : TxSeg) : Option State :=
  let q := getF s (CD_TR_TX_NEXT ep i)
  let t := { t with seg := { t.seg with tseq := q, gen := getF s (CD_TR_TX_GEN ep i) } }
  (sendOne s ep i t false).map (fun x =>
    let s := txMod x.2 ep i (fun c => { c with unacked := c.unacked ++ [x.1] })
    showOut (setF s (CD_TR_TX_NEXT ep i) (q + 1)) ep i)

/-- R286: open a connection: its generation advances and its OPEN goes first, with TSEQ 0. -/
def openConn (s : State) (ep i : Nat) (named : Option Nat) : Option State :=
  if (txGet s ep i).isOpen then some s
  else
    let s1 := setF (addF s (CD_TR_TX_GEN ep i) 1) (CD_TR_TX_NEXT ep i) 0
    let g : Seg := ⟨1, 0, false, false, false, false, ownRank s, ep, i / 15, i % 15 / 3, 0, 0, 0, 0, []⟩
    (launchSeg s1 ep i ⟨g, named, none, []⟩).map (fun s => txMod s ep i (fun c => { c with isOpen := true }))

/-- R289, R297: send the segments of a connection that wait, while there is a path and room in the window. -/
def pumpConn (ep i : Nat) : Nat → State → State
  | 0, s => s
  | k + 1, s =>
    let c := txGet s ep i
    match c.waiting with
    | [] => s
    | t :: rest =>
      if 4096 ≤ c.unacked.length then s
      else match openConn s ep i t.named with
        | none => s
        | some s =>
          if 4096 ≤ (txGet s ep i).unacked.length then s
          else match launchSeg s ep i t with
            | none => s
            | some s => pumpConn ep i k (txMod s ep i (fun c => { c with waiting := rest }))

def pumpWaiting (s : State) (ep i : Nat) : State := pumpConn ep i (txGet s ep i).waiting.length s

/-- A new segment of a connection. -/
def sendSeg (s : State) (ep : Nat) (k kind dstRank dstEp arg addr : Nat) (body : List Byte) (named : Option Nat) (eng : Option (Nat × Nat)) : State :=
  let g : Seg := ⟨kind, 0, false, false, decide (k = 1), false, ownRank s, ep, dstRank, dstEp, 0, 0, arg, addr, body⟩
  let i := connIx dstRank dstEp k
  pumpWaiting (txMod s ep i (fun c => { c with waiting := c.waiting ++ [⟨g, named, eng, []⟩] })) ep i

/-- Every connection sends what waits: a rope has come up. R297: ranks with a path are reachable again. -/
def pumpAll (s : State) : State :=
  let s := s.net.tx.foldl (fun s e => pumpWaiting s (e.1 / 240) (e.1 % 240)) s
  (List.range 4).foldl (fun s n => setF s (CD_TR_STS_UNREACH n)
    ((List.range 16).foldl (fun a r => if bitN a r = 1 ∧ !(pathsUp s n r).isEmpty then a - 2 ^ r else a) (getF s (CD_TR_STS_UNREACH n)))) s

/-- R291, R293: send again those unacknowledged segments of a connection that satisfy `p`, in TSEQ order. -/
def resendSegs (s : State) (ep i : Nat) (p : TxSeg → Bool) : State :=
  let (l, s) := (txGet s ep i).unacked.foldl (fun (a : List TxSeg × State) t =>
    if p t then
      match sendOne a.2 ep i t true with
      | some (t, s) => (a.1 ++ [t], addF s (CD_TR_TX_RESENDS ep i) 1)
      | none => (a.1 ++ [{ t with ropes := [] }], a.2)
    else (a.1 ++ [t], a.2)) ([], s)
  txMod s ep i (fun c => { c with unacked := l })

/-- R296: the promised segments of a rope that has gone DOWN or HELD travel on the paths of R292 from now on. -/
def unname (s : State) (r : Nat) : State :=
  let clear (t : TxSeg) : TxSeg := if t.named = some r then { t with named := none } else t
  let s := netMod s (fun n => { n with
    tx := n.tx.map (fun e => (e.1, { e.2 with waiting := e.2.waiting.map clear, unacked := e.2.unacked.map clear })) })
  match ropeChan r with
  | some n =>
    let held := (ledAll s n).filter (fun e => e.2.kind == 3 && !e.2.released && byteN e.2.req 40 1 == r + 1)
    netMod s (fun x => { x with moved := held.foldl (fun l e => if l.contains (n, e.1) then l else l ++ [(n, e.1)]) x.moved })
  | none => s

/-- R293: CONNECTION_REROUTE: a rope has handed back its flits; every unacknowledged segment sent on it goes out again. -/
def reroute (s : State) (r : Nat) : State :=
  let s := unname s r
  let s := s.net.tx.foldl (fun s e => resendSegs s (e.1 / 240) (e.1 % 240) (fun t => t.ropes.contains r)) s
  s.net.tx.foldl (fun s e => pumpWaiting s (e.1 / 240) (e.1 % 240)) s

/-- R293: the link of a rope hands back its unacknowledged flits and those not yet sent. -/
def handBack (s : State) (r : Nat) : State :=
  let s := ropeMod s r (fun x => { x with out := [], sent := [], bufs := [[], [], []] })
  reroute (setF s (OE_ROPE_STS_UNACK r) 0) r

/-- R291: TRANSPORT_TIMEOUT of connection `i` of endpoint `ep`: every unacknowledged segment is sent again. -/
def execTransportTimeout (ep : Fin 5) (i : Fin 240) (s : State) : Out :=
  .next (resendSegs s ep i (fun _ => true))

/-- R297: RANK_UNREACHABLE: a rank that is present has had no path up for 1 ms. -/
def execRankUnreachable (n : Die) (r : Fin 16) (s : State) : Out :=
  .next (if rankPresent s r ∧ r.val ≠ ownRank s ∧ (pathsUp s n r).isEmpty ∧ bitN (getF s (CD_TR_STS_UNREACH n)) r = 0 then
      let s := setF s (CD_TR_STS_UNREACH n) (getF s (CD_TR_STS_UNREACH n) + 2 ^ r.val)
      let s := addF (flag s (CD_TR_STS_UNREACH_EVT n)) (CD_TR_STS_UNREACH_OCC n) 1
      reportCh s 0x0702 n 0x070 r (rd s (CD_TR_STS n)).toNat
    else s)

/-! ## Package segments (R276) -/

/-- R276: whether a rope of die `a` is steered to die `d` and carries flits. -/
def directIp (s : State) (a d : Nat) : Bool :=
  (List.range 10).any (fun rho => ownerOf rho == a && destOf s rho == some d && ropeState s (24 + rho) == 3)

/-- R276: the path of a package segment: 0 a rope of its own, 1 a relay, 2 the bond lanes through the hub; none while the hub is absent
and no rope leads there. -/
def ipPath (s : State) (a d : Nat) : Option Nat :=
  if directIp s a d then some 0
  else if a < 4 ∧ d < 4 ∧ (List.range 5).any (fun m => m != a && m != d && directIp s a m && directIp s m d) then some 1
  else if (a < 4 && (dieGet s a).hubAbsent) || (d < 4 && (dieGet s d).hubAbsent) then none
  else some 2

/-- Count a package segment of die `a` to die `d`. -/
def countSeg (s : State) (a d path : Nat) : State :=
  let s := addF s (CD_GW_CNT_SEGMENTS a d) 1
  if path = 0 then s else addF s (CD_GW_CNT_RELAYED a d) 1

/-! ## Receiving (R286, R289, R294) -/

/-- R289: CUM advances over the numbers received; the bitmap shows the next 64. -/
def advanceCum (ep i : Nat) : Nat → State → State
  | 0, s => s
  | k + 1, s =>
    let q := (getF s (CD_TR_RX_CUM ep i) + 1) % 2 ^ 32
    if (rxGet s ep i).marks.contains q then
      advanceCum ep i k (setF (rxMod s ep i (fun c => { c with marks := c.marks.filter (· != q) })) (CD_TR_RX_CUM ep i) q)
    else s

/-- R289: TSEQ `q` has been received and dealt with. -/
def markRx (s : State) (ep i q : Nat) : State :=
  let s := rxMod s ep i (fun c => { c with marks := q :: c.marks, due := true })
  let s := advanceCum ep i (rxGet s ep i).marks.length s
  let cum := getF s (CD_TR_RX_CUM ep i)
  let m := (rxGet s ep i).marks
  wr s (CD_TR_RX ep i 1) (BitVec.ofNat 64 ((List.range 64).foldl (fun a j => if m.contains ((cum + 1 + j) % 2 ^ 32) then a + 2 ^ j else a) 0))

/-- R289: whether a number is new to a connection: beyond CUM, within the window, not marked. -/
def freshRx (s : State) (ep i q : Nat) : Bool :=
  let d := (q + 2 ^ 32 - getF s (CD_TR_RX_CUM ep i)) % 2 ^ 32
  decide (1 ≤ d ∧ d ≤ 4096) && !(rxGet s ep i).marks.contains q

/-- R294: RELAY_FORWARD: a segment to be relayed goes out on a rope that leads directly to its destination, or is dropped. -/
def relay (s : State) (vq n : Nat) (g : Seg) : State :=
  let direct (m : Nat) : Option (Nat × Option Nat) := ((pathsUp s m g.dstRank).find? (fun p => p.2.2.isNone)).map (·.2)
  match direct n with
  | some p => emit s vq g p
  | none => addF s (CD_TR_STS_RELAY_DROP n) 1

/-- The first segment of a kind that has arrived with no earlier one of the same sender, receiver and queue: its place, rope, queue. -/
def firstArrived (l : List (Nat × Nat × Seg)) (kind : Nat) : Option (Nat × Nat × Seg × Nat) :=
  let same (a b : Nat × Nat × Seg) : Bool :=
    a.2.1 == b.2.1 && a.2.2.srcRank == b.2.2.srcRank && a.2.2.srcEp == b.2.2.srcEp && a.2.2.dstRank == b.2.2.dstRank && a.2.2.dstEp == b.2.2.dstEp
  let rec go (seen : List (Nat × Nat × Seg)) (i : Nat) : List (Nat × Nat × Seg) → Option (Nat × Nat × Seg × Nat)
    | [] => none
    | a :: t => if a.2.2.kind = kind ∧ !seen.any (same a) then some (a.1, a.2.1, a.2.2, i) else go (a :: seen) (i + 1) t
  go [] 0 l

/-- The segments of reserved kinds, and those for another rank that name no relay, are discarded (assumption 23). -/
def stray (s : State) (g : Seg) : Bool :=
  !((1 ≤ g.kind && g.kind ≤ 0x0B)) || (!g.viaEn && g.dstRank != ownRank s) || decide (4 < g.dstEp)

/-- Take the first arrived segment of a kind: relayed, discarded as stale (R286) or as a duplicate (R289), or to be dealt with by
`k`, which is given the connection: endpoint and index. `seq` says that the kind is sequenced. -/
def takeSeg (s : State) (kind : Nat) (seq : Bool) (k : State → Nat → Nat → Seg → State) : State :=
  let s := netMod s (fun n => { n with arrived := n.arrived.filter (fun a => !stray s a.2.2) })
  match firstArrived s.net.arrived kind with
  | none => s
  | some (r, vq, g, at_) =>
    let s := netMod s (fun n => { n with arrived := listDel n.arrived at_ })
    if g.viaEn then relay s vq ((ropeChan r).getD 0) { g with viaEn := false, via := 0 }
    else
      let ep := g.dstEp
      let i := connIx g.srcRank g.srcEp (vqClass vq)
      if !seq then k s ep i g
      else if !(rxGet s ep i).isOpen ∨ g.gen ≠ getF s (CD_TR_RX_GEN ep i) then s
      else if !freshRx s ep i g.tseq then addF s (CD_TR_RX_DUP ep i) 1
      else k s ep i g

/-- R286: OPEN: a new generation is accepted; the connection starts again after TSEQ 0. -/
def execOpenConn (s : State) : Out :=
  .next (takeSeg s 1 false (fun s ep i g =>
    if (rxGet s ep i).isOpen ∧ g.gen = getF s (CD_TR_RX_GEN ep i) then addF s (CD_TR_RX_DUP ep i) 1
    else
      let s := rxMod s ep i (fun _ => ⟨true, [], [], true⟩)
      setFs (wr s (CD_TR_RX ep i 1) 0) [(CD_TR_RX_GEN ep i, g.gen), (CD_TR_RX_CUM ep i, 0)]))

/-- R289: TRANSPORT_ACK_TIMER: an ACK goes back to the sender of a connection: CUM in body bytes 0-3, the bitmap in bytes 4-11
(assumption 24). -/
def execTransportAckTimer (ep : Fin 5) (i : Fin 240) (s : State) : Out :=
  .next (if (rxGet s ep i).due then
      match copies s ep (i.val / 15) 0 with
      | none => s
      | some (p, _) =>
        let body := leBytes 4 (getF s (CD_TR_RX_CUM ep i)) ++ leBytes 8 (rd s (CD_TR_RX ep i 1)).toNat
        let g : Seg := ⟨2, 0, false, false, false, false, ownRank s, ep, i.val / 15, i.val % 15 / 3, 0, getF s (CD_TR_RX_GEN ep i), i.val % 3, 0, body⟩
        emit (rxMod s ep i (fun c => { c with due := false })) 1 g p.2
    else s)

/-- R289: a segment whose kind is delivered in TSEQ order is received: it is marked and held. -/
def holdSeg (s : State) (ep i : Nat) (g : Seg) : State :=
  markRx (rxMod s ep i (fun c => { c with held := c.held ++ [g] })) ep i g.tseq

/-- R289: the held segment of a connection that is next in order: all before it have been received and none of them is held. -/
def nextHeld (s : State) (key : Nat) (c : ConnRx) : Option Seg :=
  let ep := key / 240
  let i := key % 240
  let age (g : Seg) : Nat := (getF s (CD_TR_RX_CUM ep i) + 2 ^ 32 - g.tseq) % 2 ^ 32
  let ready := c.held.filter (fun g => decide (age g < 2 ^ 31))
  ready.find? (fun g => ready.all (fun h => decide (age h ≤ age g)))

/-- Deliver a held segment of a kind that is next in order and satisfies `p`. -/
def deliverNext (s : State) (kind : Nat) (p : Seg → Bool) (k : State → Nat → Seg → State) : State :=
  match s.net.rx.find? (fun e => match nextHeld s e.1 e.2 with | some g => g.kind == kind && p g | none => false) with
  | none => s
  | some e =>
    match nextHeld s e.1 e.2 with
    | none => s
    | some g => k (rxMod s (e.1 / 240) (e.1 % 240) (fun c => { c with held := c.held.filter (fun h => h.tseq != g.tseq) })) (e.1 / 240) g

/-- The kinds delivered in order: receive one that has arrived, then deliver one that is next. -/
def takeOrdered (s : State) (kind : Nat) (p : Seg → Bool) (k : State → Nat → Seg → State) : State :=
  deliverNext (takeSeg s kind true holdSeg) kind p k

end Sys2Proof.Machine
end

