-- ==== Sys2Proof/Machine/Xlate.lean ====
section
/-! DEFINITION. Address spaces, reachable addresses, page-table walks, translation caches and their invalidation, and HBM training
(R181-R195). -/
namespace Sys2Proof.Machine

/-! ## Who may reach what (R183, R185) -/

/-- The channels whose memory channel n reaches: the members of its span, or itself. -/
def reach (s : State) (n : Nat) : List Nat :=
  (List.range 4).filter (fun d => sameSpan s n d)

/-- R183: the channel whose address spaces channel n uses. -/
def xOwner (s : State) (n : Nat) : Nat := (spanMembers (spanOf s n)).headD n

/-- R185: whether an access on behalf of channel n may reach a physical address. -/
def accessOk (s : State) (n pa : Nat) : Bool :=
  populated pa &&
  (if hostBase ≤ pa then true
   else if pa < 0x8000000000 then (reach s n).contains (pa / 0x2000000000)
   else if pa < 0x10040000000 then (reach s n).contains ((pa - 0x10000000000) / 0x10000000) && decide (pa % 0x10000000 < 0x7F00000)
   else (reach s n).contains ((pa - 0x20000000000) / 0x20000000))

/-! ## Caches (R193) -/

def XEnt.covers (e : XEnt) (asid va : Nat) : Bool := (e.g || e.asid == asid) && decide (e.va ≤ va ∧ va < e.va + e.size)

/-- Remove the last entry that no pin set locks. -/
def dropOldest : List XEnt → List XEnt
  | [] => []
  | e :: t => if t.any (fun x => x.locks == 0) then e :: dropOldest t else if e.locks = 0 then t else e :: t

/-- Install an entry as most recently used; the least recently used unlocked entry leaves a full cache. -/
def install (cap : Nat) (e : XEnt) (l : List XEnt) : List XEnt :=
  let l := l.filter (fun x => !(x.va == e.va && x.size == e.size && x.asid == e.asid && x.g == e.g))
  e :: (if cap ≤ l.length then dropOldest l else l)

/-- Use an entry: it becomes most recently used. -/
def touch (e : XEnt) (l : List XEnt) : List XEnt := e :: l.filter (· != e)

/-- R193, R158: the capacity of the hub cache that serves channel n. -/
def hubCap (s : State) (n : Nat) : Nat := 16384 * max 1 (spanMembers (spanOf s n)).length

/-- Look an address up in the die cache, then the hub cache, which fills the die cache. -/
def lookupX (s : State) (n asid va : Nat) : Option XEnt × State :=
  match (dieGet s n).dieCache.find? (fun e => e.covers asid va) with
  | some e => (some e, dieMod s n (fun d => { d with dieCache := touch e d.dieCache }))
  | none =>
    let o := xOwner s n
    if (dieGet s n).hubAbsent then (none, s)
    else match (dieGet s o).hubCache.find? (fun e => e.covers asid va) with
      | some e =>
        let s := dieMod s o (fun d => { d with hubCache := touch e d.hubCache })
        (some e, dieMod s n (fun d => { d with dieCache := install 4096 { e with locks := 0 } d.dieCache }))
      | none => (none, s)

/-! ## Walks (R189-R193) -/

/-- What a translation or a walk answers: a physical address, a miss, a fault with its kind (Table 6-9), the level and entry of the
failure, or that a table read waits. -/
inductive XRes where
  | ok (pa : Nat) (s : State)
  | miss (s : State)
  | fault (kind level entry : Nat) (s : State)
  | wait (s : State)

/-- R190: the check of an entry read at a level; the fault it raises, if any. -/
def checkEnt (s : State) (n : Nat) (level : Nat) (e : Nat) : Option Nat :=
  let leaf := bitN e 1
  if bitN e 0 = 0 then some 1
  else if bitsN e 15 12 ≠ 0 ∨ bitsN e 63 52 ≠ 0 ∨ (level = 0 ∧ leaf = 1) ∨ (level = 2 ∧ leaf = 0) ∨ (level ≠ 2 ∧ bitN e 5 = 1)
      ∨ (level = 1 ∧ leaf = 1 ∧ bitsN e 28 16 ≠ 0) then some 4
  else if !accessOk s n (bitsN e 51 16 * 65536) then some 3
  else none

/-- The physical address field of an entry. -/
def entPa (e : Nat) : Nat := bitsN e 51 16 * 65536

/-- Read a table entry: the entry, or the fault or wait that stops the walk. -/
def readEnt (s : State) (n level pa : Nat) : Nat × XRes :=
  if !accessOk s n pa then (0, .fault 3 level 0 s)
  else match devRead s n pa 8 with
    | .wait s => (0, .wait s)
    | .ok d bad s =>
      let e := leVal d
      if bad then (e, .fault 5 level e s)
      else match checkEnt s n level e with
        | some k => (e, .fault k level e s)
        | none => (e, .ok pa s)

/-- R193: install in the walk cache, 256 entries, most recently used first. -/
def walkPut (s : State) (o : Nat) (e : WEnt) : State :=
  dieMod s o (fun d => { d with walkCache := (e :: d.walkCache.filter (fun x => !(x.asid == e.asid && x.level == e.level && x.idx == e.idx))).take 256 })

/-- The cached translation that a leaf entry gives. -/
def leafEnt (asid va level e : Nat) : XEnt :=
  let g := bitN e 4 == 1
  let r := bitN e 2 == 1
  let w := bitN e 3 == 1
  if level = 1 then ⟨asid, g, va / 2 ^ 29 * 2 ^ 29, 2 ^ 29, entPa e, r, w, 0⟩
  else if bitN e 5 = 1 then ⟨asid, g, va / 2 ^ 21 * 2 ^ 21, 2 ^ 21, entPa e - 65536 * bitsN va 20 16, r, w, 0⟩
  else ⟨asid, g, va / 65536 * 65536, 65536, entPa e, r, w, 0⟩

/-- A walk's leaf: the entry is installed in both caches unless the access is forbidden. -/
def finishWalk (s : State) (n asid va level e : Nat) (write : Bool) : XRes :=
  if level = 2 ∧ bitN e 5 = 1 ∧ (entPa e < 65536 * bitsN va 20 16 ∨ (entPa e - 65536 * bitsN va 20 16) % 2 ^ 21 ≠ 0) then .fault 4 2 e s
  else
    let x := leafEnt asid va level e
    if (write && !x.w) || (!write && !x.r) then .fault 2 level e s
    else
      let s := dieMod s (xOwner s n) (fun d => { d with hubCache := install (hubCap s n) x d.hubCache })
      let s := dieMod s n (fun d => { d with dieCache := install 4096 x d.dieCache })
      .ok (x.pa + (va - x.va)) s

/-- R190: the last level. -/
def walk2 (s : State) (n asid va e1 : Nat) (write : Bool) : XRes :=
  match readEnt s n 2 (entPa e1 + 8 * bitsN va 28 16) with
  | (e2, .ok _ s) => finishWalk s n asid va 2 e2 write
  | (_, r) => r

/-- R190: levels 1 and 2, from a valid L0 entry. -/
def walk1 (s : State) (n asid va e0 : Nat) (write : Bool) : XRes :=
  let o := xOwner s n
  match (dieGet s o).walkCache.find? (fun w => w.asid == asid && w.level == 1 && w.idx == va / 2 ^ 29) with
  | some w => walk2 s n asid va w.ent write
  | none =>
    match readEnt s n 1 (entPa e0 + 8 * bitsN va 41 29) with
    | (e1, .ok _ s) =>
      if bitN e1 1 = 1 then finishWalk s n asid va 1 e1 write
      else walk2 (walkPut s o ⟨asid, 1, va / 2 ^ 29, e1⟩) n asid va e1 write
    | (_, r) => r

/-- R190: a page-table walk on behalf of channel n. -/
def walk (s : State) (n asid va : Nat) (write : Bool) : XRes :=
  let o := xOwner s n
  let root := rd s (CH_XLT_ROOT o asid)
  if bitsOf root 0 0 = 0 then .fault 1 0 root.toNat s
  else match (dieGet s o).walkCache.find? (fun w => w.asid == asid && w.level == 0 && w.idx == va / 2 ^ 42) with
    | some w => walk1 s n asid va w.ent write
    | none =>
      match readEnt s n 0 (bitsOf root 51 9 * 512 + 8 * bitsN va 47 42) with
      | (e0, .ok _ s) => walk1 (walkPut s o ⟨asid, 0, va / 2 ^ 42, e0⟩) n asid va e0 write
      | (_, r) => r

/-- R181, R190, R193: translate an address that is virtual (`phys` false) or physical. -/
def xlate (s : State) (n asid va : Nat) (phys write : Bool) : XRes :=
  if phys then (if accessOk s n va then .ok va s else .fault 3 0 0 s)
  else if 2 ^ 48 ≤ va then .fault 3 0 0 s
  else match lookupX s n asid va with
    | (some e, s) =>
      if (write && !e.w) || (!write && !e.r) then .fault 2 (if e.size = 2 ^ 29 then 1 else 2) 0 s
      else
        let pa := e.pa + (va - e.va)
        if accessOk s n pa then .ok pa s else .fault 3 2 0 s
    | (none, s) => .miss s

/-! ## Invalidation (R194) -/

/-- What a CH_XLT_INV operation covers. -/
def invCovers (op asid va : Nat) (e : XEnt) : Bool :=
  match op with
  | 1 => e.covers asid va
  | 2 => !e.g && e.asid == asid
  | 3 => e.g
  | _ => true

/-- The walk-cache entries that an operation covers. -/
def invWalk (op asid va : Nat) (w : WEnt) : Bool :=
  match op with
  | 1 => w.asid == asid && (if w.level = 0 then w.idx == va / 2 ^ 42 else w.idx == va / 2 ^ 29)
  | 2 => w.asid == asid
  | _ => true

/-- Remove the unlocked entries that an operation covers from every cache of the channel or span. -/
def invCaches (s : State) (n op asid va : Nat) : State :=
  (reach s n).foldl (fun s d => dieMod s d (fun x => { x with
    dieCache := x.dieCache.filter (fun e => !invCovers op asid va e),
    hubCache := x.hubCache.filter (fun e => !invCovers op asid va e || e.locks != 0),
    walkCache := x.walkCache.filter (fun w => !invWalk op asid va w) })) s

/-- The engines of the channel or span with a block that uses virtual addresses and has not been committed, as 128 n + e; a parked
engine's block has committed nothing (Table 6-11). -/
def busyBlocks (s : State) (n : Nat) : List Nat :=
  (reach s n).flatMap (fun d => (dieGet s d).engines.filterMap (fun e =>
    match e.2 with
    | some x => if !x.taken.isEmpty && bitN (byteN x.d.raw 1 1) 1 == 0 && getF s (CD_DMA_ENG_STATE d e.1) == 1 then some (128 * d + e.1) else none
    | none => none))

/-- R194: carry out the command in CH_XLT_INV, whose STATUS is 1. -/
def invCmd (s : State) (n : Nat) : State :=
  let op := getF s (CH_XLT_INV_OP n)
  let asid := getF s (CH_XLT_INV_ASID n)
  let va := getF s (CH_XLT_INV_VA n) * 65536
  if op = 0 ∨ 4 < op then setF s (CH_XLT_INV_STATUS n) 3
  else
    let o := xOwner s n
    let skip := ((dieGet s o).hubCache.filter (fun e => invCovers op asid va e && e.locks != 0)).length
    let s := invCaches s n op asid va
    let s := setF s (CH_XLT_INV_LOCKED_SKIP n) (min skip 4095)
    dieMod s n (fun d => { d with invWait := some (busyBlocks s n) })

/-- A block has been committed, or its descriptor has ended: invalidations wait for it no longer. -/
def invBlockDone (s : State) (n e : Nat) : State :=
  (List.range 4).foldl (fun s d => dieMod s d (fun x => { x with invWait := x.invWait.map (fun l => l.filter (· != 128 * n + e)) })) s

/-- R194: INV_COMPLETE. -/
def execInvComplete (n : Die) (s : State) : Out :=
  .next (if (dieGet s n).invWait = some [] ∧ getF s (CH_XLT_INV_STATUS n) = 1 then
      setF (dieMod s n (fun d => { d with invWait := none })) (CH_XLT_INV_STATUS n) 2
    else s)

/-! ## HBM (R187, R188) -/

/-- R187: the stacks of a die begin training. -/
def trainHbm (s : State) (n : Nat) : State := setFs s [(CD_HBM_STS_STATE n 0, 1), (CD_HBM_STS_STATE n 1, 1)]

/-- R187: HBM_TRAINING: training and zero-initialisation of stack 2n + k complete. -/
def execHbmTraining (n : Die) (k : Fin 2) (ok : Bool) (s : State) : Out :=
  .next (let st := getF s (CD_HBM_STS_STATE n k)
    if st ≠ 1 ∧ st ≠ 2 then s
    else if ok then
      let lo := (2 * n.val + k) * 0x1000000000
      let inStack (a : Nat) : Bool := decide (lo ≤ a ∧ a < lo + 0x1000000000)
      setF { s with mem := tabDrop inStack s.mem, poisoned := s.poisoned.filter (fun l => !inStack (64 * l)) } (CD_HBM_STS_STATE n k) 3
    else reportCh (setF s (CD_HBM_STS_STATE n k) 4) 0x0501 n 0x060 (2 * n + k) (rd s (CD_HBM_STS n k)).toNat)

/-- R188: an error in the line of an address, in HBM or a bed. -/
def memErrorAs (s : State) (pa : Nat) : MemErr → State
  | .none => s
  | .ce =>
    match hbmOf pa with
    | some (n, k) => satF s (CD_HBM_STS_CE_CNT n k) 1
    | none => s
  | .ue =>
    match hbmOf pa with
    | some (n, k) => reportCh (flag (poisonLine s pa) (CD_HBM_STS_UE n k)) 0x0502 n 0x060 (2 * n + k) (rd s (CD_HBM_STS n k)).toNat
    | none =>
      if 0x10000000000 ≤ pa ∧ pa < 0x10040000000 then
        reportCh (poisonLine s pa) 0x0502 ((pa - 0x10000000000) / 0x10000000) 0x060 8 0
      else s

/-- R188, R356: the check of a line as it is accessed, with the error that the memory reports; an injected check is uncorrectable. -/
def memError (s : State) (pa : Nat) (err : MemErr) : State :=
  match hbmOf pa with
  | some (n, k) => withCheck s 2 (2 * n + k) true (fun ok s => memErrorAs s pa (if ok then err else .ue))
  | none =>
    let off := pa - 0x10000000000
    withCheck s 3 (off / 0x10000000 * 256 + Config.bedSlice (off % 0x10000000) % 32) true (fun ok s => memErrorAs s pa (if ok then err else .ue))

end Sys2Proof.Machine
end

