-- ==== Sys2Proof/Machine/Dma.lean ====
section
/-! DEFINITION. DMA descriptors, queues, engines and blocks, their faults and the fault queue (R136, R201-R212). -/
namespace Sys2Proof.Machine

/-! ## Descriptors (Tables 6-6 and 6-7) -/

def QDesc.op (d : QDesc) : Nat := bitsN d.raw 3 0
def QDesc.kn (d : QDesc) : Bool := bitN (byteN d.raw 1 1) 0 == 1
def QDesc.phys (d : QDesc) : Bool := bitN (byteN d.raw 1 1) 1 == 1
def QDesc.asid (d : QDesc) : Nat := byteN d.raw 2 1
def QDesc.elem (d : QDesc) : Nat := byteN d.raw 3 1
def QDesc.knot (d : QDesc) : Nat := byteN d.raw 4 2
def QDesc.put (d : QDesc) : Nat := byteN d.raw 6 2
def QDesc.srcA (d : QDesc) : Nat := byteN d.raw 8 8
def QDesc.dstA (d : QDesc) : Nat := byteN d.raw 16 8
def QDesc.len (d : QDesc) : Nat := byteN d.raw 24 8
def QDesc.idx (d : QDesc) : Nat := byteN d.raw 32 8
def QDesc.next (d : QDesc) : Nat := byteN d.raw 40 8
def QDesc.tag (d : QDesc) : Nat := byteN d.raw 48 4
/-- GATHER or SCATTER. -/
def QDesc.elems (d : QDesc) : Bool := d.op == 2 || d.op == 3

/-- R203, R206, R307: whether a descriptor obeys Table 6-6 and its operation's rules. -/
def QDesc.ok (d : QDesc) : Bool :=
  decide (1 ≤ d.op ∧ d.op ≤ 5) && bitsN d.raw 7 4 == 0 && bitsN (byteN d.raw 1 1) 7 3 == 0 && byteN d.raw 52 12 == 0
  && (if d.elems then decide (5 ≤ d.elem ∧ d.elem ≤ 12) && decide (d.len ≤ 2 ^ 32) else d.elem == 0 && d.idx == 0)
  && (if d.op = 5 then bitsN d.put 7 6 == 0 else d.put == 0)
  && (if d.op = 1 ∨ d.op = 5 then d.srcA % 64 == 0 && d.dstA % 64 == 0 && d.len % 64 == 0 else true)
  && (if d.op = 4 then d.dstA % 8 == 0 && d.len % 8 == 0 else true)
  && (if d.elems then true else decide (d.len ≤ 2 ^ 40 - 64))
  && (if d.op = 2 then d.dstA % 2 ^ d.elem == 0 else true)
  && (d.src.isNone || (!d.phys && d.next == 0)) && (d.origin.isNone || d.next == 0)

/-- Table 6-7: where the block that begins at position `pos` (byte or element) ends. -/
def QDesc.blockEnd (d : QDesc) (pos : Nat) : Nat :=
  if d.elems then min d.len ((pos / (4096 / 2 ^ d.elem) + 1) * (4096 / 2 ^ d.elem))
  else min d.len (((d.dstA + pos) / 4096 + 1) * 4096 - d.dstA)

/-- The bytes or elements that one piece of a block covers. -/
def QDesc.step (d : QDesc) (pos : Nat) : Nat := if d.elems then 1 else if d.op = 4 then d.blockEnd pos - pos else 64

/-! ## Engines -/

def engGet (s : State) (n e : Nat) : Option EngX := tabGet (fun _ => none) (dieGet s n).engines e
def engPut (s : State) (n e : Nat) (x : Option EngX) : State :=
  dieMod s n (fun d => { d with engines := tabSet (fun _ => none) d.engines e x })
def engMod (s : State) (n e : Nat) (f : EngX → EngX) : State := engPut s n e ((engGet s n e).map f)

/-! ## Fault records (Table 6-10) -/

/-- A record's bytes as a number, from values placed by byte offset. -/
def packRec : List (Nat × Nat) → Nat
  | [] => 0
  | (off, v) :: t => v * 2 ^ (8 * off) + packRec t

/-- The descriptor's part of a record. -/
def descRec (s : State) (n : Nat) (e : Option Nat) (d : QDesc) (event kind flags va pos ent : Nat) : Nat :=
  packRec [(0, event), (1, kind), (2, flags), (3, d.asid), (4, e.getD 0xFF), (5, n), (6, if d.src.isSome then d.ticket else 0),
    (8, va % 2 ^ 64), (16, d.addr), (24, pos), (32, d.tag), (36, (d.src.map (·.1)).getD 0xFFFF), (38, (d.src.map (·.2)).getD 0xFF),
    (40, epochOf s n), (48, ent % 2 ^ 64)]

/-- A record joins those waiting for the fault queue. -/
def pushRec (s : State) (n body : Nat) (after : After) : State :=
  dieMod s n (fun d => { d with faultQ := d.faultQ ++ [⟨body, after, false⟩] })

/-- R171, R211: a fault of an admitted transfer, or of a launch's own DMA work outside its pin set. -/
def descRisk (s : State) (n : Nat) (d : QDesc) : State :=
  match d.entry with
  | some i => ledRisk s n i 5
  | none => s

/-- R208: an engine parks: it waits in HELD until its record is written, keeping what it has taken of the block. `pos` is the restart
point; `next` says that the fetch of NEXT failed. -/
def parkEng (s : State) (n e kind level va pos ent : Nat) (dst next : Bool) : State :=
  match engGet s n e with
  | some x =>
    let flags := level + 16 * b2n dst + 32 * b2n next
    let body := descRec s n (some e) x.d 1 kind flags va (if next then 0 else pos) ent
    let s := engMod s n e (fun x => { x with miss := none, leg := .build })
    let s := setFs s [(CD_DMA_ENG_STATE n e, 3), (CD_DMA_ENG_KIND n e, kind), (CD_DMA_ENG_POS n e, pos)]
    let s := addF s (CD_DMA_ENG_PARK_OCC n e) 1
    let s := pushRec s n body (.park e)
    let s := descRisk s n x.d
    if kind = 5 then reportCh s 0x0503 n 0x902 e (body % 2 ^ 256)
    else if kind = 6 then reportCh s 0x0504 n 0x902 e (body % 2 ^ 256)
    else s
  | none => s

/-! ## Descriptor ends (R205, R209, R210) -/

/-- R136: a ticket stops being outstanding. -/
def retireTicket (s : State) (n : Nat) (d : QDesc) : State :=
  match d.src with
  | some (b, _) => brickMod s n b (fun x => { x with tickets := x.tickets.filter (· != d.ticket) })
  | none => s

/-- A DMA response for a host-queue command joins those returning (R307): its kind in byte 0, its ticket in bytes 2-3. -/
def hostDone (s : State) (n : Nat) (d : QDesc) (kind : Nat) : State :=
  match d.origin with
  | some (.queue r q csn) => pushResponse s n r q csn (kind + d.ticket * 2 ^ 16)
  | _ => s

/-- R205: a descriptor is complete or has ended: its ticket retires and its arrival is made. -/
def descArrive (s : State) (n : Nat) (d : QDesc) (kind : Nat) : State :=
  let s := hostDone (retireTicket s n d) n d kind
  if d.kn then arriveFrom s n d.knot else s

/-- Whether an admitted transfer still has a descriptor queued or in an engine other than `e`. -/
def entryBusy (s : State) (n i e : Nat) : Bool :=
  (dieGet s n).dmaQ.any (fun d => d.entry == some i) ||
  (dieGet s n).engines.any (fun x => x.1 != e && (match x.2 with | some y => y.d.entry == some i | none => false))

/-- R172: an admitted transfer ends with its last descriptor; an aborted one breaks its entry. -/
def entryDone (s : State) (n e : Nat) (d : QDesc) (abort : Bool) : State :=
  match d.entry with
  | some i =>
    if getF s (CH_LEDGER_KIND n i) = 1 then s
    else
      let s := if abort ∧ liveLed (getF s (CH_LEDGER_STATE n i)) then setF (ledEnd s n i 5 3) (CH_LEDGER_LATE n i) 0xFFFFFFFF else s
      if entryBusy s n i e then s else ledStopped s n i
  | none => s

/-- An engine is free again; its reservation stays. -/
def freeEng (s : State) (n e : Nat) : State := invBlockDone (setF (engPut s n e none) (CD_DMA_ENG_STATE n e) 0) n e

/-- R210, R212: a descriptor ends with a kind: the record is queued, and what follows waits for it. `e` is its engine, if any. -/
def endDesc (s : State) (n : Nat) (e : Option Nat) (d : QDesc) (kind pos : Nat) (arrive abort : Bool) : State :=
  let s := pushRec s n (descRec s n e d 2 kind 0 0 pos 0) (.finish e d arrive abort)
  match e with
  | some e => setFs s [(CD_DMA_ENG_STATE n e, 3), (CD_DMA_ENG_KIND n e, kind)]
  | none => s

/-- R205, R208: every block of an engine's descriptor has committed. With a NEXT, the engine goes on to fetch it. -/
def completeDesc (s : State) (n e : Nat) (x : EngX) : State :=
  let last := x.d.next == 0
  if x.poisoned then
    let s := if last then s else engMod s n e (fun x => { x with nextWait := true, taken := [], poisoned := false })
    if last then endDesc s n (some e) x.d 11 x.d.len true false
    else descArrive (pushRec s n (descRec s n (some e) x.d 2 11 0 0 x.d.len 0) .none) n x.d 11
  else
    let s := descArrive s n x.d 0
    if last then freeEng (entryDone s n e x.d false) n e
    else engMod s n e (fun x => { x with nextWait := true, taken := [] })

/-- R202, R203: an engine takes a descriptor: a malformed one ends at once; one with nothing to move is complete. -/
def takeDesc (s : State) (n e : Nat) (d : QDesc) : State :=
  let x : EngX := ⟨d, [], none, 0, .build, false, false⟩
  let s := engPut s n e (some x)
  let s := setFs s [(CD_DMA_ENG_STATE n e, 1), (CD_DMA_ENG_KIND n e, 0), (CD_DMA_ENG_TICKET n e, d.ticket), (CD_DMA_ENG_POS n e, d.pos),
    (CD_DMA_ENG_BLOCK n e, d.blk)]
  let s := wr s (CD_DMA_ENG n e 1) (BitVec.ofNat 64 d.addr)
  let s := match d.entry with
    | some i => ledBegin s n i
    | none => s
  if !d.ok then endDesc s n (some e) d 10 0 true true
  else if d.len ≤ d.pos then completeDesc s n e x
  else s

/-! ## Starting (R165, R201) -/

/-- Whether an engine may take a queued descriptor: one reserved by an entry only that entry's, another only those of no entry that
reserves engines. An admitted transfer begins at its epoch. -/
def mayTake (s : State) (n e : Nat) (d : QDesc) : Bool :=
  let begun := match d.entry.bind (fun i => ledGet s n i) with
    | some x => x.kind == 1 || epochReached (epochOf s n) x.start
    | none => true
  begun &&
  (if getF s (CD_DMA_ENG_RSVD n e) = 1 then d.entry == some (getF s (CD_DMA_ENG_ENTRY n e))
   else match d.entry.bind (fun i => ledGet s n i) with
    | some x => x.engines == 0 || x.released
    | none => true)

/-- R201: DMA_DESCRIPTOR_START: a free engine takes the oldest descriptor it may take. -/
def execDmaDescriptorStart (n : Die) (e : Fin 64) (s : State) : Out :=
  .next (if (engGet s n e).isSome ∨ getF s (CD_DMA_ENG_STATE n e) ≠ 0 ∨ pkgSafe s then s
    else match firstIdx (mayTake s n e) (dieGet s n).dmaQ with
      | none => s
      | some i =>
        match (dieGet s n).dmaQ[i]? with
        | none => s
        | some d => takeDesc (dieMod s n (fun x => { x with dmaQ := listDel x.dmaQ i })) n e d)

/-! ## Blocks (R204) -/

/-- What happens to an engine while it takes a piece: the piece, or why it stops. -/
inductive TakeRes where
  | got (p : Piece) (s : State)
  | stop (s : State)

/-- What stops an engine at a translation. -/
def stopAt (n e va pos : Nat) (dst : Bool) : XRes → TakeRes
  | .ok _ s => .stop s
  | .wait s => .stop s
  | .miss s => .stop (engMod s n e (fun x => { x with miss := some (va, dst) }))
  | .fault k l ent s => .stop (parkEng s n e k l va pos ent dst false)

/-- Read the source bytes of a piece and complete it. -/
def readPiece (s : State) (n spa len dpa : Nat) (err : MemErr) : TakeRes :=
  let s := memError s spa err
  match devRead s n spa len with
  | .wait s => .stop s
  | .ok d bad s => .got ⟨dpa, d, bad⟩ s

/-- Translate the destination, then read the source; the destination of a PUT is translated where it lies. -/
def destThenRead (s : State) (n e : Nat) (d : QDesc) (pos spa dva len : Nat) (err : MemErr) : TakeRes :=
  if d.op = 5 then readPiece s n spa len dva err
  else match xlate s n d.asid dva d.phys true with
    | .ok dpa s => readPiece s n spa len dpa err
    | r => stopAt n e dva pos true r

/-- R203: the element index of element `i`. -/
def readIndex (s : State) (n e : Nat) (d : QDesc) (i : Nat) (k : Nat → State → TakeRes) : TakeRes :=
  let va := d.idx + 4 * i
  match xlate s n d.asid va d.phys false with
  | .ok pa s =>
    (match devRead s n pa 4 with
     | .wait s => .stop s
     | .ok b _ s => k (leVal b) s)
  | r => stopAt n e va i false r

/-- R203: an element address that is not a multiple of the element size parks the engine. -/
def elemPiece (s : State) (n e : Nat) (d : QDesc) (pos sva dva : Nat) (err : MemErr) : TakeRes :=
  let sz := 2 ^ d.elem
  if sva % sz ≠ 0 then .stop (parkEng s n e 8 0 sva pos 0 false false)
  else if dva % sz ≠ 0 then .stop (parkEng s n e 8 0 dva pos 0 true false)
  else match xlate s n d.asid sva d.phys false with
    | .ok spa s => destThenRead s n e d pos spa dva sz err
    | r => stopAt n e sva pos false r

/-- R204: take the piece at position `pos`. -/
def takePiece (s : State) (n e : Nat) (d : QDesc) (pos : Nat) (err : MemErr) : TakeRes :=
  match d.op with
  | 4 =>
    let dva := d.dstA + pos
    (match xlate s n d.asid dva d.phys true with
     | .ok dpa s => .got ⟨dpa, ((List.range (d.step pos / 8)).map (fun _ => leBytes 8 d.srcA)).flatten, false⟩ s
     | r => stopAt n e dva pos true r)
  | 2 => readIndex s n e d pos (fun i s => elemPiece s n e d pos (d.srcA + i * 2 ^ d.elem) (d.dstA + pos * 2 ^ d.elem) err)
  | 3 => readIndex s n e d pos (fun i s => elemPiece s n e d pos (d.srcA + pos * 2 ^ d.elem) (d.dstA + i * 2 ^ d.elem) err)
  | _ =>
    let sva := d.srcA + pos
    match xlate s n d.asid sva d.phys false with
    | .ok spa s => destThenRead s n e d pos spa (d.dstA + pos) 64 err
    | r => stopAt n e sva pos false r

/-- Take up to `k` pieces from `pos` to the end of the block; the answer says whether the block is whole. -/
def takePieces (n e : Nat) (d : QDesc) (stop : Nat) : Nat → State → Nat → MemErr → Bool × State
  | 0, s, pos, _ => (decide (stop ≤ pos), s)
  | k + 1, s, pos, err =>
    if stop ≤ pos then (true, s)
    else match takePiece s n e d pos err with
      | .stop s => (false, s)
      | .got p s =>
        let s := engMod s n e (fun x => { x with taken := x.taken ++ [p], poisoned := x.poisoned || p.bad })
        takePieces n e d stop k s (pos + d.step pos) .none

/-- The die whose memory holds an address; host memory is reached through the hub. -/
def paDie (pa : Nat) : Option Nat :=
  if pa < 0x8000000000 then some (pa / 0x2000000000)
  else if pa < 0x10040000000 then some ((pa - 0x10000000000) / 0x10000000)
  else if pa < hostBase then some ((pa - 0x20000000000) / 0x20000000)
  else none

/-- R276: whether a block goes to another die of the package. -/
def crossDie (n : Nat) (l : List Piece) : Bool :=
  l.any (fun p => match paDie p.dst with | some d => d != n | none => false)

/-- The position after the pieces taken. -/
def takenEnd (d : QDesc) (pos : Nat) (l : List Piece) : Nat := if d.op = 4 ∧ l ≠ [] then d.blockEnd pos else pos + d.step pos * l.length

/-- R296: the rope that an admitted rope transfer names, as a Rope code, unless it has gone DOWN or HELD since. -/
def namedRope (s : State) (n : Nat) (d : QDesc) : Option Nat :=
  d.entry.bind (fun i => (ledGet s n i).bind (fun x =>
    if x.kind = 3 ∧ !s.net.moved.contains (n, i) then some (byteN x.req 40 1 - 1) else none))

/-- R286, R288, R296: the whole block of a PUT goes out as a segment with its CRC-32C; one that cannot parks the engine with kind REMOTE.
A PUT to the package's own rank is at its destination (assumption 26). -/
def sendPut (s : State) (n e : Nat) (x : EngX) : State :=
  let r := bitsN x.d.put 3 0
  let ch := bitsN x.d.put 5 4
  let pos := getF s (CD_DMA_ENG_POS n e)
  let va := x.d.dstA + pos
  let named := namedRope s n x.d
  let prom := match x.d.entry.bind (fun i => ledGet s n i) with | some y => y.kind == 3 | none => false
  if r = ownRank s then engMod s n e (fun x => { x with leg := .atDest })
  else if !rankPresent s r ∨ named.any (fun q => getF s (OE_ROPE_PEER_RANK q) != r) then parkEng s n e 7 0 va pos 0 true false
  else
    let data := (x.taken.map (·.data)).flatten
    let s := engMod s n e (fun x => { x with leg := .toPkg })
    sendSeg s n (if prom then 1 else 0) 3 r ch (bitsN x.d.put 15 8) va (data ++ leBytes 4 (crc32c data)) named (some (n, e))

/-- R204: DMA_BLOCK_SEND: a running engine translates and reads what is left of its block; the whole block is sent. A translation that
misses waits for TRANSLATION_WALK. -/
def execDmaBlockSend (n : Die) (e : Fin 64) (err : MemErr) (s : State) : Out :=
  .next (match engGet s n e with
    | some x =>
      if getF s (CD_DMA_ENG_STATE n e) = 1 ∧ x.leg = .build ∧ x.miss.isNone ∧ !x.nextWait ∧ !pkgSafe s then
        let pos := getF s (CD_DMA_ENG_POS n e)
        let (whole, s) := takePieces n e x.d (x.d.blockEnd pos) 512 s (takenEnd x.d pos x.taken) err
        if whole then
          match engGet s n e with
          | some x => if x.d.op = 5 then sendPut s n e x else engMod s n e (fun x => { x with leg := if crossDie n x.taken then .toDie else .atDest })
          | none => s
        else s
      else s
    | none => s)

/-- R276: DMA_BLOCK_SEGMENT: a block on its way to another die of the package arrives there. -/
def execDmaBlockSegment (n : Die) (e : Fin 64) (s : State) : Out :=
  .next (match engGet s n e with
    | some x =>
      if x.leg = .toDie ∧ !gatewayHeld s n then
        let d := ((x.taken.filterMap (fun p => paDie p.dst)).find? (· != n.val)).getD n
        match ipPath s n d with
        | some p => engMod (countSeg s n d p) n e (fun x => { x with leg := .atDest })
        | none => s
      else s
    | none => s)

/-- Write the pieces of a block. -/
def commitPieces (n : Nat) (err : MemErr) : State → List Piece → State
  | s, [] => s
  | s, p :: t => commitPieces n .none (memError (devWrite s n p.dst p.data p.bad) p.dst err) t

/-- R177: whether the pin set of handle `h` of channel `n` covers a block, and in which address space. -/
def pinRange (s : State) (n h va len : Nat) : Option Nat :=
  match tabGet (fun _ => none) (dieGet s n).pins h with
  | some p => if p.complete ∧ !p.unpin then (p.ranges.find? (fun r => decide (r.1 ≤ va ∧ va + len ≤ r.1 + 65536 * r.2.1))).map (·.2.2) else none
  | none => none

/-- What a PUT block meets at its destination channel (R207, R290). -/
inductive PutRes where
  | done (s : State)
  | refused
  | wait

/-- R207: a PUT block is committed where the named pin set covers it. -/
def commitPut (s : State) (n h va : Nat) (data : List Byte) (bad : Bool) : PutRes :=
  match pinRange s n h va data.length with
  | none => .refused
  | some asid =>
    let r := match xlate s n asid va false true with
      | .miss s => walk s n asid va true
      | r => r
    match r with
    | .ok pa s => .done (devWrite s n pa data bad)
    | .wait _ => .wait
    | _ => .refused

/-- R205: the block of an engine has committed: the next one begins, or the descriptor is complete. -/
def blockDone (s : State) (n e : Nat) : State :=
  match engGet s n e with
  | none => s
  | some x =>
    let pos := x.d.blockEnd (getF s (CD_DMA_ENG_POS n e))
    let x := { x with taken := [], bad := 0, leg := Leg.build }
    let s := invBlockDone (engPut s n e (some x)) n e
    let s := setF s (CD_DMA_ENG_POS n e) pos
    if x.d.len ≤ pos then completeDesc s n e x else addF s (CD_DMA_ENG_BLOCK n e) 1

/-- R204: a block is re-sent; its eighth consecutive mismatch parks the engine. -/
def blockBad (s : State) (n e : Nat) : State :=
  match engGet s n e with
  | none => s
  | some x =>
    if 7 ≤ x.bad then
      let pos := getF s (CD_DMA_ENG_POS n e)
      parkEng (engMod s n e (fun x => { x with bad := 0 })) n e 6 0 0 pos 0 false false
    else satF (engMod s n e (fun x => { x with bad := x.bad + 1 })) (CD_DMA_ENG_RESENT n e) 1

/-- R204: DMA_BLOCK_COMMIT: the destination recomputes the block's CRC; `crcOk` says whether it matches. -/
def execDmaBlockCommit (n : Die) (e : Fin 64) (crcOk : Bool) (err : MemErr) (s : State) : Out :=
  .next (match engGet s n e with
    | some x =>
      if x.leg = .atDest ∧ !pkgSafe s then
        withCheck s 4 (e + 256 * n) crcOk (fun crcOk s =>
        if !crcOk then blockBad s n e
        else if x.d.op = 5 then
          let pos := getF s (CD_DMA_ENG_POS n e)
          match commitPut s (bitsN x.d.put 5 4) (bitsN x.d.put 15 8) (x.d.dstA + pos) ((x.taken.map (·.data)).flatten) (x.taken.any (·.bad)) with
          | .done s => blockDone s n e
          | .refused => parkEng s n e 7 0 (x.d.dstA + pos) pos 0 true false
          | .wait => s
        else blockDone (commitPieces n err s x.taken) n e)
      else s
    | none => s)

/-! ## Walks and chains -/

/-- R177: whether the pin set of handle `h`, made through any member of the span, covers an address. -/
def pinCovers (s : State) (n h asid va : Nat) : Bool :=
  (reach s n).any (fun d => match tabGet (fun _ => none) (dieGet s d).pins h with
    | some p => p.ranges.any (fun r => r.2.2 == asid && decide (r.1 ≤ va ∧ va < r.1 + 65536 * r.2.1))
    | none => false)

/-- R171: an access of promised work to a page outside its pin set. -/
def outsidePin (s : State) (n : Nat) (d : QDesc) (va : Nat) : State :=
  match d.entry.bind (fun i => (ledGet s n i).map (fun x => (i, x))) with
  | some (i, x) => if pinCovers s n x.pin d.asid va then s else ledRisk s n i 5
  | none => s

/-- R190, R193: TRANSLATION_WALK: the walk for the address that an engine waits for completes. -/
def execTranslationWalk (n : Die) (e : Fin 64) (s : State) : Out :=
  .next (match engGet s n e with
    | some x =>
      (match x.miss with
       | some (va, dst) =>
         if (dieGet s n).hubAbsent then s
         else match walk s n x.d.asid va dst with
           | .ok _ s => outsidePin (engMod s n e (fun x => { x with miss := none })) n x.d va
           | .miss s => s
           | .wait s => s
           | .fault k l ent s =>
             parkEng s n e k l va (takenEnd x.d (getF s (CD_DMA_ENG_POS n e)) x.taken) ent dst x.nextWait
       | none => s)
    | none => s)

/-- R208: DESCRIPTOR_FETCH: the engine fetches the descriptor that NEXT names and goes on with it. -/
def execDescriptorFetch (n : Die) (e : Fin 64) (s : State) : Out :=
  .next (match engGet s n e with
    | some x =>
      if x.nextWait ∧ x.miss.isNone ∧ getF s (CD_DMA_ENG_STATE n e) = 1 ∧ !pkgSafe s then
        let va := x.d.next
        match xlate s n x.d.asid va x.d.phys false with
        | .miss s => engMod s n e (fun x => { x with miss := some (va, false) })
        | .wait s => s
        | .fault k l ent s => parkEng s n e k l va 0 ent false true
        | .ok pa s =>
          match devRead s n pa 64 with
          | .wait s => s
          | .ok b bad s =>
            if bad then parkEng s n e 11 0 va 0 0 false true
            else takeDesc s n e { x.d with raw := leVal b, addr := va, pos := 0, blk := 0 }
      else s
    | none => s)

/-! ## The fault queue (R212) -/

/-- What follows a fault record once it is written. -/
def afterRec (s : State) (n : Nat) : After → State
  | .none => s
  | .park e => if getF s (CD_DMA_ENG_STATE n e) = 3 then setF s (CD_DMA_ENG_STATE n e) 2 else s
  | .finish e d arrive abort =>
    let kind := match e with | some e => getF s (CD_DMA_ENG_KIND n e) | none => 12
    let s := if arrive then descArrive s n d kind else hostDone (retireTicket s n d) n d kind
    let s := entryDone s n (e.getD 128) d abort
    match e with
    | some e => freeEng s n e
    | none => s

/-- Records that the fault queue holds. -/
def ringSize (base size : Nat) : Nat := 2 ^ (min size 9 + base)

/-- R212, R418: FAULT_QUEUE_RECORD: the oldest waiting record is written when a slot is free. During a hub absence it waits for
re-attach. -/
def execFaultQueueRecord (n : Die) (s : State) : Out :=
  .next (match (dieGet s n).faultQ with
    | [] => s
    | r :: t =>
      let size := ringSize 6 (getF s (CH_FQ_SIZE n))
      let tail := getF s (CH_FQ_PTR_TAIL n) % size
      if (dieGet s n).hubAbsent then s
      else if (tail + 1) % size = getF s (CH_FQ_PTR_HEAD n) % size then
        (if r.noted then s
         else flag (dieMod s n (fun d => { d with faultQ := { r with noted := true } :: t })) (CH_FQ_STS_FULL n))
      else
        let seq := (dieGet s n).faultSeq
        let s := dieMod s n (fun d => { d with faultQ := t, faultSeq := (seq + 1) % 2 ^ 16 })
        let s := devWrite s n (getF s (CH_FQ_BASE n) * 4096 + 64 * tail) (leBytes 64 (r.body + seq * 2 ^ (8 * 46))) false
        let s := setF s (CH_FQ_PTR_TAIL n) ((tail + 1) % size)
        let s := addF s (CH_FQ_STS_RECORDS n) 1
        let s := if getF s (CH_FQ_KN_EN n) = 1 then arriveFrom s n (getF s (CH_FQ_KN_KNOT n)) else s
        afterRec (irqSelf s n) n r.after)

/-! ## Commands (R209) -/

/-- R209: carry out the command in CH_DMA_CMD, whose STATUS is 1. -/
def dmaCmd (s : State) (n : Nat) : State :=
  let e := getF s (CH_DMA_CMD_ENGINE n)
  let op := getF s (CH_DMA_CMD_OP n)
  let sts := CH_DMA_CMD_STATUS n
  match engGet s n e with
  | some x =>
    if getF s (CD_DMA_ENG_STATE n e) = 2 ∧ op = 1 then setFs s [(CD_DMA_ENG_STATE n e, 1), (sts, 2)]
    else if getF s (CD_DMA_ENG_STATE n e) = 2 ∧ op = 2 then
      let s := setF s sts 2
      endDesc s n (some e) x.d 12 (getF s (CD_DMA_ENG_POS n e)) (!x.nextWait) true
    else setF s sts 3
  | none => setF s sts 3

/-- Table 6-11: every descriptor of a die's engines and queue ends ABORTED; the hub writes their records. -/
def abortDma (s : State) (n : Nat) : State :=
  let s := ((dieGet s n).engines.filter (fun e => decide (e.1 < 68))).foldl (fun s e => match e.2 with
    | some x =>
      if (dieGet s n).faultQ.any (fun r => match r.after with | .finish (some k) _ _ _ => k == e.1 | _ => false) then s
      else endDesc s n (some e.1) x.d 12 (getF s (CD_DMA_ENG_POS n e.1)) (!x.nextWait) true
    | none => s) s
  let q := (dieGet s n).dmaQ
  q.foldl (fun s d => endDesc s n none d 12 d.pos true true) (dieMod s n (fun x => { x with dmaQ := [] }))

/-! ## Submission (R136, R206) -/

/-- The lowest free slot of the DMA queue. -/
def freeSlot (s : State) (n : Nat) : Nat :=
  let used := (dieGet s n).dmaQ.map (·.slot)
  ((List.range (used.length + 1)).find? (fun i => !used.contains i)).getD 0

/-- A descriptor joins the queue: its slot's generation advances (R329). -/
def enqueueDesc (s : State) (n : Nat) (d : QDesc) : State :=
  let i := freeSlot s n
  addF (dieMod s n (fun x => { x with dmaQ := x.dmaQ ++ [{ d with slot := i }] })) (CD_DMAQ_GEN n i) 1

/-- Whether the die's queue is full. -/
def dmaFull (s : State) (n : Nat) : Bool := decide (4096 ≤ (dieGet s n).dmaQ.length)

/-- R136: dmaq. The descriptor of a launched ply belongs to its launch, which may hold reserved engines (R165). -/
def execDmaq (p : PlyId) (o : IOp) (s : State) : Out :=
  .next (issue 40 0 p o s (fun s =>
    let a := getA s p o.a + o.immW * 64
    match outOfStore a 64 with
    | some x => .trap 2 x false
    | none =>
      if a.toNat % 64 ≠ 0 then .trap 3 a.toNat false
      else if 8 ≤ (brickGet s p.n p.b).tickets.length ∨ dmaFull s p.n then .hold
      else
        let tk := getF s (CD_BK_DMA_NEXT_TICKET p.n p.b)
        let raw := putN (storeLE s p a.toNat 64) 16 8 (getF s (CD_BK_DMA_ASID p.n p.b))
        let entry := ((ledAll s p.n).find? (fun e => e.2.kind == 1 && e.2.acted && !e.2.released
          && e.2.plies.contains (4 * p.b + p.q))).map (·.1)
        let s := enqueueDesc s p.n ⟨raw, storePa p.n p.b a.toNat, some (p.b, p.q), tk, entry, 0, 0, 0, none⟩
        let s := brickMod s p.n p.b (fun x => { x with tickets := x.tickets ++ [tk] })
        .done (setS (addF s (CD_BK_DMA_NEXT_TICKET p.n p.b) 1) p o.d (BitVec.ofNat 64 tk))))

/-- R136: dmat. -/
def execDmat (p : PlyId) (o : IOp) (s : State) : Out :=
  .next (issue 41 0 p o s (fun s =>
    .done (setP s p o.d (!(brickGet s p.n p.b).tickets.contains ((getS s p o.a).toNat % 2 ^ 16)))))

end Sys2Proof.Machine
end

