-- ==== Sys2Proof/Machine/Admission.lean ====
section
/-! DEFINITION. The admission controller: requests, refusals, the worst-case model, acceptance, withdrawal, deadlines and promise
records (R161-R175). -/
namespace Sys2Proof.Machine

/-! ## Responses (R161, Table 5-2) -/

/-- A response goes where its request came from. -/
def respond (s : State) (n : Nat) (o : Origin) (w0 w1 : Nat) : State :=
  match o with
  | .submit =>
    let s := wr s (CH_ADM_RESP0 n) (BitVec.ofNat 64 w0)
    let s := wr s (CH_ADM_RESP1 n) (BitVec.ofNat 64 w1)
    setF s (CH_ADM_SUBMIT_STATUS n) 2
  | .queue r q csn => pushResponse s n r q csn (w0 + w1 * 2 ^ 64)

/-- The request at the front of the channel's queue leaves it. -/
def popAdm (s : State) (n : Nat) : State := dieMod s n (fun d => { d with admQ := d.admQ.drop 1, admBusy := false })

/-- A refusal. Table 5-2 gives the index and the epoch words no value for it: free values (assumption 4). -/
def refuse (s : State) (n : Nat) (o : Origin) (reason short : Nat) : State :=
  let (v, s) := draw s
  let s := satF (popAdm s n) (CH_ADM_STS_REFUSED n) 1
  respond s n o (v.toNat % 4096 + reason * 2 ^ 16 + min short 0xFFFFFFFF * 2 ^ 32) (v.toNat / 4096 % 2 ^ 48)

/-- An acceptance. -/
def accepted (s : State) (n : Nat) (o : Origin) (index slack : Nat) : State :=
  respond (popAdm s n) n o (index + 2 ^ 12 + min slack 0xFFFFFFFF * 2 ^ 32) (epochOf s n)

/-! ## Malformed requests (Tables 5-1 and 5-3) -/

/-- The offset, when a field is bad. -/
def badIf (b : Bool) (off : Nat) : List Nat := if b then [off] else []

/-- Offsets of the bad fields that every kind shares; the list rises. -/
def badCommon (r : Nat) : List Nat :=
  let k := byteN r 0 1
  let f := byteN r 1 1
  let dl := byteN r 8 4
  badIf (bitsN f 7 3 != 0 || (bitN f 0 == 1 && decide (4 ≤ k)) || (bitN f 1 == 1 && k != 1)) 1
  ++ badIf (decide (dl ≤ 10000000) && ((bitN f 0 == 1 && dl == 0) || (bitN f 0 == 0 && dl != 0))) 8
  ++ badIf (byteN r 12 4 != 0) 12 ++ badIf (bitsN (byteN r 22 2) 15 12 != 0) 22

/-- Offsets of the bad kind-specific fields. -/
def badKind (s : State) (n r : Nat) : List Nat :=
  match byteN r 0 1 with
  | 1 =>
    badIf (decide (383 < byteN r 24 2)) 24 ++ badIf (decide (383 < byteN r 26 2 ∨ byteN r 26 2 < byteN r 24 2)) 26
    ++ badIf (decide (15 < byteN r 28 1) || byteN r 28 1 == 0) 28 ++ badIf (decide (64 < byteN r 29 1)) 29
    ++ badIf (byteN r 32 4 % 8 != 0 || decide (0x100000 ≤ byteN r 32 4)) 32 ++ badIf (decide (64 < byteN r 45 1)) 45
    ++ badIf (decide (16 < byteN r 47 1)) 47 ++ badIf (byteN r 48 16 != 0) 48
  | 2 =>
    badIf (!accessOk s n (byteN r 24 8)) 24 ++ badIf (byteN r 40 1 == 0 || decide (8 < byteN r 40 1)) 40
    ++ badIf (decide (1 < byteN r 42 1)) 42 ++ badIf (decide (16 < byteN r 43 1) || (byteN r 42 1 == 0 && byteN r 43 1 != 0)) 43
    ++ badIf (byteN r 44 20 != 0) 44
  | 3 =>
    badIf (!accessOk s n (byteN r 24 8)) 24 ++ badIf (ropeField n (byteN r 40 1)).isNone 40
    ++ badIf (byteN r 41 1 == 0 || decide (16 < byteN r 41 1)) 41 ++ badIf (byteN r 43 21 != 0) 43
  | 4 =>
    badIf (!accessOk s n (byteN r 24 8)) 24 ++ badIf (byteN r 32 4 == 0 || decide (4096 < byteN r 32 4)) 32
    ++ badIf (byteN r 36 1 == 255 || (tabGet (fun _ => none) (dieGet s n).pins (byteN r 36 1)).isSome) 36
    ++ badIf (byteN r 37 1 == 0 || decide (3 < byteN r 37 1)) 37 ++ badIf (byteN r 38 26 != 0) 38
  | 5 =>
    badIf (byteN r 24 12 != 0) 24 ++ badIf ((tabGet (fun _ => none) (dieGet s n).pins (byteN r 36 1)).isNone) 36
    ++ badIf (byteN r 37 27 != 0) 37
  | 6 => badIf (byteN r 24 40 != 0) 24
  | _ => []

/-- R162, Table 5-4 reason 12: the offset of the first bad field. -/
def malformedReq (s : State) (n r : Nat) : List (Nat × Nat) :=
  let k := byteN r 0 1
  if k = 0 ∨ 6 < k then [(12, 0)]
  else match badCommon r ++ badKind s n r with
    | [] => []
    | b :: _ => [(12, b)]

/-! ## Refusal reasons (R162, Table 5-4) -/

/-- Reason 11: the channel admits nothing. -/
def channelOff (s : State) (n : Nat) : Bool :=
  getF s (CH_ADM_CTL_EN n) == 0 || getF s (FC_STS_FENCED n) == 1 || getF s (CH_DIE_STS_STATE n) != 3 || epochStale s n

/-- Whether a complete pin set exists under a handle, made through any member of the span. -/
def pinKnown (s : State) (n h : Nat) : Bool :=
  (reach s n).any (fun d => match tabGet (fun _ => none) (dieGet s d).pins h with
    | some p => p.complete && !p.unpin
    | none => false)

/-- Reasons 6 and 10 for a share of one rope: an uncertified rope is refused by naming its certificate (R5), a rope of an optical
engine that is not admitted is absent. -/
def ropeWhy (s : State) (n i share : Nat) : List (Nat × Nat) :=
  let r := fieldRope n i
  if 12 ≤ r ∧ r < 24 ∧ getF s HP_CAP_EFF_CERT_ROPE = 0 then [(10, 20)]
  else if r < 24 ∧ bitN (getF s HP_CAP_EFF_OE_ADMITTED) (ropeOe r) = 0 then [(6, 0xFFFFFFFF)]
  else match freeRope s n i with
    | none => [(6, share)]
    | some f => if f < share then [(6, share - f)] else []

/-- Reason 7: the pin set is missing; a promise whose work touches pages must name one (R178). A launch touches pages through the
engines it reserves. -/
def pinWhy (s : State) (n h : Nat) (promise touches : Bool) : List (Nat × Nat) :=
  if h ≠ 0xFF then (if pinKnown s n h then [] else [(7, 1)])
  else if promise && touches then [(7, 1)] else []

/-- An entry is a live launch. -/
def liveLaunch (s : State) (n i : Nat) : Option LedX :=
  match ledGet s n i with
  | some x => if x.kind = 1 ∧ liveLed (getF s (CH_LEDGER_STATE n i)) then some x else none
  | none => none

/-- The new entry of a request: everything but what acceptance fixes. -/
def newEntry (r start dEff : Nat) (pred : Option Nat) (tMax : Int) : LedX where
  req := r
  start := start
  pred := pred
  predDone := false
  holdE := 0
  deferred := false
  acted := false
  inE := false
  left := []
  tMax := tMax
  dEff := dEff
  stopped := none
  released := false
  noted := false

/-- R169: the predecessor that a request names, when it is a successor. -/
def predOf (s : State) (n r : Nat) : Option (Option LedX) :=
  if byteN r 0 1 = 1 ∧ bitN (byteN r 1 1) 1 = 1 then some (liveLaunch s n (byteN r 22 2 % 4096)) else none

/-- R169: ΔP_eff. -/
def dEffOf (s : State) (n r : Nat) : Nat :=
  match predOf s n r with
  | some (some x) => byteN r 30 2 - x.dP
  | _ => byteN r 30 2

/-- The reasons of Table 5-4 that apply to a request, but for 1, 2 and 12. -/
def whyNot (s : State) (n r : Nat) : List (Nat × Nat) :=
  let k := byteN r 0 1
  let p := bitN (byteN r 1 1) 0 == 1
  let x := newEntry r 0 0 none 0
  let off := if channelOff s n then [(11, 0)] else []
  let full := if 1 ≤ k ∧ k ≤ 3 ∧ 4096 ≤ (ledAll s n).length then [(8, 1)] else []
  off ++ full ++
  match k with
  | 1 =>
    let busy := (x.plies.filter (fun j => plyReserved s n j none || !plyFree s n j)).length
    (if busy = 0 ∨ badKind s n r ≠ [] then [] else [(3, busy)])
    ++ (if freeEngines s n < x.engines then [(4, x.engines - freeEngines s n)] else [])
    ++ (if freeMortar s n < x.mortar then [(5, x.mortar - freeMortar s n)] else [])
    ++ (List.range 8).flatMap (fun i => if x.usesRope n i then ropeWhy s n i (x.ropeShare n i) else [])
    ++ pinWhy s n x.pin p (x.engines != 0)
    ++ (if slewLim s n < dEffOf s n r then [(9, dEffOf s n r - slewLim s n)] else [])
    ++ (match predOf s n r with | some none => [(13, 0)] | _ => [])
  | 2 =>
    (if freeEngines s n < x.engines then [(4, x.engines - freeEngines s n)]
     else if freeHost s < x.host then [(4, x.host - freeHost s)] else [])
    ++ pinWhy s n x.pin p true
  | 3 =>
    (match ropeField n (byteN r 40 1) with
     | some i => ropeWhy s n i (byteN r 41 1)
     | none => [])
    ++ pinWhy s n x.pin p true
  | 5 =>
    if (reach s n).any (fun d => (ledAll s d).any (fun e => liveLed (getF s (CH_LEDGER_STATE d e.1)) && e.2.pin == byteN r 36 1))
    then [(13, 0)] else []
  | 6 => if getF s (CH_LEDGER_STATE n (byteN r 22 2 % 4096)) = 1 then [] else [(13, 0)]
  | _ => []

/-! ## The worst-case model (R163, Table 5-5) -/

def ceilDiv (a b : Nat) : Nat := (a + b - 1) / b

/-- The courses that hold a launched brick. -/
def LedX.courses (x : LedX) : List Nat := (List.range 16).filter (fun c => decide (x.first / 24 ≤ c ∧ c ≤ x.last / 24))

/-- R163: the thermal excursion allowance in force. -/
def allowance (s : State) (n : Nat) : Nat := min 40 (getF s (CH_ADM_CTL_ALLOW n))

/-- The largest step time over courses, in 1/16 ps. -/
def maxStep (s : State) (n : Nat) (cs : List Nat) : Nat := cs.foldl (fun m c => max m (getF s (CD_SPD_MON_STEP n c))) 0

/-- The highest temperature over courses, in 1/16 °C. -/
def maxTemp (s : State) (n : Nat) (cs : List Nat) : Int :=
  cs.foldl (fun m c => max m (sextN (getF s (CD_TEMP_TEMP n c)) 16)) (-32768)

/-- The wait until EPOCH, no less than 200 epochs. -/
def startWait (s : State) (n r : Nat) : Nat :=
  let e := byteN r 16 6
  if e = 0 ∨ epochReached (epochOf s n) e then 200 else max 200 ((e + 2 ^ 48 - epochOf s n) % 2 ^ 48)

/-- R169: G. -/
def slewBound (s : State) (n r : Nat) : Nat :=
  (if dEffOf s n r = 0 then 0 else 100000) +
  match predOf s n r with
  | some (some _) =>
    let i := byteN r 22 2 % 4096
    getF s (CH_LEDGER_MODEL n i) - (epochOf s n + 2 ^ 48 - getF s (CH_LEDGER_EPOCH n i)) % 2 ^ 48
  | _ => 0

/-- Table 5-5: the model time of a request, in ns, rounded up. A path 1 transfer without host shares has no finite one. -/
def modelTime (s : State) (n r : Nat) : Nat :=
  let x := newEntry r 0 0 none 0
  let bytes := byteN r 32 8
  match byteN r 0 1 with
  | 1 =>
    startWait s n r + slewBound s n r + byteN r 40 4
    + ceilDiv ((6 + byteN r 36 4) * maxStep s n x.courses * (10000 + 35 * allowance s n)) 160000000
  | 2 =>
    if byteN r 42 1 = 0 then 500 + ceilDiv (bytes * 1004) (1000 * 32 * byteN r 40 1)
    else if byteN r 43 1 = 0 then 2 ^ 40
    else 2000 + ceilDiv (bytes * 1004) (1000 * 4 * byteN r 43 1)
  | _ => 1000 + 50500 + ceilDiv (bytes * 128) (byteN r 41 1 * 2977)

/-- The reason of lowest number; the first of equal ones. -/
def lowest : List (Nat × Nat) → Option (Nat × Nat)
  | [] => none
  | w :: t => match lowest t with
    | none => some w
    | some v => if v.1 < w.1 then some v else some w

/-- R162: the reason for which a request is refused, with its SHORTFALL. -/
def refusal (s : State) (n r : Nat) : Option (Nat × Nat) :=
  match lowest (whyNot s n r ++ malformedReq s n r) with
  | some w => some w
  | none =>
    let dl := byteN r 8 4
    if 10000000 < dl then some (2, dl - 10000000)
    else if bitN (byteN r 1 1) 0 = 1 ∧ dl < modelTime s n r then some (1, modelTime s n r - dl)
    else none

/-! ## Acceptance (R164) -/

/-- The free ledger index of lowest number. -/
def freeIndex (s : State) (n : Nat) : Nat :=
  let used := (ledAll s n).map (·.1)
  ((List.range 4096).find? (fun i => !used.contains i)).getD 0

/-- R165: reserve engines: the unreserved ones of lowest number. -/
def reserveEngines (s : State) (n i : Nat) : Nat → State
  | 0 => s
  | k + 1 =>
    let s := reserveEngines s n i k
    match (List.range 64).find? (fun e => getF s (CD_DMA_ENG_RSVD n e) == 0) with
    | some e => setFs s [(CD_DMA_ENG_RSVD n e, 1), (CD_DMA_ENG_ENTRY n e, i)]
    | none => s

/-- Arm the ply slots of a launch. -/
def armPlies (n t pc : Nat) : State → List Nat → State
  | s, [] => s
  | s, k :: r => armPlies n t pc (armSlot s n (k / 4) (k % 4) t pc 1) r

/-- R171: the registers of a new entry. -/
def writeEntry (s : State) (n i r t : Nat) : State :=
  let p := bitN (byteN r 1 1) 0
  let acc := epochOf s n
  let s := wr s (CH_LEDGER n i 0) (BitVec.ofNat 64 (1 + p * 8 + byteN r 0 1 * 16 + byteN r 4 4 * 2 ^ 16))
  let s := wr s (CH_LEDGER n i 1) (BitVec.ofNat 64 acc)
  let s := wr s (CH_LEDGER n i 2) (BitVec.ofNat 64 (if p = 1 then (acc + byteN r 8 4) % 2 ^ 48 else 0))
  wr s (CH_LEDGER n i 3) (BitVec.ofNat 64 (if p = 1 then t else 0))

/-- R164: accept a launch, or a transfer whose first descriptor is `desc`. -/
def accept (s : State) (n : Nat) (o : Origin) (r : Nat) (desc : Option Nat) : State :=
  let i := freeIndex s n
  let t := modelTime s n r
  let slack := if bitN (byteN r 1 1) 0 = 1 then byteN r 8 4 - t else 0
  let succ := bitN (byteN r 1 1) 1 == 1
  let base := newEntry r 0 0 none 0
  let start := if byteN r 0 1 = 1 then (epochOf s n + startWait s n r) % 2 ^ 48
    else if byteN r 16 6 = 0 then epochOf s n else byteN r 16 6
  let eff := if byteN r 0 1 = 1 then dEffOf s n r else 0
  let x := { newEntry r start eff (if succ then some (byteN r 22 2 % 4096) else none) (maxTemp s n base.courses) with left := base.plies }
  let s := accepted s n o i slack
  let s := writeEntry (ledPut s n i (some x)) n i r t
  let s := reserveEngines s n i x.engines
  match desc with
  | some d => enqueueDesc s n ⟨d, byteN r 24 8, none, 0, some i, 0, 0, 0, none⟩
  | none => if succ then s else armPlies n start x.pc s x.plies

/-! ## The requests at the front of the queue -/

/-- The bytes of the front request: read at its address when it was submitted by address. `k` goes on with its origin and bytes. -/
def withRequest (s : State) (n : Nat) (k : Origin → Nat → State → State) : State :=
  match (dieGet s n).admQ with
  | [] => s
  | q :: t =>
    if (dieGet s n).hubAbsent ∨ (dieGet s n).admBusy ∨ restarting s (10 + n) then s
    else match q.raw with
      | some r => k q.origin r s
      | none =>
        if !populated q.addr then k q.origin 0 s
        else match devRead s n q.addr 64 with
          | .wait s => s
          | .ok b _ s => k q.origin (leVal b) (dieMod s n (fun d => { d with admQ := { q with raw := some (leVal b) } :: t }))

/-- Whether the front request is of the kind an event handles; a request of no kind is handled as a launch. -/
def kindFor (k r : Nat) : Bool :=
  let kk := byteN r 0 1
  kk == k || (k == 1 && (kk == 0 || decide (6 < kk)))

/-- R163: ADMISSION_LAUNCH. -/
def execAdmissionLaunch (n : Die) (s : State) : Out :=
  .next (withRequest s n (fun o r s =>
    if kindFor 1 r then
      match refusal s n r with
      | some w => refuse s n o w.1 w.2
      | none => accept s n o r none
    else s))

/-- A transfer request: its first descriptor is read as it is accepted. -/
def admitTransfer (s : State) (n k : Nat) : State :=
  withRequest s n (fun o r s =>
    if kindFor k r then
      match refusal s n r with
      | some w => refuse s n o w.1 w.2
      | none =>
        if dmaFull s n then s
        else match devRead s n (byteN r 24 8) 64 with
          | .wait s => s
          | .ok d _ s => accept s n o r (some (leVal d))
    else s)

/-- R163: ADMISSION_DMA_TRANSFER. -/
def execAdmissionDmaTransfer (n : Die) (s : State) : Out := .next (admitTransfer s n 2)
/-- R163: ADMISSION_ROPE_TRANSFER. -/
def execAdmissionRopeTransfer (n : Die) (s : State) : Out := .next (admitTransfer s n 3)

/-- R172: WITHDRAW. Table 5-2 gives word 0 of its acceptance the entry's index. -/
def execWithdraw (n : Die) (s : State) : Out :=
  .next (withRequest s n (fun o r s =>
    if kindFor 6 r then
      match refusal s n r with
      | some w => refuse s n o w.1 w.2
      | none =>
        let i := byteN r 22 2 % 4096
        let s := accepted s n o i 0
        match ledGet s n i with
        | none => s
        | some x =>
          let s := setF (ledEnd s n i 6 9) ⟨CH_LEDGER n i 0, 15, 15, 0⟩ 1
          let s := disarmAdm n s x.plies
          let s := dieMod s n (fun d => { d with dmaQ := d.dmaQ.filter (fun y => y.entry != some i) })
          ledRelease (ledMod s n i (fun x => { x with stopped := some 0, left := [] })) n i false
    else s))

/-! ## Deadlines and records (R172, R173) -/

/-- R172: DEADLINE_EXPIRY: an ACTIVE or AT_RISK promise whose deadline epoch has passed is BROKEN; it keeps its resources. -/
def execDeadlineExpiry (n : Die) (i : Fin 4096) (s : State) : Out :=
  .next (match ledGet s n i with
    | some x =>
      let st := getF s (CH_LEDGER_STATE n i)
      if getF s (CH_LEDGER_P n i) = 1 ∧ (st = 2 ∨ st = 4) ∧ x.stopped.isNone ∧ !epochStale s n
          ∧ epochReached (epochOf s n) (getF s (CH_LEDGER_DEADLINE n i)) then ledEnd s n i 5 2
      else s
    | none => s)

/-- Table 5-8: the record of a terminal entry. -/
def promiseRec (s : State) (n i : Nat) (x : LedX) : Nat :=
  let code := getF s (CH_LEDGER_END n i)
  let done := if code = 1 ∨ code = 2 ∨ code = 7 then x.stopped.getD 0 else 0
  packRec [(0, i), (2, getF s (CH_LEDGER_STATE n i)), (3, x.kind), (4, x.tag), (8, getF s (CH_LEDGER_EPOCH n i)),
    (14, getF s (CH_LEDGER_RISK n i)), (16, getF s (CH_LEDGER_DEADLINE n i)), (22, getF s (CH_LEDGER_SPLICES n i)), (24, done), (30, code)]

/-- R173: PROMISE_RECORD: a terminal entry whose work has stopped writes its record when the ring has room, and is FREE. -/
def execPromiseRecord (n : Die) (i : Fin 4096) (s : State) : Out :=
  .next (match ledGet s n i with
    | some x =>
      let size := ringSize 7 (getF s (CH_ADM_PRQ_SIZE n))
      let tail := getF s (CH_ADM_PRQ_PTR_TAIL n) % size
      if x.stopped.isNone ∨ liveLed (getF s (CH_LEDGER_STATE n i)) ∨ (dieGet s n).hubAbsent then s
      else if (tail + 1) % size = getF s (CH_ADM_PRQ_PTR_HEAD n) % size then
        (if x.noted then s else flag (ledMod s n i (fun x => { x with noted := true })) (CH_ADM_STS_PRQ_FULL n))
      else
        let s := devWrite s n (getF s (CH_ADM_PRQ_BASE n) * 4096 + 32 * tail) (leBytes 32 (promiseRec s n i x)) false
        let s := setF s (CH_ADM_PRQ_PTR_TAIL n) ((tail + 1) % size)
        let s := ledPut s n i none
        let s := setFs s [(CH_LEDGER_STATE n i, 0), (CH_LEDGER_END n i, 0)]
        if x.kn then arriveFrom s n x.knot else s
    | none => s)

/-- R167: entries of the channel whose hottest course exceeds its limit are at risk with cause THERMAL. -/
def thermalRisk (s : State) (n : Nat) : State :=
  (ledAll s n).foldl (fun s e =>
    if getF s (CH_LEDGER_STATE n e.1) = 2 ∧ e.2.kind = 1 ∧ e.2.tMax + 16 * (allowance s n : Int) < maxTemp s n e.2.courses
    then ledRisk s n e.1 2 else s) s

/-- R175, Table 5-7: the channel's epoch clock is lost: every live promise is BROKEN with END = EPOCH; its plies run on and its
resources stay. -/
def epochLoss (s : State) (n : Nat) : State :=
  (ledAll s n).foldl (fun s e =>
    if getF s (CH_LEDGER_P n e.1) = 1 ∧ liveLed (getF s (CH_LEDGER_STATE n e.1)) then
      setFs (ledEnd s n e.1 5 7) [(⟨CH_LEDGER n e.1 0, 15, 15, 0⟩, 1), (CH_LEDGER_LATE n e.1, 0xFFFFFFFF)]
    else s) s

end Sys2Proof.Machine
end

