-- ==== Sys2Proof/Machine/Light.lean ====
section
/-! DEFINITION. Lasers, strands and rings, their registers, and the assignment of spares (R222-R242). -/
namespace Sys2Proof.Machine

/-! ## Parts and their registers -/

def lightGet (s : State) (r : Nat) : LightX := tabGet (fun _ => LightX.reset) s.opt.light r
def lightMod (s : State) (r : Nat) (f : LightX → LightX) : State :=
  optMod s (fun o => { o with light := tabMod (fun _ => LightX.reset) o.light r f })

/-- The unit of a rope's parts: optical engine 0-7, or 8 for the interposer. -/
def optUnit (r : Nat) : Nat := if r < 24 then ropeOe r else 8
/-- R221: how many wavelengths a rope has. -/
def lamCount (r : Nat) : Nat := if r < 24 then 18 else 17
/-- The index of a strand or laser in its unit. -/
def strandIx (r l : Nat) : Nat := if r < 24 then 18 * ropeInOe r + l else 17 * (r - 24) + l

/-- One occurrence of bit `i` of OE_EVT of an engine, or of PI_EVT. -/
def optFlag (s : State) (u i : Nat) : State :=
  if u < 8 then flagAt s ⟨OE_EVT u, 7, 0, 0⟩ i else flagAt s ⟨PI_EVT, 9, 0, 0⟩ i

/-- R343: a fault of an optical part: scope the channel of the part, or the package for the interposer. -/
def reportOpt (s : State) (cause r inst detail : Nat) : State :=
  match (if r < 24 then ropeChan r else none) with
  | some n => report s ⟨cause, 2 ^ n, 5, 16 * ropeOe r, inst, detail, 0⟩
  | none => report s ⟨cause, 0, 6, 0, inst, detail, 0⟩

/-- The registers of a ring: those of engine k, ring i at 108 k + i, then the interposer's. -/
def ringAdr (g : Nat) : Nat := if g < 864 then OE_RING (g / 108) (g % 108) else PI_RING (g - 864)
def ringF (g hi lo : Nat) : Fld := ⟨ringAdr g, hi, lo, 0⟩
/-- The modulator ring of a strand. -/
def modRing (r l : Nat) : Nat := if r < 24 then 108 * ropeOe r + 36 * ropeInOe r + l else 864 + 17 * (r - 24) + l
/-- The drop ring of a wavelength of a receiving bank. -/
def bankRing (b l : Nat) : Nat := 864 + 170 + 17 * b + l
/-- The drop ring that receives a wavelength of rope `r` in this package: an external rope's own, or that of the bank to which an
interposer rope is steered. -/
def dropRing (s : State) (r l : Nat) : Option Nat :=
  if r < 24 then some (108 * ropeOe r + 36 * ropeInOe r + 18 + l)
  else if bankOf s (r - 24) < 14 then some (bankRing (bankOf s (r - 24)) l) else none
/-- The crosspoint ring that steers a strand of interposer rope ρ to a bank or a summing receiver (14 + RX). -/
def crossRing (rho l d : Nat) : Nat := 864 + 408 + 22 * (17 * rho + l) + d

/-- Table 7-9: the state of a laser: 0 OFF, 1 SPARE, 2 LOCKING, 3 ACTIVE, 4 RETIRED, 5 FAILED, 6 SAFE. -/
def lasState (s : State) (r l : Nat) : Nat := getF s (OE_LAS_BIAS_STATE r l)
/-- Whether a laser is lit. -/
def lasLit (s : State) (r l : Nat) : Bool := lasState s r l == 2 || lasState s r l == 3
/-- The logical strand that a wavelength carries; 15 also reads for none, so a strand counts only while its laser is in service. -/
def strandLogical (s : State) (r l : Nat) : Option Nat := firstIdx (· == l) (ropeGet s r).txMap

/-- R243, Table 7-7: whether the controller of a rope's parts acts: the engine is RUNNING; the interposer's, while it is not restarting in a
hitch (Table 13-8). -/
def optActs (s : State) (r : Nat) : Bool := if 24 ≤ r then !restarting s 1 else getF s (OE_STS_STATE (ropeOe r)) == 3

/-! ## Lasers (R224, R239, R240) -/

/-- R239: a laser leaves service: its bias is saved. -/
def saveLaser (s : State) (r l : Nat) : State := setF s (OE_LAS_BIAS_SAVED_BIAS r l) (getF s (OE_LAS_BIAS_BIAS r l))
/-- A laser is dark, in a state. -/
def darkLaser (s : State) (r l st : Nat) : State :=
  setFs s [(OE_LAS_BIAS_BIAS r l, 0), (OE_LAS_BIAS_BFM r l, 0), (OE_LAS_BIAS_HIGH r l, 0), (OE_LAS_BIAS_STATE r l, st)]

/-- R240: what becomes of the laser that a splice replaced. -/
def replaceLaser (s : State) (r l : Nat) : State :=
  if lasState s r l ≠ 3 then s
  else
    let ceiling := getF s (OE_LAS_BIAS_HIGH r l) = 1 ∧ getF s (OE_LAS_BIAS_BIAS r l) = 12000
    let weak := getF s (OE_LAS_BIAS_BFM r l) * 100 < 80 * Config.apcTarget r l
    darkLaser (saveLaser s r l) r l (if ceiling ∨ weak then 4 else 1)

/-! ## Spares (R238, R241) -/

/-- R241: the lowest free spare of a rope. -/
def freeSpare (s : State) (r : Nat) : Option Nat := (List.range (lamCount r)).find? (fun l => lasState s r l == 1)

/-- R238: bring-up of a spare begins. -/
def startBring (s : State) (r l strand : Nat) (failed : Bool) : State :=
  setF (lightMod s r (fun x => { x with bring := some ⟨l, strand, 1, failed⟩ })) (OE_LAS_BIAS_STATE r l) 2

/-- R241: the strands that wait are served, failed ones first, one at a time. No bring-up starts while the engine is open-loop (R243). -/
def nextSpare (s : State) (r : Nat) : State :=
  let x := lightGet s r
  if x.bring.isSome ∨ !optActs s r then s
  else match (match firstIdx (·.2) x.want with | some i => some i | none => if x.want = [] then none else some 0) with
    | none => s
    | some i =>
      match x.want[i]?, freeSpare s r with
      | some w, some l => startBring (lightMod s r (fun x => { x with want := listDel x.want i })) r l w.1 w.2
      | _, _ => s

/-- R241: a strand needs a spare. -/
def assignSpare (s : State) (r strand : Nat) (failed : Bool) : State :=
  let x := lightGet s r
  let add (l : List (Nat × Bool)) : List (Nat × Bool) := l.filter (fun w => w.1 != strand) ++ [(strand, failed)]
  match x.bring, freeSpare s r with
  | some b, none =>
    if b.strand = strand then lightMod s r (fun x => { x with bring := some { b with failed := b.failed || failed } })
    else if failed ∧ !b.failed ∧ b.phase ≤ 6 then
      lightMod s r (fun x => { x with bring := some { b with strand := strand, failed := true }, want := x.want.filter (fun w => w.1 != strand) ++ [(b.strand, false)] })
    else optFlag (lightMod s r (fun x => { x with want := add x.want })) (optUnit r) 6
  | some b, some _ =>
    if b.strand = strand then lightMod s r (fun x => { x with bring := some { b with failed := b.failed || failed } })
    else lightMod s r (fun x => { x with want := add x.want })
  | none, none => optFlag (lightMod s r (fun x => { x with want := add x.want })) (optUnit r) 6
  | none, some _ => nextSpare (lightMod s r (fun x => { x with want := add x.want })) r

/-- R238: the spare being brought up fails; the next free spare is tried for its strand. -/
def bringFails (s : State) (r : Nat) : State :=
  match (lightGet s r).bring with
  | none => s
  | some b =>
    let s := darkLaser (lightMod s r (fun x => { x with bring := none })) r b.lam 5
    assignSpare s r b.strand b.failed

/-- A spare has taken over its strand: the next strand that waits is served. -/
def bringDone (s : State) (r : Nat) : State := nextSpare (lightMod s r (fun x => { x with bring := none })) r

/-- LOGICAL of OE_STRAND and PI_STRAND follows the transmit map of a rope (R222). -/
def showLogical (s : State) (r : Nat) : State :=
  (List.range (lamCount r)).foldl (fun s l => setF s (OE_STRAND_LOGICAL r l) ((strandLogical s r l).getD 15)) s

end Sys2Proof.Machine
end

