-- ==== Sys2Proof/Machine/RopeState.lean ====
section
/-! DEFINITION. Rope states, training, changes of width and splices, collisions, and the rope commands (R278-R285, R293). -/
namespace Sys2Proof.Machine

/-! ## Leaving and entering UP (Table 8-7) -/

/-- R171: a retrain, width change or reroute puts the promises that reserve a rope at risk. -/
def riskRope (s : State) (r bit : Nat) : State :=
  match ropeChan r with
  | some n => ropeRisk s n r bit
  | none => s

/-- A change ends: an absorbed or refused request of this end is evaluated again (R285): a splice or restore is asked for again by
the controller whose spare still waits. -/
def endChange (s : State) (r : Nat) : State :=
  let s := ropeMod s r (fun x => { x with change := none, asked := none, again := none, switch := none })
  let s := setF s (OE_ROPE_STS_SPLICE r) 0
  lightMod s r (fun x => { x with bring := x.bring.map (fun b => if b.phase = 7 then { b with phase := 6 } else b) })

/-- A rope enters RETRAIN from UP (R279): training runs from phase 1. -/
def enterRetrain (s : State) (r : Nat) : State :=
  if ropeState s r ≠ 3 then s
  else
    let s := endChange s r
    let s := ropeMod s r (fun x => { x with change := some ⟨1, true, 0, 0, 0, 0⟩, phase := 1, hello := false, newPeer := false, judged := none })
    let s := setFs s [(OE_ROPE_STS_STATE r, 4), (OE_ROPE_STS_ATTEMPT r, 0)]
    riskRope (flag (addF s (OE_ROPE_CNT_RETRAINS r) 1) (OE_ROPE_EVT_RETRAIN r)) r 1

/-- A rope enters TRAINING: training runs from phase 2. -/
def enterTraining (s : State) (r : Nat) : State :=
  setFs (ropeMod s r (fun x => { x with phase := 2, hello := false, newPeer := false })) [(OE_ROPE_STS_STATE r, 2), (OE_ROPE_STS_ATTEMPT r, 0)]

/-- A rope enters DOWN (1) or HELD (5): its connections reroute (R293). -/
def ropeOff (s : State) (r st : Nat) : State :=
  let was := ropeState s r
  if was = 0 ∨ was = st then s
  else
    let s := endChange s r
    let s := setFs (ropeMod s r (fun x => { x with phase := 0, judged := none })) [(OE_ROPE_STS_STATE r, st)]
    let s := if st = 1 then flag s (OE_ROPE_EVT_DOWN r) else s
    let s := if was = 3 ∨ was = 4 then riskRope s r 1 else s
    handBack s r

/-- A training attempt fails; the third sends the rope DOWN. -/
def failAttempt (s : State) (r : Nat) : State :=
  let s := addF s (OE_ROPE_STS_ATTEMPT r) 1
  if getF s (OE_ROPE_STS_ATTEMPT r) < 3 then ropeMod s r (fun x => { x with phase := 2, hello := false })
  else reportRope (ropeOff s r 1) 0x0701 r (ropeInst r) (rd s (OE_ROPE_STS r)).toNat true

/-- Phase 5 completes: the rope is UP; after a retrain with the same peer every unacknowledged flit is replayed (R280). -/
def goUp (s : State) (r : Nat) : State :=
  let again := ropeState s r = 4 ∧ !(ropeGet s r).newPeer
  let s := endChange s r
  let s := setFs (ropeMod s r (fun x => { x with phase := 0, aligned := true, restoreFails := 0 })) [(OE_ROPE_STS_STATE r, 3), (OE_ROPE_STS_ATTEMPT r, 0)]
  let s := if again ∧ (ropeGet s r).sent ≠ [] then replay s r else s
  pumpAll (pumpRope s r)

/-! ## Link control bodies (Table 8-6) -/

/-- A number in a body. -/
def bodyF (b : List Byte) (o n : Nat) : Nat := leVal ((b.drop o).take n)

/-- A link control body goes to the other end: on an external rope in an LCTL flit; on an interposer rope by ρ itself or its return
path, to the rope's one record (R275, assumption 25). -/
def sendCtl (s : State) (r : Nat) (b : List Byte) : State :=
  if r < 24 then sendLctl s r b else ropeMod s r (fun x => { x with lctl := x.lctl ++ [b] })

/-- Take the oldest delivered body if it is of a kind. -/
def takeCtl (s : State) (r kind : Nat) (k : State → List Byte → State) : State :=
  match (ropeGet s r).lctl with
  | [] => s
  | b :: t => if bodyF b 0 1 = kind then k (ropeMod s r (fun x => { x with lctl := t })) b else s

def changeReq (c : Change) : List Byte :=
  [2, BitVec.ofNat 8 c.kind, (if c.tx then 0 else 1), BitVec.ofNat 8 c.strand, BitVec.ofNat 8 c.old, BitVec.ofNat 8 c.new, 0, 0] ++ leBytes 4 c.num
def changeRsp (result num : Nat) : List Byte := [3, BitVec.ofNat 8 result, 0, 0, 0, 0, 0, 0] ++ leBytes 4 num
def switchBody (m : List Nat) (k1 : Nat) : List Byte := [6, BitVec.ofNat 8 (mapWidth m)] ++ mapBytes m ++ leBytes 4 k1

/-- R283: ask the other end for a change. -/
def askChange (s : State) (r : Nat) (c : Change) : State :=
  let c := { c with num := (ropeGet s r).num }
  sendCtl (ropeMod s r (fun x => { x with asked := some c, num := (x.num + 1) % 2 ^ 32 })) r (changeReq c)

/-- R283: whether a rope is free for a change of its own. -/
def mayChange (s : State) (r : Nat) : Bool :=
  ropeState s r == 3 && (ropeGet s r).change.isNone && (ropeGet s r).asked.isNone

/-! ## Width (R281) -/

/-- R281, R285: a logical strand leaves one direction at once: the rope goes on on 15 strands, or retrains with fewer. A splice or
restore in progress starts again after the drop. -/
def dropStrand (s : State) (r : Nat) (tx : Bool) (strand : Nat) : State :=
  let x := ropeGet s r
  let m := if tx then x.txMap else x.rxMap
  if m.getD strand 31 = 31 then s
  else
    let s := applyMap s r tx (listPut m strand 31)
    let s := if tx then showLogical s r else s
    let now := s.hubTime
    let s := ropeMod s r (fun x => { x with narrow := some (x.narrow.getD now), aligned := if tx then x.aligned else false })
    let s := match x.change with
      | some c => if c.kind = 1 then s else endChange s r
      | none => s
    if mapWidth m < 16 then enterRetrain s r else s

/-- R298: both directions run on 16 strands again. -/
def checkNarrow (s : State) (r : Nat) : State :=
  let x := ropeGet s r
  if mapWidth x.txMap = 16 ∧ mapWidth x.rxMap = 16 then ropeMod s r (fun x => { x with narrow := none }) else s

/-! ## Training events -/

/-- R279: RETRAIN_TRIGGER: a cause of R279 holds. `ask` says that the rope asks the other end first (Table 8-11), as it can while its
flits still pass. -/
def execRetrainTrigger (r : Fin 34) (ask : Bool) (s : State) : Out :=
  .next (if ropeState s r ≠ 3 then s
    else if ask then (if mayChange s r then askChange s r ⟨1, true, 0, 0, 0, 0⟩ else s)
    else enterRetrain s r)

/-- R280: HELLO of this end: unit ID, rank, rope number, channel, certificate, next number and E. -/
def helloBody (s : State) (r : Nat) : List Byte :=
  [1, 0, 0, 0, 0, 0, 0, 0] ++ leBytes 8 s.hub.fuses.uid ++ [BitVec.ofNat 8 (ownRank s), BitVec.ofNat 8 (ropeInst r),
    BitVec.ofNat 8 ((ropeChan r).getD 4), BitVec.ofNat 8 (getF s HP_CAP_EFF_CERT_ROPE)] ++ leBytes 2 (ropeGet s r).next ++ leBytes 2 (ropeGet s r).e

/-- R280: TRAINING_PHASE: the phase in progress completes. Phase 4 needs the other end's HELLO; after phase 5 the rope is UP. -/
def execTrainingPhase (r : Fin 34) (s : State) : Out :=
  .next (let x := ropeGet s r
    if ropeState s r ≠ 2 ∧ ropeState s r ≠ 4 then s
    else match x.phase with
      | 1 => ropeMod s r (fun x => { x with phase := 2 })
      | 2 => ropeMod s r (fun x => { x with phase := 3, aligned := true })
      | 3 =>
        let s := ropeMod s r (fun x => { x with phase := 4 })
        sendCtl s r (helloBody s r)
      | 4 => if x.hello then ropeMod s r (fun x => { x with phase := 5 }) else s
      | 5 => goUp s r
      | _ => s)

/-- R278: TRAINING_ATTEMPT_TIMEOUT: an attempt has exceeded 100 µs. -/
def execTrainingAttemptTimeout (r : Fin 34) (s : State) : Out :=
  .next (if ropeState s r = 2 ∨ ropeState s r = 4 then failAttempt s r else s)

/-- R278: LIGHT_DETECTED: light on at least 15 strands. -/
def execLightDetected (r : Fin 34) (s : State) : Out :=
  .next (if ropeState s r = 1 then enterTraining s r else s)

/-- R280: what HELLO records of the peer. -/
def recordPeer (s : State) (r : Nat) (b : List Byte) : State :=
  if r < 24 then
    let s := wr s (OE_ROPE_PEER r 0) (BitVec.ofNat 64 (bodyF b 8 8))
    let s := setFs s [(OE_ROPE_PEER_RANK r, bodyF b 16 1), (OE_ROPE_PEER_ROPE r, bodyF b 17 1), (OE_ROPE_PEER_CHAN r, bodyF b 18 1),
      (OE_ROPE_PEER_CERT r, bitN (bodyF b 19 1) 0)]
    setF s (OE_ROPE_STS_LEAD r) (b2n (decide (bodyF b 8 8 < s.hub.fuses.uid)))
  else
    let rho := r - 24
    let s := wr s (OE_ROPE_PEER r 0) (BitVec.ofNat 64 (bankOf s rho))
    setF s (OE_ROPE_STS_LEAD r) (b2n (decide ((destOf s rho).getD 5 < ownerOf rho)))

/-- R304: the group table takes in the rank and UID that a HELLO on external rope `r` names. A rank known from an announcement takes the
UID of its first HELLO. -/
def joinGroup (s : State) (r : Nat) (b : List Byte) : State :=
  let k := bodyF b 16 1 % 16
  let uid := bodyF b 8 8
  let set (s : State) : State := setF (wr s (HP_GRP_MEMBER k 0) (BitVec.ofNat 64 uid)) (HP_GRP_MEMBER_ROPE k) (r + 1)
  if 24 ≤ r then s
  else if k = ownRank s then
    (if uid = s.hub.fuses.uid then s
     else reportPkg (setF s HP_GRP_STS_SELF_CONFLICT 1) 0x0801 0 0x060 k uid)
  else if bitN (getF s HP_GRP_STS_PRESENT) k = 0 then set (setF s HP_GRP_STS_PRESENT (getF s HP_GRP_STS_PRESENT + 2 ^ k))
  else if getF s (HP_GRP_MEMBER_ROPE k) = 0 then set s
  else if (rd s (HP_GRP_MEMBER k 0)).toNat ≠ uid ∧ ropeState s (getF s (HP_GRP_MEMBER_ROPE k) - 1) = 3 then
    reportPkg (setF s HP_GRP_STS_CONFLICT (putN (getF s HP_GRP_STS_CONFLICT) k 1 1)) 0x0801 0 0x060 k uid
  else s

/-- R280, R284: HELLO. -/
def execHello (r : Fin 34) (s : State) : Out :=
  .next (if ropeState s r ≠ 2 ∧ ropeState s r ≠ 4 then s
    else takeCtl s r 1 (fun s b =>
      let old := (rd s (OE_ROPE_PEER r 0)).toNat
      let other := r.val < 24 ∧ old ≠ 0 ∧ old ≠ bodyF b 8 8
      let moved := r.val < 24 ∧ ropeState s r = 4 ∧ (bodyF b 16 1 % 16 ≠ getF s (OE_ROPE_PEER_RANK r) ∨ bodyF b 17 1 % 32 ≠ getF s (OE_ROPE_PEER_ROPE r))
      let s := joinGroup s r b
      if moved then failAttempt s r
      else
        let s := recordPeer s r b
        if other then
          let s := ropeMod s r (fun x =>
            { x with
              hello := true, newPeer := true, next := 0, e := 0, count := 0, held := [], lost := [], slots := 0, resync := false,
              ovf := false, credit := [128, 512, 1024] })
          refreshAck (flag (handBack s r) (OE_ROPE_EVT_PEER_CHANGED r)) r
        else if ropeState s r = 4 then
          ropeMod (freeTo s r ((bodyF b 22 2 + 4095) % 4096)) r (fun x => { x with hello := true })
        else if r.val < 24 then
          let n := bodyF b 20 2 % 4096
          refreshAck (ropeMod s r (fun x =>
            { x with
              hello := true, e := n, count := n, held := [], lost := [], slots := 0, resync := false, ovf := false,
              credit := [128, 512, 1024] })) r
        else ropeMod s r (fun x => { x with hello := true })))

/-! ## Changes (R283, R285, Table 8-10) -/

/-- The change that a CHANGE_REQ names, seen from this end. -/
def reqChange (b : List Byte) : Change :=
  ⟨bodyF b 1 1, bodyF b 2 1 == 1, bodyF b 3 1, bodyF b 4 1, bodyF b 5 1, bodyF b 8 4⟩

/-- An accepted request of the other end begins. -/
def beginPeer (s : State) (r : Nat) (c : Change) : State :=
  if 24 ≤ r then s
  else match c.kind with
    | 1 => enterRetrain s r
    | 4 => dropStrand s r c.tx c.strand
    | _ => ropeMod s r (fun x => { x with change := some c })

/-- R283, R285: CHANGE_REQ. -/
def execChangeReq (r : Fin 34) (s : State) : Out :=
  .next (takeCtl s r 2 (fun s b =>
    let x := ropeGet s r
    let c := reqChange b
    let ans (s : State) (result : Nat) : State := sendCtl s r (changeRsp result c.num)
    if 24 ≤ r.val then ans s (if x.change.isSome then 2 else 0)
    else if x.change.isSome ∨ ropeState s r ≠ 3 then ans s 2
    else match x.asked with
      | some mine =>
        if getF s (OE_ROPE_STS_LEAD r) = 1 then ans s 1
        else
          let s := ropeMod s r (fun x => { x with asked := none, again := some mine })
          beginPeer (ans (flag s (OE_ROPE_EVT_COLLISION r)) 0) r c
      | none => beginPeer (ans s 0) r c))

/-- R281: the map of a direction with a strand on another wavelength. -/
def mapWith (s : State) (r : Nat) (tx : Bool) (strand lam : Nat) : List Nat :=
  listPut (if tx then (ropeGet s r).txMap else (ropeGet s r).rxMap) strand lam

/-- Announce a map for codeword k1, at least 64 ahead of the current one. -/
def sendSwitch (s : State) (r : Nat) (m : List Nat) (cw : Nat) : State :=
  let k1 := (cw + 64) % 2 ^ 32
  sendCtl (ropeMod s r (fun x => { x with switch := some ⟨true, m, k1⟩ })) r (switchBody m k1)

/-- R283: CHANGE_RSP: the answer to this end's request. `cw` is the current codeword number of its transmit direction. -/
def execChangeRsp (r : Fin 34) (cw : Nat) (s : State) : Out :=
  .next (takeCtl s r 3 (fun s b =>
    match (ropeGet s r).asked with
    | none => s
    | some c =>
      if bodyF b 8 4 ≠ c.num then s
      else
        let s := ropeMod s r (fun x => { x with asked := none })
        if bodyF b 1 1 ≠ 0 then
          let s := ropeMod s r (fun x => { x with again := some c })
          if (ropeGet s r).change.isNone then endChange s r else s
        else match c.kind with
          | 1 => enterRetrain s r
          | 2 => sendCtl (ropeMod s r (fun x => { x with change := some c })) r
              ([4, BitVec.ofNat 8 c.strand, BitVec.ofNat 8 c.old, BitVec.ofNat 8 c.new, 0, 0, 0, 0] ++ leBytes 4 ((cw + 64) % 2 ^ 32))
          | 3 => sendSwitch (ropeMod s r (fun x => { x with change := some c })) r (mapWith s r true c.strand c.new) cw
          | _ => s))

/-! ## Splices (R282) -/

/-- R282, R281: SPLICE_REQUEST: the controller of a locked spare asks for the splice, or for the width restore of a strand that was
removed. -/
def execSpliceRequest (r : Fin 34) (s : State) : Out :=
  .next (match (lightGet s r).bring with
    | some b =>
      if b.phase = 6 ∧ mayChange s r then
        let old := (ropeGet s r).txMap.getD b.strand 31
        let s := lightMod s r (fun x => { x with bring := some { b with phase := 7 } })
        askChange s r (if old = 31 then ⟨3, true, b.strand, 31, b.lam, 0⟩ else ⟨2, true, b.strand, old, b.lam, 0⟩)
      else s
    | none => s)

/-- R282: SPLICE_START: the receiver prepares to decode the new wavelength from k0. -/
def execSpliceStart (r : Fin 34) (s : State) : Out :=
  .next (takeCtl s r 4 (fun s b =>
    if r.val < 24 then ropeMod s r (fun x => { x with change := x.change.map (fun c => if c.kind = 2 then { c with strand := bodyF b 1 1, old := bodyF b 2 1, new := bodyF b 3 1 } else c) })
    else s))

/-- R282: MIRRORING_START: codeword k0 is reached. -/
def execMirroringStart (r : Fin 34) (s : State) : Out :=
  .next (match (ropeGet s r).change with
    | some c => if c.kind = 2 then setF s (OE_ROPE_STS_SPLICE r) 1 else s
    | none => s)

/-- R282: NEW_WAVELENGTH_GOOD: the receiver has counted 256 good codewords; `cw` numbers the last. -/
def execNewWavelengthGood (r : Fin 34) (cw : Nat) (s : State) : Out :=
  .next (match (ropeGet s r).change with
    | some c =>
      if c.kind = 2 ∧ getF s (OE_ROPE_STS_SPLICE r) = 1 ∧ (!c.tx ∨ 24 ≤ r.val) then sendCtl s r ([5, 0, 0, 0, 0, 0, 0, 0] ++ leBytes 4 (cw % 2 ^ 32)) else s
    | none => s)

/-- R282: SPLICE_READY: the transmitter announces the switch. -/
def execSpliceReady (r : Fin 34) (cw : Nat) (s : State) : Out :=
  .next (takeCtl s r 5 (fun s _ =>
    match (ropeGet s r).change with
    | some c => if c.kind = 2 ∧ c.tx then sendSwitch s r (mapWith s r true c.strand c.new) cw else s
    | none => s))

/-- R281: SWITCH: the other end names a width and map and the codeword from which they apply. -/
def execSwitch (r : Fin 34) (s : State) : Out :=
  .next (takeCtl s r 6 (fun s b =>
    if r.val < 24 then ropeMod s r (fun x => { x with switch := some ⟨false, mapOf b, bodyF b 12 4⟩ }) else s))

/-- R282, R240: a splice or restore of this end's transmit direction is in force: the spare carries its strand, the laser it replaced
leaves service, and the splice counts against the promises that reserve the rope. -/
def spliceDone (s : State) (r : Nat) (c : Change) : State :=
  let s := showLogical s r
  let s := if c.kind = 2 then replaceLaser s r c.old else s
  match ropeChan r with
  | some n => spliceCount n r s (ledAll s n)
  | none => s

/-- R281, R282: SWITCH_APPLY: codeword k1 is reached. After a restore the change goes on until it has been judged. -/
def execSwitchApply (r : Fin 34) (s : State) : Out :=
  .next (match (ropeGet s r).switch with
    | none => s
    | some w =>
      let c := (ropeGet s r).change
      let s := applyMap s r w.tx w.map
      let s := if 24 ≤ r.val then applyMap s r (!w.tx) w.map else s
      let s := checkNarrow (ropeMod s r (fun x => { x with switch := none })) r
      match c with
      | none => s
      | some c =>
        let s := if w.tx then spliceDone s r c else s
        if c.kind = 3 then ropeMod s r (fun x => { x with judged := some (w.tx, c.strand) })
        else
          let s := ropeMod s r (fun x => { x with change := none, again := none })
          let s := setF s (OE_ROPE_STS_SPLICE r) 0
          if w.tx then bringDone s r else s)

/-- R281: WIDTH_RESTORE_CHECK: of the first 64 codewords after a restore, `bad` were uncorrectable. More than 8: both ends return to 15
strands; the second failure retrains the rope (R279). -/
def execWidthRestoreCheck (r : Fin 34) (bad : Fin 65) (cw : Nat) (s : State) : Out :=
  .next (match (ropeGet s r).judged with
    | none => s
    | some (tx, strand) =>
      let s := ropeMod s r (fun x => { x with judged := none })
      if bad.val ≤ 8 then
        let s := endChange (ropeMod s r (fun x => { x with restoreFails := 0 })) r
        if tx then bringDone s r else s
      else
        let m := mapWith s r tx strand 31
        let s := sendCtl s r (switchBody m ((cw + 64) % 2 ^ 32))
        let s := applyMap s r tx m
        let s := if 24 ≤ r.val then applyMap s r (!tx) m else s
        let s := riskRope (endChange (showLogical s r) r) r 1
        let now := s.hubTime
        let s := ropeMod s r (fun x => { x with restoreFails := x.restoreFails + 1, narrow := some (x.narrow.getD now) })
        if 2 ≤ (ropeGet s r).restoreFails then enterRetrain (ropeMod s r (fun x => { x with restoreFails := 0 })) r else s)

/-- R282: SPLICE_TIMEOUT: SPLICE_READY has not arrived within 20 µs: the splice is abandoned and the spare fails. -/
def execSpliceTimeout (r : Fin 34) (s : State) : Out :=
  .next (match (ropeGet s r).change with
    | some c =>
      if c.kind = 2 ∧ c.tx ∧ (ropeGet s r).switch.isNone then
        bringFails (flag (endChange s r) (OE_ROPE_EVT_SPLICE_FAIL r)) r
      else s
    | none => s)

/-- R281: WIDTH_DROP_DETECT: the receiver finds a strand dark, or its errors confined to it, and decodes the other 15. -/
def execWidthDropDetect (r : Fin 34) (strand : Fin 16) (s : State) : Out :=
  .next (if ropeState s r = 3 then dropStrand s r false strand else s)

/-! ## Commands -/

/-- R278, R299: carry out the command in OE_ROPE_CMD or PI_ROPE_CMD, whose STATUS is 1: RETRAIN, DOWN, UP. -/
def ropeCmd (s : State) (r : Nat) : State :=
  let st := ropeState s r
  let sts := OE_ROPE_CMD_STATUS r
  match getF s (OE_ROPE_CMD_OP r) with
  | 1 => if st = 3 then setF (enterRetrain s r) sts 2 else setF s sts 3
  | 2 => if st = 0 then setF s sts 3 else setF (ropeOff s r 5) sts 2
  | 3 => if st = 0 then setF s sts 3 else setF (if st = 1 ∨ st = 5 then enterTraining s r else s) sts 2
  | _ => setF s sts 3

end Sys2Proof.Machine
end

