-- ==== Sys2Proof/Machine/Steer.lean ====
section
/-! DEFINITION. The ring switch network: steering, the re-direction queue, and parking (R244-R249). -/
namespace Sys2Proof.Machine

/-- R47, Table 7-13: whether the hub is absent. -/
def hubGone (s : State) : Bool := (List.range 4).any (fun n => (dieGet s n).hubAbsent)

/-- The destination of rope ρ in destinations coded as PI_STEER_CFG. -/
def destIn (dest rho : Nat) : Nat := bitsN dest (5 * rho + 4) (5 * rho)
/-- Table 7-11: the home bank of a rope. -/
def homeBank (s : State) (rho : Nat) : Nat := destIn (getF s (PI_STEER_CFG_DEST 0)) rho

/-! ## Crosspoints -/

/-- Engage or park the crosspoint rings from a rope to a destination (a bank, or 14 + a summing receiver), and the drop rings of the
bank. -/
def engage (s : State) (rho d : Nat) (on : Bool) : State :=
  (List.range 17).foldl (fun s l =>
    let g := crossRing rho l d
    let s := if getF s (ringF g 15 15) = 1 then setFs s [(ringF g 14 14, b2n on), (ringF g 44 40, if on then l else 0x1F)] else s
    if d < 14 then setFs s [(ringF (bankRing d l) 14 14, b2n on), (ringF (bankRing d l) 44 40, if on then l else 0x1F)] else s) s

/-- Steer rope ρ to a bank, or park it (31): its old crosspoints are parked, the new ones engaged. -/
def steerRope (s : State) (rho bank : Nat) : State :=
  let old := bankOf s rho
  let s := if old < 14 then engage s rho old false else s
  let s := setF s PI_STEER_STS_DEST (putN (getF s PI_STEER_STS_DEST) (5 * rho) 5 bank)
  if bank < 14 then wr (engage s rho bank true) (OE_ROPE_PEER (24 + rho) 0) (BitVec.ofNat 64 bank) else s

/-- R249: a rope is parked at once, outside the queue: it carries no flits. -/
def parkRope (s : State) (rho : Nat) : State := steerRope (ropeOff s (24 + rho) 5) rho 31

/-- R249: the ropes owned by or steered to a die that is lost or fenced are parked. -/
def parkDie (s : State) (d : Nat) : State :=
  (List.range 10).foldl (fun s rho => if ownerOf rho = d ∨ destOf s rho = some d then parkRope s rho else s) s

/-- R249: the parked ropes of a die return home when it is REJOINED or its fence is lifted. -/
def unparkDie (s : State) (d : Nat) : State :=
  (List.range 10).foldl (fun s rho =>
    let b := homeBank s rho
    let other := if ownerOf rho = d then bankDie b else ownerOf rho
    if bankOf s rho = 31 ∧ (ownerOf rho = d ∨ bankDie b = d) ∧ (other = 4 ∨ dieUp s other) then enterTraining (steerRope s rho b) (24 + rho) else s) s

/-! ## The queue (R245, R246) -/

/-- The I1 rope of each source of a session's descriptor (Table 7-15). -/
def AorX.sources (a : AorX) : Nat := byteN a.raw 5 1
def AorX.mode (a : AorX) : Nat := byteN a.raw 0 1
def AorX.srcWord (a : AorX) (j : Nat) : Nat := byteN a.raw (64 + 4 * j) 4
def AorX.srcDie (a : AorX) (j : Nat) : Nat := bitsN (a.srcWord j) 10 9
def AorX.srcBrick (a : AorX) (j : Nat) : Nat := bitsN (a.srcWord j) 8 0
def AorX.srcLam (a : AorX) (j : Nat) : Nat := bitsN (a.srcWord j) 15 12
/-- The interposer ropes that the sources of a session use. -/
def AorX.ropes (a : AorX) : List Nat :=
  ((List.range 4).filter (fun d => (List.range a.sources).any (fun j => a.srcDie j == d))).map (fun d => 2 * d + 1)

def aorGet (s : State) (i : Nat) : Option AorX := tabGet (fun _ => none) s.opt.aor i
def aorPut (s : State) (i : Nat) (x : Option AorX) : State := optMod s (fun o => { o with aor := tabSet (fun _ => none) o.aor i x })
def aorMod (s : State) (i : Nat) (f : AorX → AorX) : State := aorPut s i ((aorGet s i).map f)

/-- R250: whether an analog session holds an interposer rope: from its opening to the end of its closing. -/
def aorHolds (s : State) (rho : Nat) (but : Option Nat) : Bool :=
  s.opt.aor.any (fun e => some e.1 != but && (match e.2 with | some a => a.mode != 2 && !a.home.isEmpty && a.ropes.contains rho | none => false))

/-- The destinations that a request leads to. -/
def reqDest (s : State) (q : SteerReq) : Nat :=
  let dest := match q.cfg with | some c => getF s (PI_STEER_CFG_DEST c) | none => q.dest
  (List.range 10).foldl (fun a rho => if bitN q.mask rho = 1 then putN a (5 * rho) 5 (destIn dest rho) else a) (getF s PI_STEER_STS_DEST)

/-- R245: bank use and owners. -/
def destOk (dest : Nat) : Bool :=
  (List.range 10).all (fun rho =>
    let b := destIn dest rho
    b == 31 || (decide (b < 14) && bankDie b != ownerOf rho && (rho < 8 || decide (b < 12))
      && (List.range 10).all (fun p => p == rho || destIn dest p != b)))

/-- R245: spans and ACTIVE dies. -/
def destSpan (s : State) (dest : Nat) : Bool :=
  (List.range 10).all (fun rho =>
    let b := destIn dest rho
    b == 31 ||
    (if rho < 8 then b == homeBank s rho || sameSpan s (ownerOf rho) (bankDie b)
     else decide (bankDie b < 4) && getF s (CH_DIE_STS_STATE (bankDie b)) == 3))

/-- R246: the reason for which a request at the head of the queue is refused. -/
def steerRefusal (s : State) (q : SteerReq) : Option Nat :=
  let dest := reqDest s q
  let own := match q.src with | .aorOpen i => some i | .aorClose i => some i | _ => none
  if (match q.cfg with | some c => getF s (PI_STEER_CFG_VALID c) == 0 | none => false) || !destOk dest then some 1
  else if !destSpan s dest then some 2
  else if (List.range 10).any (fun rho => bitN q.mask rho == 1 && aorHolds s rho own) then some 3
  else none

/-- What a refused request does (R246, Table 7-18). -/
def steerRefused (s : State) (q : SteerReq) (reason : Nat) : State :=
  match q.src with
  | .cmd => setFs s [(PI_STEER_CMD_STATUS, 3), (PI_STEER_CMD_REASON, reason)]
  | .trig t => report (optFlag s 8 7) ⟨0x0604, 0, 6, 0x10, t, (rd s PI_EVT).toNat, 0⟩
  | .aorOpen i => setFs (aorPut s i none) [(PI_AOR_STS_STATE i, 0), (PI_AOR_CMD_STATUS, 3), (PI_AOR_CMD_REASON, 5)]
  | .aorClose i => aorMod s i (fun a => { a with steered := false })
  | .dissolve _ => setFs s [(HP_SPAN_CMD_STATUS, 2), (HP_SPAN_CMD_REASON, 0)]

def showQueued (s : State) : State := setF s PI_STEER_STS_QUEUED s.opt.steerQ.length

/-- R246: a request joins the queue of 16, or is refused at once. -/
def requestSteer (s : State) (q : SteerReq) : State :=
  if 16 ≤ s.opt.steerQ.length then steerRefused s q 4
  else showQueued (optMod s (fun o => { o with steerQ := o.steerQ ++ [q] }))

/-- R246: STEER_TRIGGER: a fire that trigger `t` names has reached the controller. -/
def execSteerTrigger (t : Fin 16) (s : State) : Out :=
  .next (match firstIdx (· == t.val) s.opt.fires with
    | none => s
    | some i =>
      let s := addF (optMod s (fun o => { o with fires := listDel o.fires i })) (PI_STEER_TRIG_FIRED t) 1
      requestSteer s ⟨.trig t, some (getF s (PI_STEER_TRIG_CFG t)), 0, getF s (PI_STEER_TRIG_MASK t)⟩)

/-- R246, R247, R248: REDIRECTION_START: the request at the head of the queue is checked, then started or refused. A splice overlap on a masked rope completes
first; during a hub absence, and while the controller restarts (R389), the queue waits. -/
def execRedirectionStart (s : State) : Out :=
  .next (match s.opt.steering, s.opt.steerQ with
    | none, q :: t =>
      if hubGone s ∨ restarting s 1 ∨ (List.range 10).any (fun rho => bitN q.mask rho == 1 && getF s (OE_ROPE_STS_SPLICE (24 + rho)) == 1) then s
      else
        let s := showQueued (optMod s (fun o => { o with steerQ := t }))
        match steerRefusal s q with
        | some r => steerRefused s q r
        | none => setF (optMod s (fun o => { o with steering := some { q with cfg := none, dest := reqDest s q } })) PI_STEER_STS_BUSY 1
    | _, _ => s)

/-- R247: REDIRECTION_COMPLETE: every phase is complete: unacknowledged flits of the old paths have been handed back, and flits flow on the
new paths. The ropes of an opening session leave flit service and are steered strand by strand (R250). -/
def execRedirectionComplete (s : State) : Out :=
  .next (match s.opt.steering with
    | none => s
    | some q =>
      let dest := reqDest s q
      let masked := (List.range 10).filter (fun rho => bitN q.mask rho == 1)
      let s := masked.foldl (fun s rho => steerRope (handBack s (24 + rho)) rho (destIn dest rho)) s
      let s := setF (optMod s (fun o => { o with steering := none })) PI_STEER_STS_BUSY 0
      match q.src with
      | .cmd => setFs s [(PI_STEER_CMD_STATUS, 2), (PI_STEER_CMD_REASON, 0)]
      | .trig _ => s
      | .dissolve _ => setFs s [(HP_SPAN_CMD_STATUS, 2), (HP_SPAN_CMD_REASON, 0)]
      | .aorOpen i =>
        (match aorGet s i with
         | none => s
         | some a =>
           let s := (List.range a.sources).foldl (fun s j =>
             let g := crossRing (2 * a.srcDie j + 1) (a.srcLam j) (14 + byteN a.raw 1 1)
             setFs s [(ringF g 14 14, 1), (ringF g 44 40, j)]) s
           let s := masked.foldl (fun s rho => ropeOff s (24 + rho) 5) s
           aorMod s i (fun a => { a with steered := true }))
      | .aorClose i =>
        (match aorGet s i with
         | none => s
         | some a =>
           let s := (List.range a.sources).foldl (fun s j =>
             let g := crossRing (2 * a.srcDie j + 1) (a.srcLam j) (14 + byteN a.raw 1 1)
             setFs s [(ringF g 14 14, 0), (ringF g 44 40, 0x1F)]) s
           let s := masked.foldl (fun s rho => if ropeState s (24 + rho) = 5 then enterTraining s (24 + rho) else s) s
           aorMod s i (fun a => { a with steered := false })))

/-- R246: carry out the command in PI_STEER_CMD, whose STATUS is 1: REDIRECT, HOME. -/
def steerCmd (s : State) : State :=
  let mask := getF s PI_STEER_CMD_MASK
  match getF s PI_STEER_CMD_OP with
  | 1 => requestSteer s ⟨.cmd, some (getF s PI_STEER_CMD_CFG), 0, mask⟩
  | 2 => requestSteer s ⟨.cmd, some 0, 0, mask⟩
  | _ => setFs s [(PI_STEER_CMD_STATUS, 3), (PI_STEER_CMD_REASON, 0)]

/-- R260: whether a queued request or an enabled trigger names configuration `c`. -/
def cfgNamed (s : State) (c : Nat) : Bool :=
  s.opt.steerQ.any (fun q => q.cfg == some c) ||
  (List.range 16).any (fun t => getF s (PI_STEER_TRIG_EN t) == 1 && getF s (PI_STEER_TRIG_CFG t) == c)

/-- R249: at DISSOLVE every rope of the members returns home by one queued request. -/
def sendHome (s : State) (span : Nat) (members : List Nat) : State :=
  requestSteer s ⟨.dissolve span, some 0, 0, members.foldl (fun a n => a + 3 * 4 ^ n) 0⟩

end Sys2Proof.Machine
end

