-- ==== Sys2Proof/Machine/Aor.lean ====
section
/-! DEFINITION. Analog optical reduction: sessions, contributions, slots, calibration, fallback (R135, R250-R259). -/
namespace Sys2Proof.Machine

/-! ## Descriptors (Table 7-15) -/

def AorX.rx (a : AorX) : Nat := byteN a.raw 1 1
def AorX.kchk (a : AorX) : Nat := byteN a.raw 3 1
def AorX.fexp (a : AorX) : Int := sextN (byteN a.raw 4 1) 8
def AorX.knot (a : AorX) : Nat := byteN a.raw 6 2
def AorX.dstBrick (a : AorX) : Nat := byteN a.raw 8 2
def AorX.ring (a : AorX) : Nat := byteN a.raw 12 4
def AorX.slots (a : AorX) : Nat := byteN a.raw 16 2
def AorX.every (a : AorX) : Nat := byteN a.raw 18 2
def AorX.tol (a : AorX) : Nat := byteN a.raw 20 4
def AorX.head (a : AorX) : Nat := byteN a.raw 28 4
/-- The destination die. -/
def AorX.die (a : AorX) : Nat := a.rx / 2

def AorX.ofRaw (raw : Nat) : AorX := ⟨raw, List.replicate 16 [], List.replicate 16 0, List.replicate 16 0, 0, none, 0, 0, [], false⟩

/-- Table 7-18: 0 CLOSED, 1 OPENING, 2 OPEN, 3 DIGITAL, 4 CLOSING. -/
def aorState (s : State) (i : Nat) : Nat := getF s (PI_AOR_STS_STATE i)

/-! ## Opening (R251) -/

/-- R251 reason 2: the session is not CLOSED, or its receiver is held by an open analog session. -/
def aorBusy (s : State) (i : Nat) (a : AorX) : Bool :=
  aorState s i != 0 ||
  (a.mode != 2 && s.opt.aor.any (fun e => e.1 != i && (match e.2 with | some b => b.mode != 2 && b.rx == a.rx | none => false)))

/-- R251 reason 3. -/
def aorSpanOk (s : State) (a : AorX) : Bool :=
  let dies := a.die :: (List.range a.sources).map a.srcDie
  dies.all (fun d => sameSpan s a.die d && getF s (CH_DIE_STS_STATE d) == 3)

/-- R251 reason 4: two sources with one wavelength or one brick. -/
def aorClash (a : AorX) : Bool :=
  let js := List.range a.sources
  js.any (fun j => js.any (fun k => decide (j < k) && (a.srcLam j == a.srcLam k || (a.srcDie j == a.srcDie k && a.srcBrick j == a.srcBrick k))))

/-- R251 reason 5: an I1 rope holds reserved shares, is down, or is named by a queued re-direction. -/
def aorRopeBad (s : State) (a : AorX) : Bool :=
  a.ropes.any (fun rho =>
    (holders s (rho / 2)).any (fun e => (List.range 8).any (fun f => fieldRope (rho / 2) f == 24 + rho && e.2.usesRope (rho / 2) f))
    || ropeState s (24 + rho) != 3 || (s.opt.steerQ ++ s.opt.steering.toList).any (fun q => bitN q.mask rho == 1) || aorHolds s rho none)

/-- R251 reason 6. -/
def aorDestBad (a : AorX) : Bool :=
  let e := a.ring + 192 * a.slots
  decide (0x100000 < e) || decide (0x100000 < a.head + 4) || (decide (a.ring < a.head + 4) && decide (a.head < e))

/-- R251 reason 7: a field out of range. -/
def aorMalformed (a : AorX) : Bool :=
  let zero (o n : Nat) : Bool := byteN a.raw o n == 0
  !(1 ≤ a.mode && a.mode ≤ 3 && a.rx < 8 && byteN a.raw 2 1 < 8 && (a.kchk ≤ 10 || a.kchk == 0xFF) && 1 ≤ a.sources && a.sources ≤ 16
    && a.dstBrick < 384 && zero 10 2 && a.ring % 64 == 0 && 1 ≤ a.slots && a.slots ≤ 4096 && 1 ≤ a.every && a.every ≤ a.slots
    && a.head % 4 == 0 && zero 32 32
    && (List.range 16).all (fun j =>
      if j < a.sources then a.srcBrick j < 384 && bitN (a.srcWord j) 11 == 0 && bitsN (a.srcWord j) 31 16 == 0 else a.srcWord j == 0))

/-- The first reason of R251 that applies to an OPEN. -/
def aorRefusal (s : State) (i : Nat) (a : AorX) : Option Nat :=
  let digital := a.mode == 2
  if getF s HP_CAP_EFF_CERT_AOR = 0 then some 1
  else if aorBusy s i a then some 2
  else if !aorSpanOk s a then some 3
  else if !digital && aorClash a then some 4
  else if !digital && aorRopeBad s a then some 5
  else if aorDestBad a then some 6
  else if aorMalformed a then some 7
  else none

/-- The destinations with the ropes of a session parked. -/
def aorParked (s : State) (a : AorX) : Nat := a.ropes.foldl (fun d rho => putN d (5 * rho) 5 31) (getF s PI_STEER_STS_DEST)
def ropeMask (l : List Nat) : Nat := l.foldl (fun m rho => m + 2 ^ rho) 0

/-- R259: the steering of a session is undone: its ropes return to their previous destinations. -/
def aorUnsteer (s : State) (i : Nat) : State :=
  match aorGet s i with
  | some a =>
    let dest := a.home.foldl (fun d h => putN d (5 * h.1) 5 h.2) (getF s PI_STEER_STS_DEST)
    requestSteer s ⟨.aorClose i, none, dest, ropeMask a.ropes⟩
  | none => s

/-- R259: once a closing session has drained, its ropes are steered back. -/
def aorDrained (s : State) (i : Nat) : State :=
  match aorGet s i with
  | some a =>
    if aorState s i = 4 ∧ a.contribs.all (·.isEmpty) ∧ a.steered ∧ !(s.opt.steerQ ++ s.opt.steering.toList).any (fun q => q.src == .aorClose i)
    then aorUnsteer s i else s
  | none => s

/-- R251, R259: carry out the command in PI_AOR_CMD, whose STATUS is 1. The descriptor is read at its physical address. While the
interposer controller restarts the command waits (R389). -/
def aorCmd (s : State) : State :=
  let i := getF s PI_AOR_CMD_SESS
  let refuse (s : State) (r : Nat) : State := setFs s [(PI_AOR_CMD_STATUS, 3), (PI_AOR_CMD_REASON, r)]
  if restarting s 1 then holdCmd s PI_AOR_CMD true
  else match getF s PI_AOR_CMD_OP with
  | 1 =>
    (match devRead s 4 (64 * getF s PI_AOR_CMD_ADDR) 128 with
     | .wait s => holdCmd s PI_AOR_CMD true
     | .ok b _ s =>
       let a := AorX.ofRaw (leVal b)
       match aorRefusal s i a with
       | some r => refuse s r
       | none =>
         let a := if a.mode = 2 then a else { a with home := a.ropes.map (fun rho => (rho, bankOf s rho)) }
         let s := aorPut s i (some a)
         let s := setFs s [(PI_AOR_STS_STATE i, 1), (PI_AOR_STS_RX i, a.rx), (PI_AOR_STS_NSRC i, a.sources), (PI_AOR_STS_PEND i, 0),
           (PI_AOR_STS_DONE i, 0), (PI_AOR_STS_SAT i, 0), (PI_AOR_STS_POISON i, 0), (PI_AOR_CHK_CHECKS i, 0), (PI_AOR_CHK_TRIPS i, 0),
           (PI_AOR_CHK_STALE i, 1), (PI_AOR_CMD_REASON, 0)]
         if a.mode = 2 then s else requestSteer s ⟨.aorOpen i, none, aorParked s a, ropeMask a.ropes⟩)
  | 2 =>
    if aorState s i = 2 ∨ aorState s i = 3 then aorDrained (setF s (PI_AOR_STS_STATE i) 4) i else refuse s 8
  | _ => refuse s 0

/-- R256, Table 7-6: whether the calibration of a source at opening is good. -/
def calGood (c : AorCal) : Bool :=
  let range (g : Nat) : Bool := decide (16384 ≤ g ∧ g ≤ 65535)
  range c.gain1 && range c.gain2 && decide (100 * (max c.gain1 c.gain2 - min c.gain1 c.gain2) ≤ max c.gain1 c.gain2)
  && decide ((c.off1 - c.off2).natAbs ≤ 8) && decide (c.off1.natAbs ≤ 1024 ∧ c.off2.natAbs ≤ 1024)

/-- R251, R256: AOR_OPEN_COMPLETE: steering, alignment and calibration of session `i` are finished: the session is OPEN, or DIGITAL in
MODE 2; a failed calibration, or a span that has gone, closes it again. -/
def execAorOpenComplete (i : Fin 16) (cal : List AorCal) (s : State) : Out :=
  .next (match aorGet s i with
    | none => s
    | some a =>
      if aorState s i ≠ 1 ∨ (a.mode ≠ 2 ∧ !a.steered) then s
      else
        let fail (s : State) (r : Nat) : State :=
          let s := setFs s [(PI_AOR_STS_STATE i, 0), (PI_AOR_CMD_STATUS, 3), (PI_AOR_CMD_REASON, r)]
          if a.mode = 2 then aorPut s i none else aorUnsteer s i
        if !aorSpanOk s a then fail s 3
        else if a.mode ≠ 2 ∧ !(cal.length == a.sources && cal.all calGood) then
          fail (report (optFlag s 8 5) ⟨0x0601, 0, 6, 0x20, i, (rd s PI_EVT).toNat, 0⟩) 9
        else
          let s := setFs s [(PI_AOR_STS_STATE i, if a.mode = 2 then 3 else 2), (PI_AOR_CMD_STATUS, 2), (PI_AOR_CMD_REASON, 0)]
          if a.mode = 2 then aorMod s i (fun a => { a with digital := some 0 })
          else (List.zip (List.range a.sources) cal).foldl (fun s (j, c) =>
            setFs s [(PI_AOR_SRC_GAIN i j, c.gain2), (PI_AOR_SRC_OFFSET i j, wrapN (c.off2 / 16) 12), (PI_AOR_SRC_STALE i j, 0),
              (PI_AOR_SRC_ALIGN i j, wrapN c.align 16)]) s)

/-! ## Contributions (R135, R252, R253) -/

/-- The session's contributions accepted and not summed. -/
def showPend (s : State) (i : Nat) : State :=
  match aorGet s i with
  | some a => setF s (PI_AOR_STS_PEND i) (min 65535 (a.contribs.foldl (fun n l => n + l.length) 0))
  | none => s

/-- Contributions of a die that wait in its AOR queue. -/
def aorQueue (s : State) (d : Nat) : Nat :=
  s.opt.aor.foldl (fun n e => match e.2 with
    | some a => (List.range a.sources).foldl (fun n j => if a.srcDie j = d then n + (a.contribs.getD j []).length else n) n
    | none => n) 0

/-- R252: how a source encodes an element: its intensity code, whether it is poison, whether it was clipped. -/
def encodeAor (f : Int) (gain x : Nat) : Nat × Bool × Bool :=
  let v := decFloat .f16 x
  match v with
  | .nan => (2048, true, false)
  | _ =>
    let u := v.scale (-f)
    let sat := (V.num false 1 0).lt u.abs
    let (neg, m, e) := match (if sat then (match u with | .num n _ _ => V.num n 1 0 | .inf n => V.num n 1 0 | .nan => .zero) else u) with
      | .num n m e => (n, m, e)
      | _ => (false, 0, 0)
    let q := roundUnits .rne (m * 2047 * gain) (e - 15) 0
    (if neg then 2048 - q else 2048 + q, false, sat)

/-- R135: maor. -/
def execMaor (p : PlyId) (o : IOp) (s : State) : Out :=
  .next (issue 35 0 p o s (fun s =>
    let i := o.bits 23 16
    match (if i < 16 then aorGet s i else none) with
    | none => .trap 0x16 i false
    | some a =>
      match (List.range a.sources).find? (fun j => a.srcDie j == p.n.val && a.srcBrick j == p.b.val) with
      | none => .trap 0x16 i false
      | some j =>
        if getF s HP_CAP_EFF_CERT_AOR = 0 ∨ (aorState s i ≠ 2 ∧ aorState s i ≠ 3) then .trap 0x16 i false
        else if 64 ≤ aorQueue s p.n then .hold
        else
          let v := getV s p.n p.b o.b
          let el := (unpackElems 16 32 v.data)
          let el := (List.zip el (List.range 32)).map (fun x => if bitN v.poison (x.2 / 16) = 1 then poisonNan .f16 else x.1)
          let enc := el.map (encodeAor a.fexp (if a.mode = 2 then 32768 else getF s (PI_AOR_SRC_GAIN i j)))
          let sats := (enc.filter (·.2.2)).length
          let c : Contrib := ⟨a.nextK.getD j 0, el, enc.map (·.1), enc.map (·.2.1), decide (0 < sats)⟩
          let s := aorMod s i (fun a => { a with contribs := listPut a.contribs j (a.contribs.getD j [] ++ [c]), nextK := listPut a.nextK j (a.nextK.getD j 0 + 1) })
          .done (showPend (satF s (PI_AOR_STS_SAT i) sats) i)))

/-- R254: the slots that the HEAD word shows consumed. -/
def aorHead (s : State) (a : AorX) : Nat := readLE s (storePa a.die a.dstBrick a.head) 4

/-- R253, R254: GO: every contribution for which READY has arrived from all sources and for which a slot is free. -/
def aorGo (s : State) (i : Nat) : State :=
  match aorGet s i with
  | some a =>
    let all := ((List.range a.sources).map (fun j => a.ready.getD j 0)).foldl min 0xFFFFFFFF
    let room := a.slots - (a.go + 2 ^ 32 - aorHead s a) % 2 ^ 32
    aorMod s i (fun a => { a with go := max a.go (min all (a.go + room)) })
  | none => s

/-- R253: AOR_READY: source `j`'s READY for its next contribution arrives. -/
def execAorReady (i j : Fin 16) (s : State) : Out :=
  .next (match aorGet s i with
    | some a =>
      let k := a.ready.getD j 0
      if j.val < a.sources ∧ k < a.nextK.getD j 0 then aorGo (aorMod s i (fun a => { a with ready := listPut a.ready j (k + 1) })) i else s
    | none => s)

/-- R254: AOR_HEAD_REREAD: while the ring appears full the device reads HEAD again. -/
def execAorHeadReread (i : Fin 16) (s : State) : Out := .next (aorGo s i)

/-! ## Slots (R254, R257, R258) -/

/-- A quotient with a last bit that keeps it off a tie it does not lie on: enough for one rounding to F32. -/
def quot (v : Int) (d : Nat) : V :=
  let m := v.natAbs * 2 ^ 128
  .num (decide (v < 0)) (2 * (m / d) + b2n (m % d != 0)) (-129)

/-- R254: the analog result of an element. -/
def analogOf (rx : Nat) (f : Int) (y : Int) : V := (roundF32 ⟨0, false⟩ ((quot (y * 32768) (2047 * max 1 (Config.rxGain rx))).scale f)).1

/-- R257: the digital sum of an element: F32, to nearest even, in source order. -/
def digitalOf (xs : List Nat) : V :=
  xs.foldl (fun a x => (roundF32 ⟨0, false⟩ (a.add (decFloat .f16 x))).1) .zero

/-- The larger of two magnitudes; a NaN wins. -/
def maxAbs (a b : V) : V := if a.isNan then a else if b.isNan ∨ a.lt b then b else a

/-- The square of a difference in units of 2^-200 of (2 N 2^F)^2 (R257). -/
def sqTerm (n : Nat) (f : Int) : V → Nat
  | .num _ m e =>
    let x := 2 * e - 2 * f - 2 + 200
    (if 0 ≤ x then m * m * 2 ^ x.toNat else m * m / 2 ^ (-x).toNat) / (n * n)
  | _ => 0

/-- R257: −log2(√12 × rms) in 1/16 bit, from the sum of squares and their number. -/
def enob (sq n : Nat) : Nat :=
  if sq = 0 then 255
  else
    let a := (12 * sq) ^ 8
    let b := (n * 2 ^ 200) ^ 8
    if b < a then 0 else min 255 (Nat.log2 (b / a))

/-- Table 7-16: write slot `k` and what follows it: the counts, and the arrival after every EVERY slots. -/
def writeSlot (s : State) (i : Nat) (a : AorX) (k : Nat) (sums : List V) (flags srcs : Nat) (diff : V) : State :=
  let bytes := (sums.map (fun v => leBytes 4 (encFloat .f32 v))).flatten ++ leBytes 4 k ++ leBytes 1 flags ++ leBytes 1 srcs ++ leBytes 2 0
    ++ leBytes 4 (encFloat .f32 diff) ++ leBytes 52 0
  let s := memWrite s (storePa a.die a.dstBrick (a.ring + 192 * (k % a.slots))) bytes false
  let s := addF s (PI_AOR_STS_DONE i) 1
  let s := satF s (PI_AOR_STS_POISON i) (sums.filter V.isNan).length
  if (k + 1) % a.every = 0 then arriveFrom s a.die a.knot else s

/-- The contributions of number `k`, by source, and the session without them. -/
def takeK (a : AorX) (k : Nat) : List Contrib × AorX :=
  (a.contribs.flatten.filter (fun c => c.k == k), { a with contribs := a.contribs.map (fun l => l.filter (fun c => c.k != k)) })

/-- R254, R257: sum contribution `k` of the sources that made it and write its slot. `adc` and `off` are what the receiver measured. -/
def sumSlot (s : State) (i : Nat) (a : AorX) (k : Nat) (adc : List Int) (off : Int) : State :=
  let (cs, a') := takeK a k
  let s := aorPut s i (some a')
  let digital := match a.digital with | some d => decide (d ≤ k) | none => false
  let checked := !digital && a.kchk != 0xFF && k % 2 ^ a.kchk == 0
  let poison := (List.range 32).map (fun e => cs.any (fun c => c.poison.getD e false))
  let mask (l : List V) : List V := (List.zip l poison).map (fun x => if x.2 then .nan else x.1)
  let dig := mask ((List.range 32).map (fun e => digitalOf (cs.map (fun c => c.el.getD e 0))))
  let ana := mask ((List.range 32).map (fun e => analogOf a.rx a.fexp (adc.getD e 0 - off)))
  let diffs := (List.zipWith V.sub ana dig).map V.abs
  let worst := if checked then (roundF32 ⟨0, false⟩ (diffs.foldl maxAbs .zero)).1 else .zero
  let full := (V.num false (a.tol * a.sources) (-16)).scale a.fexp
  let trip := checked && full.lt (diffs.foldl maxAbs .zero)
  let flags := b2n (cs.any (·.sat)) + 2 * b2n checked + 4 * b2n trip + 8 * b2n (poison.any id) + 16 * b2n digital
  let s := writeSlot s i a k (if digital || checked then dig else ana) flags cs.length worst
  let s := if checked then
      let s := aorMod s i (fun a => { a with sq := diffs.foldl (fun n d => n + sqTerm a.sources a.fexp d) a.sq, sqN := a.sqN + (diffs.filter (fun d => !d.nonFinite)).length })
      let s := addF (setF s (PI_AOR_CHK_STALE i) 0) (PI_AOR_CHK_CHECKS i) 1
      let s := if trip then addF s (PI_AOR_CHK_TRIPS i) 1 else s
      match aorGet s i with
      | some a => setF s (PI_AOR_CHK_ENOB_EST i) (enob a.sq a.sqN)
      | none => s
    else s
  aorDrained (showPend s i) i

/-- R254: AOR_SLOT: the next contribution that has received GO is summed and written; `adc` holds the 32 samples of the receiver and `off` the
offset sum of the guard samples. A closing session sums what its sources have contributed. -/
def execAorSlot (i : Fin 16) (adc : List Int) (off : Int) (s : State) : Out :=
  .next (match aorGet s i with
    | some a =>
      let k := getF s (PI_AOR_STS_DONE i)
      if k < a.go ∨ (aorState s i = 4 ∧ a.contribs.any (fun l => l.any (fun c => c.k == k))) then sumSlot s i a k adc off else s
    | none => s)

/-! ## Fallback and ends (R256, R258, R259) -/

/-- R258: every pending contribution is written poisoned. -/
def poisonPending (i : Nat) : Nat → State → State
  | 0, s => s
  | n + 1, s =>
    match aorGet s i with
    | some a =>
      let k := getF s (PI_AOR_STS_DONE i)
      if a.contribs.any (fun l => l.any (fun c => decide (k ≤ c.k))) then
        let (cs, a') := takeK a k
        poisonPending i n (writeSlot (aorPut s i (some a')) i a k (List.replicate 32 .nan) 8 cs.length .zero)
      else s
    | none => s

/-- R258: an event that an open analog session does not survive as it is; `cause` is the END it would give: 2 clock, 3 source lost, 4
span, 5 calibration. -/
def aorEvent (s : State) (i cause : Nat) : State :=
  match aorGet s i with
  | some a =>
    if aorState s i ≠ 2 then s
    else if a.mode = 3 then
      optFlag (setF (aorMod s i (fun a => { a with digital := some a.go })) (PI_AOR_STS_STATE i) 3) 8 8
    else
      let s := showPend (poisonPending i (a.nextK.foldl max 0) s) i
      let s := setFs s [(PI_AOR_STS_STATE i, 0), (PI_AOR_STS_END i, cause)]
      aorUnsteer (report (optFlag s 8 9) ⟨0x0605, 0, 6, 0x20, i, (rd s (PI_AOR_STS i 0)).toNat, 0⟩) i
  | none => s

/-- R258: every open analog session that satisfies `p` meets an event. -/
def aorEvents (s : State) (cause : Nat) (p : AorX → Bool) : State :=
  (s.opt.aor.filter (fun e => decide (e.1 < 16))).foldl (fun s e => match e.2 with | some a => if p a then aorEvent s e.1 cause else s | none => s) s

/-- R258: a source strand of an analog session has failed. -/
def aorStrand (s : State) (rho l : Nat) : State :=
  aorEvents s 3 (fun a => (List.range a.sources).any (fun j => 2 * a.srcDie j + 1 == rho && a.srcLam j == l))

/-- R258, R259: die `n` leaves its span. -/
def aorDie (s : State) (n : Nat) : State :=
  aorEvents s 4 (fun a => (a.die == n || (List.range a.sources).any (fun j => a.srcDie j == n))
    && (a.die != n || (List.range a.sources).any (fun j => a.srcDie j != n)))

/-- R259: AOR_CLOSE_COMPLETE: every accepted contribution is written and the ropes are back in flit service. -/
def execAorCloseComplete (i : Fin 16) (s : State) : Out :=
  .next (match aorGet s i with
    | some a =>
      let back := !a.steered && a.ropes.all (fun rho => a.mode == 2 || ropeState s (24 + rho) == 3)
      if aorState s i = 4 ∧ a.contribs.all (·.isEmpty) ∧ back then
        let s := setFs (aorPut s i none) [(PI_AOR_STS_STATE i, 0), (PI_AOR_STS_END i, 1)]
        if getF s PI_AOR_CMD_STATUS = 1 ∧ getF s PI_AOR_CMD_SESS = i.val ∧ getF s PI_AOR_CMD_OP = 2 then setFs s [(PI_AOR_CMD_STATUS, 2), (PI_AOR_CMD_REASON, 0)] else s
      else if aorState s i = 0 ∧ back then aorPut s i none
      else s
    | none => s)

/-- R256: AOR_GAIN_CALIBRATION: the gains measured for the sources, 32,768 = 1.0; one outside the plausible range is not applied. -/
def execAorGainCalibration (i : Fin 16) (gains : List Nat) (s : State) : Out :=
  .next (match aorGet s i with
    | some a =>
      if aorState s i ≠ 2 then s
      else
        let gs := (List.zip (List.range a.sources) gains)
        let ok (g : Nat) : Bool := decide (16384 ≤ g ∧ g ≤ 65535)
        let s := gs.foldl (fun s (j, g) => if ok g then setFs s [(PI_AOR_SRC_GAIN i j, g), (PI_AOR_SRC_STALE i j, 0)] else setF s (PI_AOR_SRC_STALE i j) 1) s
        if gs.all (fun x => ok x.2) then s
        else aorEvent (report (optFlag s 8 5) ⟨0x0601, 0, 6, 0x20, i, (rd s PI_EVT).toNat, 0⟩) i 5
    | none => s)

end Sys2Proof.Machine
end

