-- ==== Sys2Proof/Machine/Pin.lean ====
section
/-! DEFINITION. Pin sets, pool pages and spill (R176-R178, R196-R200). -/
namespace Sys2Proof.Machine

/-! ## Pools (R197) -/

def pinGet (s : State) (n h : Nat) : Option PinX := tabGet (fun _ => none) (dieGet s n).pins h
def pinPut (s : State) (n h : Nat) (x : Option PinX) : State :=
  dieMod s n (fun d => { d with pins := tabSet (fun _ => none) d.pins h x })

/-- The pages of the pool of tier t (1 bed, 2 HBM). -/
def poolCount (s : State) (n t : Nat) : Nat :=
  let c := getF s (CH_PIN_POOL_COUNT n (t - 1))
  if t = 1 then min c 2032 else c
/-- R197: the pages of the HBM pool that its slot table occupies. -/
def slotPages (s : State) (n t : Nat) : Nat := if t = 2 then ceilDiv (poolCount s n t * 8) 65536 else 0
def poolBase (s : State) (n t : Nat) : Nat := getF s (CH_PIN_POOL_BASE n (t - 1)) * 65536
/-- The key of a pool page in use. -/
def poolKey (t i : Nat) : Nat := t * 2 ^ 24 + i
/-- The pool pages of a tier in use. -/
def poolUsed (s : State) (n t : Nat) : Nat := ((dieGet s n).poolUse.filter (fun e => e.1 / 2 ^ 24 == t)).length
/-- What CH_PIN_CAP offers of a pool; 0 while it is not declared. -/
def poolFree (s : State) (n t : Nat) : Nat := poolCount s n t - slotPages s n t - poolUsed s n t
/-- The free pool page of lowest index. -/
def poolNext (s : State) (n t : Nat) : Nat :=
  ((List.range (poolUsed s n t + 1)).map (· + slotPages s n t)).find? (fun i => tabGet (fun _ => 0) (dieGet s n).poolUse (poolKey t i) == 0)
    |>.getD 0

/-- R200: whether a page of a pool is pinned or holds a moved page. -/
def poolBusy (s : State) (n t : Nat) : Bool := poolUsed s n t != 0

/-- R177: locked translation entries of the hub cache that serves a channel. -/
def lockedCount (s : State) (n : Nat) : Nat := ((dieGet s (xOwner s n)).hubCache.filter (fun e => e.locks != 0)).length
/-- CH_PIN_CAP.XLT_FREE. -/
def xltFree (s : State) (n : Nat) : Nat := 8192 * max 1 (spanMembers (spanOf s n)).length - lockedCount s n

/-- R196: the rank of the tier that holds an address: 0 brick store, 1 bed, 2 HBM, 3 host memory. -/
def tierOf (pa : Nat) : Nat := if pa < 0x8000000000 then 2 else if pa < 0x10040000000 then 1 else if pa < hostBase then 0 else 3

/-! ## The request (R176) -/

/-- The pages of a range list: address space and virtual address of each. -/
def pagesOf : List (Nat × Nat × Nat) → List (Nat × Nat)
  | [] => []
  | (va, k, asid) :: t => (List.range k).map (fun i => (asid, va + 65536 * i)) ++ pagesOf t

/-- R176: the ranges in a list of 16-byte entries, with whether every entry is well formed. -/
def rangesOf : Nat → Nat → List (Nat × Nat × Nat) × Bool
  | 0, _ => ([], true)
  | k + 1, x =>
    let (t, ok) := rangesOf k (x / 2 ^ 128)
    ((byteN x 0 8, byteN x 8 4, byteN x 12 1) :: t, ok && byteN x 0 8 % 65536 == 0 && byteN x 13 3 == 0)

/-- What the survey of a pin's pages found: the pages to move, the pages in place, the pages that cannot be moved, the fault that
stops it (kind, level, address space, address, entry), and whether a table read waits. -/
structure Survey where
  move : List PinPage
  place : List XEnt
  stuck : Nat
  fault : Option (Nat × Nat × Nat × Nat × Nat)
  waits : Bool

/-- Remove the cached translation of a page everywhere. -/
def dropPage (s : State) (n asid va : Nat) : State :=
  (reach s n).foldl (fun s d => dieMod s d (fun x => { x with
    dieCache := x.dieCache.filter (fun e => !e.covers asid va), hubCache := x.hubCache.filter (fun e => !e.covers asid va) })) s

/-- R196: survey one page: resident in the tier, movable, or mapped by a run or block and not resident. -/
def surveyPage (s : State) (n tier : Nat) (pg : Nat × Nat) (v : Survey) : Survey × State :=
  if v.fault.isSome ∨ v.waits then (v, s)
  else
    let (asid, va) := pg
    let o := xOwner s n
    let r : XRes := match (dieGet s o).hubCache.find? (fun e => e.covers asid va && (e.locks != 0 || decide (tierOf (e.pa + (va - e.va)) ≤ tier))) with
      | some e => .ok (e.pa + (va - e.va)) s
      | none => if 2 ^ 48 ≤ va then .fault 3 0 0 s else walk (dropPage s n asid va) n asid va false
    match r with
    | .wait s => ({ v with waits := true }, s)
    | .miss s => (v, s)
    | .fault k l e s => ({ v with fault := some (k, l, asid, va, e) }, s)
    | .ok pa s =>
      match (dieGet s (xOwner s n)).hubCache.find? (fun e => e.covers asid va) with
      | none => (v, s)
      | some e =>
        if tierOf pa ≤ tier then ({ v with place := if v.place.any (fun x => x.va == e.va && x.asid == e.asid) then v.place else v.place ++ [e] }, s)
        else if e.size ≠ 65536 ∨ e.locks ≠ 0 then ({ v with stuck := v.stuck + 1 }, s)
        else
          let l2 := match (dieGet s (xOwner s n)).walkCache.find? (fun w => w.asid == asid && w.level == 1 && w.idx == va / 2 ^ 29) with
            | some w => entPa w.ent + 8 * bitsN va 28 16
            | none => 0
          ({ v with move := v.move ++ [⟨asid, va, l2, pa, 0⟩] }, s)

def surveyAll (n tier : Nat) : State → List (Nat × Nat) → Survey → Survey × State
  | s, [], v => (v, s)
  | s, p :: t, v =>
    let (v, s) := surveyPage s n tier p v
    surveyAll n tier s t v

/-- Lock a cached translation once more. -/
def lockEnt (s : State) (n asid va : Nat) : State :=
  dieMod s (xOwner s n) (fun d => { d with hubCache := d.hubCache.map (fun e => if e.va == va && (e.asid == asid || e.g) then { e with locks := e.locks + 1 } else e) })
/-- Unlock a cached translation once. -/
def unlockEnt (s : State) (n asid va : Nat) : State :=
  dieMod s (xOwner s n) (fun d => { d with hubCache := d.hubCache.map (fun e => if e.va == va && (e.asid == asid || e.g) then { e with locks := e.locks - 1 } else e) })

/-- Table 6-10: the record of a pin fault. -/
def pinFaultRec (s : State) (n kind level asid va ent : Nat) : Nat :=
  packRec [(0, 5), (1, kind), (2, level), (3, asid), (4, 64), (5, n), (8, va % 2 ^ 64), (36, 0xFFFF), (38, 0xFF), (40, epochOf s n), (48, ent % 2 ^ 64)]

/-- R176: PIN: the front pin request is refused, or starts locking and moving pages. A page that cannot be translated abandons the
pin (R199). -/
def execPin (n : Die) (s : State) : Out :=
  .next (withRequest s n (fun o r s =>
    if !kindFor 4 r then s
    else match refusal s n r with
      | some w => refuse s n o w.1 w.2
      | none =>
        let cnt := byteN r 32 4
        match devRead s n (byteN r 24 8) (16 * cnt) with
        | .wait s => s
        | .ok b _ s =>
          let (ranges, ok) := rangesOf cnt (leVal b)
          let tier := byteN r 37 1
          let h := byteN r 36 1
          if !ok then refuse s n o 12 24
          else
            let (v, s) := surveyAll n tier s (pagesOf ranges) ⟨[], [], 0, none, false⟩
            if v.waits then s
            else
              let pin : PinX := ⟨tier, ranges, [], [], [], false, false, none, o⟩
              match v.fault with
              | some (k, l, asid, va, e) =>
                pinPut (dieMod s n (fun d => { d with admBusy := true })) n h (some { pin with failed := some (pinFaultRec s n k l asid va e) })
              | none =>
                let need := v.move.length
                let pageShort := v.stuck + (need - (if tier = 3 then need else poolFree s n tier))
                let locks := need + (v.place.filter (fun e => e.locks == 0)).length
                let short := max pageShort (locks - xltFree s n)
                if short ≠ 0 then refuse s n o 7 short
                else
                  let s := v.place.foldl (fun s e => lockEnt s n e.asid e.va) s
                  let s := dieMod s n (fun d => { d with admBusy := true })
                  pinPut s n h (some { pin with locked := v.place.map (fun e => (e.asid, e.va)), todo := v.move })))

/-- Rewrite the page address of an L2 entry, keeping its attributes (R197, R198). -/
def rewriteL2 (s : State) (n l2 pa : Nat) : State := devWrite s n l2 (leBytes 8 (putN (readLE s l2 8) 16 36 (pa / 65536))) false

/-- Copy a 64 KiB page, with its poison marks. -/
def copyPage (s : State) (src dst : Nat) : State :=
  let s' := copyRange s src dst 65536
  let keep := s.poisoned.filter (fun l => !decide (dst ≤ 64 * l ∧ 64 * l < dst + 65536))
  let new := (s.poisoned.filter (fun l => decide (src ≤ 64 * l ∧ 64 * l < src + 65536))).map (fun l => l - src / 64 + dst / 64)
  { s' with poisoned := new.foldl (fun a l => insertAsc l a) keep }

/-- R197: PIN_PAGE_MOVE: the next page of a pin moves into a pool page: copied, its L2 entry rewritten, its original page recorded in
the slot table, its translation locked. A walk that faults leaves the pin to be abandoned (R199). -/
def execPinPageMove (n : Die) (h : Fin 255) (s : State) : Out :=
  .next (match pinGet s n h with
    | none => s
    | some p =>
      match p.todo with
      | [] => s
      | g :: t =>
        if p.unpin ∨ p.failed.isSome ∨ (dieGet s n).hubAbsent ∨ !memReady s g.orig ∨ !memReady s (poolBase s n p.tier) then s
        else
          let s := dropPage s n g.asid g.va
          match walk s n g.asid g.va false with
          | .wait s => s
          | .miss s => s
          | .fault k l e s => pinPut s n h (some { p with failed := some (pinFaultRec s n k l g.asid g.va e) })
          | .ok pa s =>
            let i := poolNext s n p.tier
            let dst := poolBase s n p.tier + 65536 * i
            let s := rewriteL2 (copyPage s pa dst) n g.l2 dst
            let s := if p.tier = 2 then devWrite s n (poolBase s n 2 + 8 * i) (leBytes 8 pa) false else s
            let s := dieMod s n (fun d => { d with poolUse := tabSet (fun _ => 0) d.poolUse (poolKey p.tier i) (pa + 1) })
            let s := dropPage s n g.asid g.va
            match walk s n g.asid g.va false with
            | .ok _ s =>
              let s := lockEnt s n g.asid g.va
              pinPut s n h (some { p with todo := t, moved := p.moved ++ [{ g with orig := pa, pool := i }], locked := p.locked ++ [(g.asid, g.va)] })
            | _ => pinPut s n h (some { p with todo := t, moved := p.moved ++ [{ g with orig := pa, pool := i }] }))

/-- R176: PIN_COMPLETE: every page is resident and locked; the response is written. -/
def execPinComplete (n : Die) (h : Fin 255) (s : State) : Out :=
  .next (match pinGet s n h with
    | none => s
    | some p =>
      if p.complete ∨ p.unpin ∨ p.failed.isSome ∨ p.todo ≠ [] then s
      else accepted (pinPut s n h (some { p with complete := true })) n p.origin h 0)

/-- R198: release a pin set: every moved page is copied back and its L2 entry rewritten, every page pinned in place is unlocked, the
pool pages are free. -/
def releasePin (s : State) (n h : Nat) : State :=
  match pinGet s n h with
  | none => s
  | some p =>
    let s := p.locked.foldl (fun s e => unlockEnt s n e.1 e.2) s
    let s := p.moved.foldl (fun s g =>
      let s := rewriteL2 (copyPage s (poolBase s n p.tier + 65536 * g.pool) g.orig) n g.l2 g.orig
      let s := dieMod s n (fun d => { d with poolUse := tabSet (fun _ => 0) d.poolUse (poolKey p.tier g.pool) 0 })
      dropPage s n g.asid g.va) s
    pinPut s n h none

/-- R199: PIN_ABANDONED: a fault undoes the pin: pages moved go back, nothing stays locked, reason 7, a record with EVENT 5. -/
def execPinAbandoned (n : Die) (h : Fin 255) (s : State) : Out :=
  .next (match pinGet s n h with
    | none => s
    | some p =>
      match p.failed with
      | none => s
      | some body =>
        let all := (pagesOf p.ranges).length
        refuse (pushRec (releasePin s n h) n body .none) n p.origin 7 (max 1 (all - p.locked.length)))

/-- R198: UNPIN: the front unpin request is refused, or starts releasing its pin set. -/
def execUnpin (n : Die) (s : State) : Out :=
  .next (withRequest s n (fun o r s =>
    if !kindFor 5 r then s
    else match refusal s n r with
      | some w => refuse s n o w.1 w.2
      | none =>
        match pinGet s n (byteN r 36 1) with
        | none => s
        | some p =>
          pinPut (dieMod s n (fun d => { d with admBusy := true })) n (byteN r 36 1) (some { p with unpin := true, origin := o })))

/-- R198: UNPIN_COMPLETE: the last copy completes and the response is written; Table 5-2 gives its index no value. -/
def execUnpinComplete (n : Die) (h : Fin 255) (s : State) : Out :=
  .next (match pinGet s n h with
    | none => s
    | some p =>
      if p.unpin ∧ !(dieGet s n).hubAbsent then
        let (v, s) := draw (releasePin s n h)
        accepted s n p.origin (v.toNat % 4096) 0
      else s)

/-- R183, R159: every pin set of a channel is released when its span is dissolved. -/
def releaseAll (s : State) (n : Nat) : State := ((dieGet s n).pins.map (·.1)).foldl (fun s h => releasePin s n h) s

end Sys2Proof.Machine
end

