-- ==== Sys2Proof/Machine/Preempt.lean ====
section
/-! DEFINITION. Pre-emption: save, restore and cancel requests, the save area, and their faults (R112, R214-R220). -/
namespace Sys2Proof.Machine

/-! ## Requests (R214, Table 6-13) -/

def PreX.kind (x : PreX) : Nat := byteN x.raw 0 1
def PreX.policy (x : PreX) : Nat := byteN x.raw 1 1
def PreX.brickPol (x : PreX) : Bool := bitN x.policy 0 == 1
def PreX.storePol (x : PreX) : Bool := bitN x.policy 1 == 1
def PreX.force (x : PreX) : Bool := bitN x.policy 2 == 1
def PreX.phys (x : PreX) : Bool := bitN x.policy 3 == 1
def PreX.asid (x : PreX) : Nat := byteN x.raw 3 1
def PreX.brick (x : PreX) : Nat := byteN x.raw 6 2 % 512
def PreX.die (x : PreX) : Nat := bitsN (byteN x.raw 6 2) 10 9
def PreX.area (x : PreX) : Nat := byteN x.raw 8 8
def PreX.limit (x : PreX) : Nat := byteN x.raw 16 4

/-- The size of a save area (Table 6-14). -/
def areaSize (store : Bool) : Nat := if store then 0x120000 else 0x10000

/-- A response to a pre-emption request: CH_PRE_RESP, or the result of a host-queue command. -/
def preRespond (s : State) (n : Nat) (o : Origin) (w : Nat) : State :=
  let s := dieMod s n (fun d => { d with preQ := d.preQ.drop 1 })
  match o with
  | .submit => setF (wr s (CH_PRE_RESP n) (BitVec.ofNat 64 w)) (CH_PRE_SUBMIT_STATUS n) 2
  | .queue r q csn => pushResponse s n r q csn w

/-- The slot a new request takes: a FREE one, else the terminal one that ended first. -/
def preSlot (s : State) (n : Nat) : Option Nat :=
  match (List.range 64).find? (fun k => getF s (CH_PRE_REQ_STATE n k) == 0) with
  | some k => some k
  | none =>
    let done := (List.range 64).filter (fun k => decide (7 ≤ getF s (CH_PRE_REQ_STATE n k)))
    let age (k : Nat) : Nat := ((preGet s n k).map (·.ended)).getD 0
    done.foldl (fun m k => match m with | none => some k | some j => if age k < age j then some k else some j) none

/-- A live save request of a channel that names ply q of a brick. -/
def savedBy (s : State) (n die b q : Nat) : Bool :=
  (List.range 64).any (fun k => preLive (getF s (CH_PRE_REQ_STATE n k)) && getF s (CH_PRE_REQ_DIE n k) == die
    && getF s (CH_PRE_REQ_BRICK n k) == b && bitN (getF s (CH_PRE_REQ_PLIES n k)) q == 1)

/-- The plies of a mask. -/
def maskPlies (m : Nat) : List Nat := (List.range 4).filter (fun q => bitN m q == 1)

/-- R214 reason 4: whether the page of an address lies in a live pin set. -/
def pagePinned (s : State) (n asid a : Nat) (phys : Bool) : Bool :=
  (reach s n).any (fun d => (dieGet s d).pins.any (fun e => match e.2 with
    | some p => p.complete && !p.unpin &&
        (if phys then p.locked.any (fun l => (dieGet s (xOwner s n)).hubCache.any (fun x => x.va == l.2 && (x.g || x.asid == l.1) && x.locks != 0
            && decide (x.pa ≤ a ∧ a < x.pa + x.size)))
         else p.ranges.any (fun r => r.2.2 == asid && decide (r.1 ≤ a ∧ a < r.1 + 65536 * r.2.1)))
    | none => false))

/-- The physical address of an offset in a request's save area. -/
def areaPa (s : State) (n : Nat) (x : PreX) (off : Nat) (write : Bool) : Option Nat :=
  match xlate s n x.asid (x.area + off) x.phys write with
  | .ok pa _ => some pa
  | .miss s => (match walk s n x.asid (x.area + off) write with | .ok pa _ => some pa | _ => none)
  | _ => none

/-- The 64-byte header of a save area, where it can be read. -/
def areaHeader (s : State) (n : Nat) (x : PreX) : Nat :=
  match areaPa s n x 0 false with
  | some pa => readLE s pa 64
  | none => 0

/-- R214: the first reason, in order, for which a request is refused. -/
def preRefusal (s : State) (n r : Nat) : Option Nat :=
  let x : PreX := ⟨r, [], 0, [], [], 0⟩
  let k := x.kind
  let hd := if k = 2 then areaHeader s n x else 0
  let mask := if k = 2 then byteN hd 2 1 % 16 else byteN r 2 1 % 16
  let store := if k = 2 then bitN (byteN hd 1 1) 1 == 1 else x.storePol
  let ps := maskPlies mask
  let c := byteN r 20 1
  if (k = 1 ∨ k = 2) ∧ (preSlot s n).isNone then some 1
  else if (k = 1 ∨ k = 2) ∧ ps.any (fun q => plyPromised s x.die (4 * x.brick + q)) then some 2
  else if k = 1 ∧ ps.any (fun q => let st := plyState s x.die x.brick q; st == 0 || st == 4) then some 3
  else if k = 2 ∧ (ps.any (fun q => let st := plyState s x.die x.brick q; st != 0 && st != 4)
      ∨ 8 < (brickGet s x.die x.brick).tickets.length + popN 8 (byteN hd 28 1)) then some 3
  else if k = 3 ∧ c < 64 ∧ !([1, 3, 5].contains (getF s (CH_PRE_REQ_STATE n c))) then some 3
  else if (k = 1 ∨ k = 2) ∧ (x.area % 65536 ≠ 0 ∨
      !(List.range (areaSize store / 65536)).all (fun i => pagePinned s n x.asid (x.area + 65536 * i) x.phys)) then some 4
  else if k = 1 ∧ ((x.storePol && !x.brickPol) || (x.brickPol && mask != 15)) then some 5
  else if k = 2 ∧ !store ∧ byteN hd 4 2 ≠ byteN r 6 2 then some 5
  else if getF s (FC_STS_FENCED n) = 1 ∨ getF s (CH_DIE_STS_STATE n) ≠ 3 ∨ !sameSpan s n x.die then some 6
  else if k = 0 ∨ 3 < k ∨ bitsN x.policy 7 5 ≠ 0 ∨ 15 < byteN r 2 1 ∨ (k = 1 ∧ byteN r 2 1 = 0) ∨ (k ≠ 1 ∧ byteN r 2 1 ≠ 0)
      ∨ 384 ≤ x.brick ∨ bitsN (byteN r 6 2) 15 11 ≠ 0 ∨ (k = 3 ∧ 64 ≤ c) ∨ byteN r 21 3 ≠ 0 ∨ byteN r 28 36 ≠ 0 then some 7
  else none

/-- The front pre-emption request, its 64 bytes read at its address when it was submitted by address. -/
def withPre (s : State) (n : Nat) (f : Origin → Nat → State → State) : State :=
  match (dieGet s n).preQ with
  | [] => s
  | q :: t =>
    if (dieGet s n).hubAbsent then s
    else match q.raw with
      | some r => f q.origin r s
      | none =>
        if !populated q.addr then f q.origin 0 s
        else match devRead s n q.addr 64 with
          | .wait s => s
          | .ok b _ s => f q.origin (leVal b) (dieMod s n (fun d => { d with preQ := { q with raw := some (leVal b) } :: t }))

/-- Table 5-2's counterpart: REQ of a refusal is given no value: a free value. -/
def preRefuse (s : State) (n : Nat) (o : Origin) (why : Nat) : State :=
  let (v, s) := draw s
  preRespond s n o (v.toNat % 64 + why * 2 ^ 8)

/-- A request takes its slot. -/
def preTake (s : State) (n k r mask st : Nat) : State :=
  let x : PreX := ⟨r, [], epochOf s n, [], [], 0⟩
  let s := wr s (CH_PRE_REQ n k) (BitVec.ofNat 64 (st + mask * 2 ^ 4 + x.brick * 2 ^ 12 + x.die * 2 ^ 21 + byteN r 24 4 * 2 ^ 32))
  prePut s n k (some x)

/-- Mark or unmark the plies of a mask. -/
def markPlies (die b : Nat) (v : Bool) (s : State) (m : Nat) : State :=
  (maskPlies m).foldl (fun s q => plyMod s die b q (fun y => { y with marked := v })) s

/-- R214: PREEMPT_SAVE. A request of no kind is refused here. -/
def execPreemptSave (n : Die) (s : State) : Out :=
  .next (withPre s n (fun o r s =>
    if byteN r 0 1 = 2 ∨ byteN r 0 1 = 3 then s
    else match preRefusal s n r with
      | some w => preRefuse s n o w
      | none =>
        match preSlot s n with
        | none => s
        | some k =>
          let x : PreX := ⟨r, [], 0, [], [], 0⟩
          let s := preTake s n k r (byteN r 2 1) 1
          preRespond (markPlies x.die x.brick true s (byteN r 2 1)) n o (k + 2 ^ 6)))

/-- R214: PREEMPT_RESTORE. -/
def execPreemptRestore (n : Die) (s : State) : Out :=
  .next (withPre s n (fun o r s =>
    if byteN r 0 1 ≠ 2 then s
    else match preRefusal s n r with
      | some w => preRefuse s n o w
      | none =>
        match preSlot s n with
        | none => s
        | some k =>
          let x : PreX := ⟨r, [], 0, [], [], 0⟩
          preRespond (preTake s n k r (byteN (areaHeader s n x) 2 1 % 16) 6) n o (k + 2 ^ 6)))

/-! ## Stopping and resuming plies (R215, R219) -/

/-- Whether a named ply has stopped: at a ppt or by force with its instructions complete, or TRAPPED. -/
def plyStopped (s : State) (die b q : Nat) : Bool :=
  let x := plyGet s die b q
  sbHeld s die b q == 0 && x.trap.isNone && (x.saving || plyState s die b q == 3)

/-- Stopped plies go on; a withdrawn wait is issued again with its remaining time (R218, R219). -/
def resumePlies (die b : Nat) (w : List (Nat × Nat × Nat)) (s : State) (m : Nat) : State :=
  (maskPlies m).foldl (fun s q => plyMod s die b q (fun y =>
    { y with saving := false, rewait := (w.find? (fun e => e.1 == q)).map (fun e => e.2.2) })) s

/-- R220: PREEMPT_CANCEL: a pending, deferred or suspended save ends; its plies are not stopped. -/
def execPreemptCancel (n : Die) (s : State) : Out :=
  .next (withPre s n (fun o r s =>
    if byteN r 0 1 ≠ 3 then s
    else match preRefusal s n r with
      | some w => preRefuse s n o w
      | none =>
        let k := byteN r 20 1 % 64
        match preGet s n k with
        | none => s
        | some x =>
          let m := getF s (CH_PRE_REQ_PLIES n k)
          let s := resumePlies x.die x.brick x.waits (markPlies x.die x.brick false s m) m
          preRespond (preEnd s n k 9) n o (k + 2 ^ 6)))

/-- The remaining ns of a wait: to a target epoch, or to a kwait's limit; all ones for none. -/
def remaining (s : State) (n : Nat) (d : Option Nat) : Nat :=
  match d with
  | none => 2 ^ 64 - 1
  | some t => if epochReached (epochOf s n) t then 0 else (t + 2 ^ 48 - epochOf s n) % 2 ^ 48

/-- R215: stop one ply between points; a wait in progress is withdrawn and its PC left at that instruction. -/
def forceStop (s : State) (p : PlyId) : Option (Nat × Nat × Nat) × State :=
  let x := plyGet s p.n p.b p.q
  if plyState s p.n p.b p.q = 2 then
    let w := (p.q.val, (rd s (CD_PLY_WAIT p.n p.b p.q)).toNat, remaining s p.n (x.wait.bind (·.deadline)))
    let s := match sbWaitEntry s p.n p.b p.q with
      | some e => sbRelease (setPc s p (8 * getF s (CD_BK_SB_PC p.n p.b e))) p.n p.b e
      | none => s
    let s := brickMod s p.n p.b (fun y => { y with recvQ := y.recvQ.filter (· != p.q.val) })
    let s := setF (wr s (CD_PLY_WAIT p.n p.b p.q) 0) (CD_PLY_STS_STATE p.n p.b p.q) 1
    (some w, plyMod s p.n p.b p.q (fun y => { y with wait := none, saving := true }))
  else if plyState s p.n p.b p.q = 1 then (none, plyMod s p.n p.b p.q (fun y => { y with saving := true }))
  else (none, s)

/-- R215: PREEMPT_FORCE_LIMIT: LIMIT ns have passed and the named plies that have not stopped are stopped between points. -/
def execPreemptForceLimit (n : Die) (k : Fin 64) (s : State) : Out :=
  .next (match preGet s n k with
    | none => s
    | some x =>
      let st := getF s (CH_PRE_REQ_STATE n k)
      if x.force ∧ (st = 1 ∨ st = 3) ∧ epochReached (epochOf s n) ((x.since + x.limit) % 2 ^ 48) then
        (maskPlies (getF s (CH_PRE_REQ_PLIES n k))).foldl (fun s q =>
          let p : PlyId := ⟨Fin.ofNat 4 x.die, Fin.ofNat 384 x.brick, Fin.ofNat 4 q⟩
          if (plyGet s p.n p.b p.q).saving then s
          else
            let (w, s) := forceStop s p
            match w with
            | some w => prePut s n k ((preGet s n k).map (fun y => { y with waits := y.waits ++ [w] }))
            | none => s) s
      else s)

/-! ## Saving (R215-R217, R219) -/

/-- Whether a descriptor was submitted by a named ply of a brick. -/
def descOf (b m : Nat) (d : QDesc) : Bool :=
  match d.src with
  | some (b', q) => b' == b && bitN m q == 1
  | none => false

/-- Engines that hold a named ply's descriptor with a block sent and not committed: they reach their block boundary first. -/
def midBlock (s : State) (die b m : Nat) : Bool :=
  (dieGet s die).engines.any (fun e => match e.2 with
    | some x => descOf b m x.d && x.leg != .build
    | none => false)

/-- R215: whether the conditions of a save hold. -/
def saveReady (s : State) (x : PreX) (m : Nat) : Bool :=
  (maskPlies m).all (fun q => plyStopped s x.die x.brick q) && !midBlock s x.die x.brick m
  && (!x.brickPol || ((brickGet s x.die x.brick).shq.isEmpty && (List.range 32).all (fun e => getF s (CD_BK_SB_VALID x.die x.brick e) == 0)))
  && (!x.storePol || (s.flights.all (fun f => !(f.die == x.die && f.brick == x.brick)
      && !(f.msg.op == opReply && placeDie f.msg.dest == x.die && placeBrick f.msg.dest == x.brick))))

/-- R216: take a named ply's descriptors out of the queue and engines, each at its block boundary. -/
def stopDescs (s : State) (die b m : Nat) : List QDesc × State :=
  let d := dieGet s die
  let inQ := d.dmaQ.filter (descOf b m)
  let inE := d.engines.filterMap (fun e => match e.2 with
    | some x => if descOf b m x.d && !x.nextWait then
        some (e.1, { x.d with pos := getF s (CD_DMA_ENG_POS die e.1), blk := getF s (CD_DMA_ENG_BLOCK die e.1) }) else none
    | none => none)
  let s := dieMod s die (fun y => { y with dmaQ := y.dmaQ.filter (fun q => !descOf b m q) })
  let s := inE.foldl (fun s e => setF (invBlockDone (engPut s die e.1 none) die e.1) (CD_DMA_ENG_STATE die e.1) 4) s
  let ds := inE.map (·.2) ++ inQ
  (ds, brickMod s die b (fun y => { y with tickets := y.tickets.filter (fun t => !ds.any (fun q => q.ticket == t)) }))

/-- Engines stopped for a save are IDLE again. -/
def idleStopped (s : State) (die : Nat) : State :=
  (List.range 64).foldl (fun s e => if getF s (CD_DMA_ENG_STATE die e) = 4 then setF s (CD_DMA_ENG_STATE die e) 0 else s) s

/-- Descriptors join the queue again under their old tickets (R216, R218). -/
def requeue (s : State) (die b : Nat) (ds : List QDesc) : State :=
  ds.foldl (fun s d => brickMod (enqueueDesc s die d) die b (fun y => { y with tickets := y.tickets ++ [d.ticket] })) s

/-- R217: SAVE_START: the conditions of R215 hold; descriptors are stopped and the hub engines begin to write the area. -/
def execSaveStart (n : Die) (k : Fin 64) (s : State) : Out :=
  .next (match preGet s n k with
    | none => s
    | some x =>
      let st := getF s (CH_PRE_REQ_STATE n k)
      let m := getF s (CH_PRE_REQ_PLIES n k)
      if (st = 1 ∨ st = 3) ∧ saveReady s x m then
        let sts := (maskPlies m).map (fun q =>
          (q, if x.waits.any (fun w => w.1 == q) then 2 else plyState s x.die x.brick q))
        let (ds, s) := stopDescs s x.die x.brick m
        let s := prePut s n k (some { x with descs := ds, states := sts })
        let s := if x.storePol then brickMod s x.die x.brick (fun y => { y with swapped := true }) else s
        setFs s [(CH_PRE_REQ_STOPPED n k, m), (CH_PRE_REQ_STATE n k, if st = 1 then 2 else 4)]
      else s)

/-- Words as bytes. -/
def wordBytes (l : List Word) : List Byte := (l.map (fun w => leBytes 8 w.toNat)).flatten

/-- The words of consecutive registers. -/
def regWords (s : State) (a k : Nat) : List Word := (List.range k).map (fun i => rd s (a + 8 * i))

/-- Table 6-14: the area of ply q from byte 0 of its 1 KiB. -/
def plyArea (s : State) (x : PreX) (q : Nat) : List Byte :=
  let p : PlyId := ⟨Fin.ofNat 4 x.die, Fin.ofNat 384 x.brick, Fin.ofNat 4 q⟩
  let w := (x.waits.find? (fun e => e.1 == q)).map (·.2)
  let flags := getF s (CD_PLY_STS_TH p.n p.b p.q) + 2 * getF s (CD_PLY_STS_CHK_PEND p.n p.b p.q) + 4 * getF s (CD_PLY_STS_ESC_PEND p.n p.b p.q)
    + 8 * getF s (CD_PLY_STS_DOUBLE p.n p.b p.q) + 16 * bitN (getF s (CD_BK_SCHED_PRIO p.n p.b)) q
  wordBytes ((List.range 32).map (getS s p) ++ (List.range 16).map (getA s p)
    ++ [(rd s (CD_PLY_PRED p.n p.b p.q) &&& 0xFE) ||| 1, BitVec.ofNat 64 (getPc s p), BitVec.ofNat 64 (plyGet s p.n p.b p.q).issued,
        rd s (CD_PLY_TVEC p.n p.b p.q), rd s (CD_PLY_EPC p.n p.b p.q), rd s (CD_PLY_CAUSE p.n p.b p.q), rd s (CD_PLY_TINFO p.n p.b p.q),
        BitVec.ofNat 64 flags, BitVec.ofNat 64 ((w.map (·.1)).getD 0), BitVec.ofNat 64 ((w.map (·.2)).getD (2 ^ 64 - 1))])

/-- Table 6-14, descriptor slot: the descriptor, its ply, ticket, restart point, block and address. -/
def descArea (d : QDesc) : List Byte :=
  leBytes 64 d.raw ++ leBytes 2 ((d.src.map (·.2)).getD 0) ++ leBytes 6 d.ticket ++ leBytes 8 d.pos ++ leBytes 8 d.blk ++ leBytes 8 d.addr

/-- Table 6-14, per-brick state at 0x0_6000. -/
def brickArea (s : State) (x : PreX) : List Byte :=
  let n := x.die
  let b := x.brick
  wordBytes ([rd s (CD_BK_ARITH n b), rd s (CD_BK_SEED n b)] ++ regWords s (CD_BK_SGCTX n b 0) 8
    ++ [rd s (CD_BK_ARRST n b), BitVec.ofNat 64 (getF s (CD_BK_SCHED_PRIO n b))]
    ++ regWords s (CD_BK_LSLOT n b 0) 8 ++ regWords s (CD_BK_LSARG n b 0) 8
    ++ (List.range 8).map (fun i => BitVec.ofNat 64 (if getF s (CD_BK_LSLOT_ARMED n b i) = 1
        then remaining s n (some (getF s (CD_BK_LSLOT_EPOCH n b i))) else 2 ^ 64 - 1))
    ++ (if x.storePol then rd s (CD_ME_CTL n b) :: regWords s (CD_ME_TALLY n b 0) 4 else []))

/-- Table 6-14: what the area holds after its header, by offset, but for the brick-store image. -/
def areaChunks (s : State) (x : PreX) (m : Nat) : List (Nat × List Byte) :=
  let n := x.die
  let b := x.brick
  (maskPlies m).map (fun q => (0x400 + 0x400 * q, plyArea s x q))
  ++ (List.range x.descs.length).map (fun j => (0x1400 + 0x80 * j, ((x.descs[j]?).map descArea).getD []))
  ++ (if x.brickPol then
      (List.range 32).map (fun i => (0x2000 + 0x80 * i, wordBytes (regWords s (CD_BK_VREG n b i 0) 11)))
      ++ (List.range 4).map (fun k => (0x3000 + 0x200 * k, wordBytes (regWords s (CD_BK_ACC n b k 0) 33)))
      ++ (List.range 4).map (fun j => (0x4000 + 0x800 * j, wordBytes (regWords s (CD_BK_WPL n b j 0) 161)))
      ++ [(0x6000, brickArea s x)] else [])
  ++ (if x.storePol then
      [(0x10000, wordBytes (regWords s (CD_ME_VT n b 0) 4096)),
       (0x18000, leBytes 64 (brickGet s n b).inbox.length ++ ((brickGet s n b).inbox.map (fun e => leBytes 16 e.tag ++ leBytes 64 e.body)).flatten)]
      else [])

/-- Write a chunk of the area; its pages are pinned. -/
def areaWrite (n : Nat) (x : PreX) (s : State) (c : Nat × List Byte) : State :=
  match areaPa s n x c.1 true with
  | some pa => devWrite s n pa c.2 false
  | none => s

/-- Zero the area before it is filled. -/
def areaZero (n : Nat) (x : PreX) (s : State) : State :=
  (List.range (areaSize x.storePol / 65536)).foldl (fun s i =>
    match areaPa s n x (65536 * i) true with
    | some pa => { s with mem := tabDrop (fun a => decide (pa ≤ a ∧ a < pa + 65536)) s.mem }
    | none => s) s

/-- Copy the brick store to or from the image in the area. -/
def areaImage (n : Nat) (x : PreX) (out : Bool) (s : State) : State :=
  (List.range 16).foldl (fun s i =>
    match areaPa s n x (0x20000 + 65536 * i) out with
    | some pa =>
      let st := storePa x.die x.brick (65536 * i)
      if out then copyRange s st pa 65536 else copyRange s pa st 65536
    | none => s) s

/-- The bytes of the area after its header. -/
def areaBody (s : State) (n : Nat) (x : PreX) (store : Bool) : List Byte :=
  ((List.range (areaSize store / 65536)).map (fun i =>
    match areaPa s n x (65536 * i) false with
    | some pa => if i = 0 then readBytes s (pa + 64) (65536 - 64) else readBytes s pa 65536
    | none => [])).flatten

/-- Table 6-14: the header. -/
def areaHead (s : State) (n k : Nat) (x : PreX) (m : Nat) : Nat :=
  packRec [(0, 1), (1, x.policy), (2, m), (3, x.states.foldl (fun a e => a + e.2 % 4 * 4 ^ e.1) 0), (4, byteN x.raw 6 2), (6, k),
    (8, s.hub.fuses.uid), (16, epochOf s n), (24, byteN x.raw 24 4), (28, 2 ^ x.descs.length - 1),
    (32, crc32c (areaBody s n x x.storePol))]

/-- R217: SAVE_COMPLETE: the area and then its header are written; each named ply becomes SAVED. -/
def execSaveComplete (n : Die) (k : Fin 64) (s : State) : Out :=
  .next (match preGet s n k with
    | none => s
    | some x =>
      let st := getF s (CH_PRE_REQ_STATE n k)
      let m := getF s (CH_PRE_REQ_PLIES n k)
      if (st = 2 ∨ st = 4) ∧ !(dieGet s n).hubAbsent then
        let cs := areaChunks s x m
        let s := cs.foldl (areaWrite n x) (areaZero n x s)
        let s := if x.storePol then areaImage n x true s else s
        let s := areaWrite n x s (0, leBytes 64 (areaHead s n k x m))
        let s := (maskPlies m).foldl (fun s q =>
          plyMod (setF s (CD_PLY_STS_STATE x.die x.brick q) 4) x.die x.brick q (fun y => { y with saving := false, marked := false })) s
        preEnd (idleStopped s x.die) n k 7
      else s)

/-- Table 6-10: a record of a save or restore. -/
def preRec (s : State) (n k : Nat) (x : PreX) (event kind va : Nat) : Nat :=
  packRec [(0, event), (1, kind), (3, x.asid), (4, 65), (5, n), (6, k), (8, va), (16, x.area), (32, byteN x.raw 24 4), (36, 0xFFFF), (38, 0xFF),
    (40, epochOf s n)]

/-- R219: SAVE_FAULT: a fault of a kind of Table 6-9 while the area is written: nothing changes in the brick, stopped plies resume, the
request is deferred; the second fault suspends it. -/
def execSaveFault (n : Die) (k : Fin 64) (kind : Fin 13) (s : State) : Out :=
  .next (match preGet s n k with
    | none => s
    | some x =>
      let st := getF s (CH_PRE_REQ_STATE n k)
      let m := getF s (CH_PRE_REQ_PLIES n k)
      if (st = 2 ∨ st = 4) ∧ kind ≠ 0 then
        let s := requeue (idleStopped s x.die) x.die x.brick x.descs
        let s := brickMod s x.die x.brick (fun y => { y with swapped := false })
        let s := resumePlies x.die x.brick x.waits s m
        let body := preRec s n k x 3 kind x.area
        let s := prePut s n k (some { x with descs := [], waits := [], states := [], since := epochOf s n })
        let s := setFs s [(CH_PRE_REQ_KIND n k, kind), (CH_PRE_REQ_STOPPED n k, 0), (CH_PRE_REQ_STATE n k, if st = 2 then 3 else 5)]
        let s := pushRec s n body .none
        reportCh s (if st = 2 then 0x0505 else 0x0506) n 0x904 k (body % 2 ^ 256)
      else s)

/-! ## Restoring (R218, R219) -/

/-- Write consecutive registers from an area. -/
def putArea (s : State) (a pa k : Nat) : State :=
  (List.range k).foldl (fun s i => wr s (a + 8 * i) (BitVec.ofNat 64 (readLE s (pa + 8 * i) 8))) s

/-- Restore ply q from its 1 KiB of the area, at `pa`. -/
def putPly (s : State) (p : PlyId) (pa st : Nat) : State :=
  let w (i : Nat) : Nat := readLE s (pa + 8 * i) 8
  let fl := w 55
  let rem := w 57
  let s := (List.range 32).foldl (fun s i => setS s p i (BitVec.ofNat 64 (w i))) s
  let s := (List.range 16).foldl (fun s i => setA s p i (BitVec.ofNat 64 (w (32 + i)))) s
  let s := wr s (CD_PLY_PRED p.n p.b p.q) (BitVec.ofNat 64 (w 48 % 256 / 2 * 2 + 1))
  let s := setIssued (setPc s p (w 49 % 2 ^ 20)) p.n p.b p.q (w 50)
  let s := wr s (CD_PLY_TVEC p.n p.b p.q) (BitVec.ofNat 64 (w 51))
  let s := wr s (CD_PLY_EPC p.n p.b p.q) (BitVec.ofNat 64 (w 52))
  let s := wr s (CD_PLY_CAUSE p.n p.b p.q) (BitVec.ofNat 64 (w 53))
  let s := wr s (CD_PLY_TINFO p.n p.b p.q) (BitVec.ofNat 64 (w 54))
  let s := setFs s [(CD_PLY_STS_TH p.n p.b p.q, bitN fl 0), (CD_PLY_STS_CHK_PEND p.n p.b p.q, bitN fl 1),
    (CD_PLY_STS_ESC_PEND p.n p.b p.q, bitN fl 2), (CD_PLY_STS_DOUBLE p.n p.b p.q, bitN fl 3),
    (⟨CD_BK_SCHED p.n p.b, p.q, p.q, 0⟩, bitN fl 4), (CD_PLY_STS_STATE p.n p.b p.q, if st = 3 then 3 else 1)]
  plyMod s p.n p.b p.q (fun y =>
    { PlyX.reset with issued := y.issued, rewait := if st = 2 then some (if rem = 2 ^ 64 - 1 then 0 else rem) else none })

/-- The descriptor in slot j of an area. -/
def getDesc (s : State) (pa b : Nat) : QDesc :=
  ⟨readLE s pa 64, readLE s (pa + 88) 8, some (b, readLE s (pa + 64) 2), readLE s (pa + 66) 2, none, readLE s (pa + 72) 8, readLE s (pa + 80) 8, 0, none⟩

/-- R218: launch slots are armed for the restoring channel's epoch plus their remaining ns. -/
def putSlots (s : State) (n b pa : Nat) : State :=
  (List.range 8).foldl (fun s i =>
    let rem := readLE s (pa + 8 * (28 + i)) 8
    let old := readLE s (pa + 8 * (12 + i)) 8
    let s := wr s (CD_BK_LSARG n b i) (BitVec.ofNat 64 (readLE s (pa + 8 * (20 + i)) 8))
    if rem = 2 ^ 64 - 1 then setFs s [(CD_BK_LSLOT_ARMED n b i, 0), (CD_BK_LSLOT_ADM n b i, 0)]
    else setFs s [(CD_BK_LSLOT_EPOCH n b i, epochOf s n + rem), (CD_BK_LSLOT_ARMED n b i, 1), (CD_BK_LSLOT_ADM n b i, bitN old 51)]) s

/-- R218: write per-brick state from an area. -/
def putBrick (s : State) (n b pa : Nat) (store : Bool) : State :=
  let s := (List.range 32).foldl (fun s i => putArea s (CD_BK_VREG n b i 0) (pa + 0x2000 + 0x80 * i) 11) s
  let s := (List.range 4).foldl (fun s k => putArea s (CD_BK_ACC n b k 0) (pa + 0x3000 + 0x200 * k) 33) s
  let s := (List.range 4).foldl (fun s j => putArea s (CD_BK_WPL n b j 0) (pa + 0x4000 + 0x800 * j) 161) s
  let s := putArea s (CD_BK_ARITH n b) (pa + 0x6000) 1
  let s := putArea s (CD_BK_SEED n b) (pa + 0x6008) 1
  let s := putArea s (CD_BK_SGCTX n b 0) (pa + 0x6010) 8
  let s := putArea s (CD_BK_ARRST n b) (pa + 0x6050) 1
  let s := setF s (CD_BK_SCHED_PRIO n b) (readLE s (pa + 0x6058) 8)
  let s := putSlots s n b (pa + 0x6000)
  if store then putArea (putArea s (CD_ME_CTL n b) (pa + 0x6120) 1) (CD_ME_TALLY n b 0) (pa + 0x6128) 4 else s

/-- The inbox of an area. -/
def getInbox (s : State) (pa : Nat) : List Msg :=
  (List.range (min 256 (readLE s pa 64))).map (fun i => ⟨readLE s (pa + 64 + 80 * i + 16) 64, readLE s (pa + 64 + 80 * i) 16⟩)

/-- R218 steps 2-6: write the state of a good area into the target. -/
def restoreState (s : State) (n k : Nat) (x : PreX) (hd : Nat) : State :=
  let pol := byteN hd 1 1
  let m := byteN hd 2 1 % 16
  let store := bitN pol 1 == 1
  match areaPa s n x 0 false with
  | none => s
  | some pa =>
    let s := if bitN pol 0 = 1 then putBrick s x.die x.brick pa store else s
    let s := if store then
        let s := match areaPa s n x 0x10000 false with
          | some vp =>
            let s := putArea s (CD_ME_VT x.die x.brick 0) vp 4096
            let ib := getInbox s (vp + 0x8000)
            brickMod s x.die x.brick (fun z => { z with inbox := ib, swapped := false })
          | none => s
        areaImage n x false s
      else s
    let s := (maskPlies m).foldl (fun s q => putPly s ⟨Fin.ofNat 4 x.die, Fin.ofNat 384 x.brick, Fin.ofNat 4 q⟩ (pa + 0x400 + 0x400 * q)
      (byteN hd 3 1 / 4 ^ q % 4)) s
    let ds := ((List.range 8).filter (fun j => bitN (byteN hd 28 1) j == 1)).map (fun j => getDesc s (pa + 0x1400 + 0x80 * j) x.brick)
    preEnd (requeue s x.die x.brick ds) n k 7

/-- R218: whether the format, UID and CRC of an area agree. -/
def areaGood (s : State) (n : Nat) (x : PreX) (hd : Nat) : Bool :=
  byteN hd 0 1 == 1 && byteN hd 8 8 == s.hub.fuses.uid && byteN hd 32 4 == crc32c (areaBody s n x (bitN (byteN hd 1 1) 1 == 1))

/-- Free values in consecutive registers. -/
def freeRegs (a : Nat) : Nat → State → State
  | 0, s => s
  | k + 1, s =>
    let (v, s) := draw (freeRegs a k s)
    wr s (a + 8 * k) v

/-- Free values in consecutive bytes of memory. -/
def freeBytes (pa : Nat) : Nat → State → State
  | 0, s => s
  | k + 1, s =>
    let (v, s) := draw (freeBytes pa k s)
    memPut s (pa + k) (v.truncate 8)

/-- R219: after a fault during a restore the target's per-brick state and store hold no defined content: free values. -/
def undefineBrick (s : State) (n b : Nat) : State :=
  let s := freeRegs (CD_BK_VREG n b 0 0) (32 * 16) s
  let s := freeRegs (CD_BK_ACC n b 0 0) (4 * 64) s
  let s := freeRegs (CD_BK_WPL n b 0 0) (4 * 256) s
  let s := freeRegs (CD_BK_ARITH n b) 2 s
  let s := freeRegs (CD_BK_SGCTX n b 0) 8 s
  let s := freeRegs (CD_ME_VT n b 0) 4096 s
  freeBytes (storePa n b 0) 0x100000 s

/-- R218, R219: RESTORE_COMPLETE: `kind` 0 says that no fault arose. A mismatch of the area ends the request FAILED without a change; a fault
leaves the target's plies IDLE. -/
def execRestoreComplete (n : Die) (k : Fin 64) (kind : Fin 13) (s : State) : Out :=
  .next (match preGet s n k with
    | none => s
    | some x =>
      if getF s (CH_PRE_REQ_STATE n k) ≠ 6 ∨ (dieGet s n).hubAbsent then s
      else
        let hd := areaHeader s n x
        if kind ≠ 0 then
          let s := undefineBrick s x.die x.brick
          let s := (maskPlies (getF s (CH_PRE_REQ_PLIES n k))).foldl (fun s q => setF s (CD_PLY_STS_STATE x.die x.brick q) 0) s
          let body := preRec s n k x 4 kind x.area
          let s := setF (pushRec s n body .none) (CH_PRE_REQ_KIND n k) kind
          reportCh (preEnd s n k 8) 0x0507 n 0x904 k (body % 2 ^ 256)
        else withCheck s 8 n (areaGood s n x hd) (fun ok s => if ok then restoreState s n k x hd else preEnd s n k 8))

/-! ## Other ends (Tables 6-11 and 6-15) -/

/-- Table 6-15: a live request of a channel whose die is lost or which is fenced is FAILED, with a record of kind ABORTED. -/
def failPre (s : State) (n : Nat) : State :=
  (List.range 64).foldl (fun s k =>
    let st := getF s (CH_PRE_REQ_STATE n k)
    match preGet s n k with
    | some x =>
      if preLive st then
        let s := idleStopped s x.die
        let s := pushRec s n (preRec s n k x (if st = 6 then 4 else 3) 12 x.area) .none
        preEnd s n k 8
      else s
    | none => s) s

/-- Table 6-11: a hub absence meets live requests: plies stopped for them resume. -/
def pausePre (s : State) (n : Nat) : State :=
  (List.range 64).foldl (fun s k =>
    match preGet s n k with
    | some x =>
      if preLive (getF s (CH_PRE_REQ_STATE n k)) then
        let m := getF s (CH_PRE_REQ_PLIES n k)
        let s := requeue (idleStopped s x.die) x.die x.brick x.descs
        let s := brickMod s x.die x.brick (fun y => { y with swapped := false })
        let s := resumePlies x.die x.brick x.waits (markPlies x.die x.brick false s m) m
        prePut s n k (some { x with descs := [], waits := [] })
      else s
    | none => s) s

/-- Table 6-11: at re-attach the slots of those requests read FREE, each with a record of kind ABORTED. -/
def freePre (s : State) (n : Nat) : State :=
  (List.range 64).foldl (fun s k =>
    let st := getF s (CH_PRE_REQ_STATE n k)
    match preGet s n k with
    | some x =>
      if preLive st then
        let s := pushRec s n (preRec s n k x (if st = 6 then 4 else 3) 12 x.area) .none
        prePut (wr s (CH_PRE_REQ n k) 0) n k none
      else s
    | none => s) s

end Sys2Proof.Machine
end

