-- ==== Sys2Proof/Machine/Host.lean ====
section
/-! DEFINITION. The host port and the bridge: host queues, forwarded reads, host traffic (R300-R311). -/
namespace Sys2Proof.Machine

/-- R302: ranks 0 and 1 are bridge-capable. -/
def bridgeCapable (s : State) : Bool := decide (ownRank s < 2)
/-- The other bridge-capable rank. -/
def peerRank (s : State) : Nat := 1 - ownRank s
def roleOf (s : State) : Nat := getF s HP_ROLE_STATE

/-- What a row's operand says the host's memory holds is placed there. -/
def hostPlace (s : State) (found : HostData) : State := found.foldl (fun s e => writeBytes s (hostBase + e.1 % 2 ^ 51) e.2) s

/-- A little-endian field of a byte list. -/
def fieldLE (b : List Byte) (off n : Nat) : Nat := leVal ((b.drop off).take n)

/-! ## Host traffic (R311) -/

/-- Table 9-4: the body of a host-traffic segment. -/
def hostBody (op status tag len : Nat) (data : List Byte) : List Byte :=
  leBytes 1 op ++ leBytes 1 status ++ leBytes 2 tag ++ leBytes 4 len ++ data

/-- Send one piece of host traffic to the bridge. -/
def sendHost (s : State) (bridge who : Nat) (o : HostOp) : State :=
  match o with
  | .write pa data bad => sendSeg s who 0 0x0B bridge 4 0 (pa - hostBase) (hostBody 1 (b2n bad) 0 0 data) none none
  | .read pa len tag => sendSeg s who 0 0x0B bridge 4 0 (pa - hostBase) (hostBody 2 0 tag len []) none none
  | .irq => sendSeg s who 0 0x0B bridge 4 0 0 (hostBody 4 0 0 0 []) none none

/-- A host read of this package returns its data. -/
def hostReadDone (s : State) (who tag : Nat) (data : List Byte) (bad : Bool) : State :=
  hubMod s (fun h => { h with hostReads := h.hostReads.map (fun r =>
    if r.who = who ∧ r.tag = tag ∧ r.data.isNone then { r with data := some ((data ++ List.replicate r.len 0).take r.len, bad) } else r) })

/-- The bridge performs host traffic of its own package. -/
def ownHost (s : State) (o : Nat × HostOp) : State :=
  match o.2 with
  | .write pa data bad => memWrite s pa data bad
  | .read pa len tag => hostReadDone s o.1 tag (readBytes s pa len) (anyPoison s pa len)
  | .irq => raiseIrq s (32 + ownRank s)

/-- R311: host traffic that waits is performed by the bridge, or goes to the announced bridge; until a package accepts its first
announcement it is held back. -/
def flushHost (s : State) : State :=
  let l := s.hub.hostOut
  let s' := hubMod s (fun h => { h with hostOut := [] })
  if isBridge s then l.foldl ownHost s'
  else if getF s HP_GRP_STS_BRIDGE_V = 1 ∧ getF s HP_GRP_STS_BRIDGE ≠ ownRank s then
    l.foldl (fun s o => sendHost s (getF s HP_GRP_STS_BRIDGE) o.1 o.2) s'
  else s

/-- The op of a host-traffic body. -/
def hostOp (g : Seg) : Nat := fieldLE g.body 0 1
/-- Whether a host-traffic segment asks the bridge for something. -/
def asksHost (g : Seg) : Bool := hostOp g == 1 || hostOp g == 2 || hostOp g == 4

/-- R311: unacknowledged host traffic of the connections to bridge `old` goes to bridge `new`, in TSEQ order; what else those connections
carry starts again in a new generation. -/
def moveHost (s : State) (old new : Nat) : State :=
  (List.range 5).foldl (fun s ep =>
    let i := connIx old 4 0
    let c := txGet s ep i
    let l := c.unacked ++ c.waiting
    let go (t : TxSeg) : Bool := t.seg.kind == 0x0B && asksHost t.seg
    if !l.any go then s
    else
      let s := showOut (txMod s ep i (fun _ => ⟨false, l.filter (fun t => !go t && t.seg.kind != 1), []⟩)) ep i
      let j := connIx new 4 0
      let moved := (l.filter go).map (fun t => { t with seg := { t.seg with dstRank := new, resent := false }, ropes := [] })
      pumpWaiting (pumpWaiting (txMod s ep j (fun c => { c with waiting := c.waiting ++ moved })) ep j) ep i) s

/-- R311: receive host traffic. A package that is not the bridge answers what asks for something with a redirect and does not acknowledge it;
everything else is held for delivery in order. -/
def arriveHost (s : State) : State :=
  takeSeg s 0x0B true (fun s ep i g =>
    if asksHost g && !isBridge s then
      sendSeg s ep 0 0x0B g.srcRank g.srcEp 0 g.addr (hostBody 5 0 (fieldLE g.body 2 2) 0 []) none none
    else holdSeg s ep i g)

/-- Whether a held segment of host traffic has the op and may be delivered: to the bridge alone if it asks. -/
def hostTakes (s : State) (op : Nat) (g : Seg) : Bool := hostOp g == op && (isBridge s || !asksHost g)

/-- Receive host traffic, then deliver one segment with the op. -/
def takeHost (s : State) (op : Nat) (k : State → Nat → Seg → State) : State :=
  deliverNext (arriveHost s) 0x0B (hostTakes (arriveHost s) op) k

/-- R311: HOST_WRITE. -/
def execHostWrite (s : State) : Out :=
  .next (takeHost s 1 (fun s _ g => memWrite s (hostBase + g.addr % 2 ^ 51) (g.body.drop 8) (fieldLE g.body 1 1 == 1)))

/-- R311: HOST_READ_REQUEST: the bridge reads the host's memory as it finds it; `st` is the host's answer: done, poisoned, or UR or CA. -/
def execHostReadRequest (st : Fin 3) (found : HostData) (s : State) : Out :=
  .next (takeHost s 2 (fun s ep g =>
    let s := hostPlace s found
    let len := fieldLE g.body 4 4
    let pa := hostBase + g.addr % 2 ^ 51
    let st := if st.val = 0 ∧ anyPoison s pa len then 1 else st.val
    sendSeg s ep 0 0x0B g.srcRank g.srcEp 0 g.addr
      (hostBody 3 st (fieldLE g.body 2 2) 0 (if st = 2 then List.replicate len 0 else readBytes s pa len)) none none))

/-- R311: HOST_READ_COMPLETION: data that the host did not give counts as poisoned (assumption 27). -/
def execHostReadCompletion (s : State) : Out :=
  .next (takeHost s 3 (fun s ep g => hostReadDone s ep (fieldLE g.body 2 2) (g.body.drop 8) (fieldLE g.body 1 1 != 0)))

/-- R311: HOST_INTERRUPT. -/
def execHostInterrupt (s : State) : Out := .next (takeHost s 4 (fun s _ g => raiseIrq s (32 + g.srcRank % 16)))

/-- R311: HOST_REDIRECT. -/
def execHostRedirect (s : State) : Out :=
  .next (takeHost s 5 (fun s _ g =>
    if getF s HP_GRP_STS_BRIDGE_V = 1 ∧ getF s HP_GRP_STS_BRIDGE ≠ g.srcRank then moveHost s g.srcRank (getF s HP_GRP_STS_BRIDGE) else s))

/-- R311: an announcement is accepted: host traffic is routed to its sender, and the announced ranks are present. -/
def acceptAnnounce (s : State) (src mask : Nat) : State :=
  if isBridge s then s
  else
    let old := if getF s HP_GRP_STS_BRIDGE_V = 1 then some (getF s HP_GRP_STS_BRIDGE) else none
    let s := setFs s [(HP_GRP_STS_BRIDGE_V, 1), (HP_GRP_STS_BRIDGE, src), (HP_GRP_STS_PRESENT, getF s HP_GRP_STS_PRESENT ||| mask)]
    let s := match old with
      | some o => if o = src then s else moveHost s o src
      | none => s
    flushHost s

/-! ## Forwarded management accesses (R310) -/

/-- A read through BAR0 or BAR2 completes. -/
def barDone (s : State) (addr : Nat) (st : BarStatus) (data : Nat) : State :=
  portMod s (fun p => { p with done := p.done ++ [⟨addr, st, data⟩] })

/-- Forward an access to another rank: op 1 read 64, 2 read low 32, 3 read high 32, 4 write 64. -/
def forwardAccess (s : State) (rank addr op data : Nat) : State :=
  let t := s.hub.port.fwdTag
  let body := leBytes 2 (if op = 4 then 0 else t) ++ leBytes 1 op ++ leBytes 5 0 ++ leBytes 8 (if op = 4 then data else 0)
  let s := if op = 4 then s
    else portMod s (fun p => { p with fwd := p.fwd ++ [⟨t, rank, addr, op⟩], fwdTag := (t + 1) % 65536 })
  sendSeg s 4 2 6 rank 4 0 addr body none none

/-- R310: MANAGEMENT_RESPONSE: one that no read waits for is discarded. -/
def execManagementResponse (s : State) : Out :=
  .next (takeOrdered s 7 (fun _ => true) (fun s _ g =>
    let t := fieldLE g.body 0 2
    match s.hub.port.fwd.find? (fun f => f.tag == t && f.rank == g.srcRank) with
    | none => s
    | some f =>
      let s := portMod s (fun p => { p with fwd := p.fwd.filter (fun x => !(x.tag == t && x.rank == g.srcRank)) })
      barDone s f.addr (if fieldLE g.body 2 1 = 2 then .poisoned else .done) (fieldLE g.body 8 8)))

/-- R310: FORWARDED_READ_TIMEOUT of the read with tag `tag`. -/
def execForwardedReadTimeout (tag : Nat) (s : State) : Out :=
  .next (match s.hub.port.fwd.find? (fun f => f.tag == tag) with
    | none => s
    | some f =>
      let s := portMod s (fun p => { p with fwd := p.fwd.filter (fun x => x.tag != tag) })
      reportPkg (addF (barDone s f.addr .aborted 0) HP_FWD_CTL_FWD_CA 1) 0x0802 0 0x060 f.rank f.addr)

/-! ## Queues (R306, R307) -/

/-- The number of entries of a ring. -/
def ringEntries (size : Nat) : Nat := 2 ^ (min size 6 + 6)
def sqEntries (s : State) (q : Nat) : Nat := ringEntries (getF s (HP_HQ_SIZE q))
def cqEntries (s : State) (q : Nat) : Nat := ringEntries (bitsOf (rd s (HP_HQ q 1)) 3 0)
/-- The physical address of entry `i` of a submission queue. -/
def sqPa (s : State) (q i : Nat) : Nat := hostBase + getF s (HP_HQ_BASE q) * 4096 + 128 * i
/-- The physical address of entry `i` of a completion queue. -/
def cqPa (s : State) (q i : Nat) : Nat := hostBase + bitsOf (rd s (HP_HQ q 1)) 50 12 * 4096 + 32 * i
def nextCsn (s : State) (q : Nat) : Nat := (rd s (HP_HQ q 3)).toNat

/-- Whether the completion queue has no room. -/
def cqFull (s : State) (q : Nat) : Bool :=
  (getF s (HP_HQ_CQ_TAIL q) + 1) % cqEntries s q == getF s (HP_HQ_DB_CQ_HEAD q) % cqEntries s q

/-- R306: EN of a queue pair goes from 0 to 1. -/
def queueEnable (s : State) (q : Nat) : State :=
  let s := portMod s (fun p => { p with outst := p.outst.filter (fun c => c.q != q) })
  let s := wr s (HP_HQ q 3) 1
  setFs s [(HP_HQ_SQ_HEAD q, 0), (HP_HQ_CQ_TAIL q, 0), (HP_HQ_PHASE q, 1), (HP_HQ_STOPPED q, 0), (HP_HQ_OUT q, 0)]

/-- R308: EN of a queue pair is cleared: the command records of the queue are cleared (in the other ranks by writes whose form the spec does
not give, assumption 28). -/
def queueDisable (s : State) (q : Nat) : State :=
  let s := portMod s (fun p => { p with
    outst := p.outst.filter (fun c => c.q != q)
    cmds := tabDrop (fun k => k % 32 == q) p.cmds })
  setF s (HP_HQ_OUT q) 0

/-- Table 9-3: write a completion and raise the queue's vector. -/
def writeCompletion (s : State) (q csn tag status : Nat) (dup irq : Bool) (rank result : Nat) : State :=
  let tail := getF s (HP_HQ_CQ_TAIL q)
  let ph := getF s (HP_HQ_PHASE q)
  let body := leBytes 8 csn ++ leBytes 4 tag ++ leBytes 1 q ++ leBytes 1 status ++ leBytes 1 (ph + 2 * b2n dup) ++ leBytes 1 rank ++ leBytes 16 result
  let s := memWrite s (cqPa s q tail) body false
  let next := (tail + 1) % cqEntries s q
  let s := setFs s [(HP_HQ_CQ_TAIL q, next), (HP_HQ_PHASE q, if next = 0 then 1 - ph else ph)]
  if irq ∧ bitsOf (rd s (HP_HQ q 1)) 4 4 = 1 then raiseIrq s q else s

/-- R307: the commands of a queue that are dispatched and not completed. -/
def outstOf (s : State) (q : Nat) : List QCmd := s.hub.port.outst.filter (fun c => c.q == q)
/-- The oldest of them. -/
def oldestCsn (s : State) (q : Nat) : Option Nat :=
  (outstOf s q).foldl (fun m c => match m with | none => some c.csn | some x => some (min x c.csn)) none
def showCmds (s : State) (q : Nat) : State := setF s (HP_HQ_OUT q) (outstOf s q).length

/-- Table 9-2: whether an entry is malformed. -/
def sqBad (e : List Byte) : Bool :=
  let ty := fieldLE e 0 1
  !(1 ≤ ty && ty ≤ 4) || fieldLE e 1 1 / 2 != 0 || decide (15 < fieldLE e 2 1) || decide (3 < fieldLE e 3 1)
  || fieldLE e 16 48 != 0 || (ty == 4 && fieldLE e 64 64 != 0)

/-- The host descriptor in the body of an entry, as it joins a channel's DMA queue. -/
def hostDesc (o : Origin) (raw : Nat) : QDesc := ⟨raw, 0, none, 0, none, 0, 0, 0, some o⟩

/-- R308: the response of a command already executed: from the history, or 0. -/
def historyOf (s : State) (ch q csn : Nat) : Nat := (((cmdRec s ch q).last.find? (fun e => e.1 == csn)).map (·.2)).getD 0

/-- R308: COMMAND_RECORD: channel `ch` of this package executes a dispatched command of the bridge, or answers it as a duplicate. A no-op
answers at once. `none`: the channel has no room for it now. -/
def runCommand (s : State) (c : QCmd) (body : Nat) : Option State :=
  let o : Origin := .queue (ownRank s) c.q c.csn
  if c.csn ≤ (cmdRec s c.ch c.q).high then some s
  else
    let take (s : State) : State := portMod s (fun p => { p with
      cmds := tabMod (fun _ => CmdRec.reset) p.cmds (32 * c.ch + c.q) (fun r => { r with high := c.csn }) })
    match c.type with
    | 1 => some (dieMod (take s) c.ch (fun d => { d with admQ := d.admQ ++ [⟨o, 0, some body⟩] }))
    | 2 => some (dieMod (take s) c.ch (fun d => { d with preQ := d.preQ ++ [⟨o, 0, some body⟩] }))
    | 3 => if dmaFull s c.ch then none else some (enqueueDesc (take s) c.ch (hostDesc o body))
    | _ => some (pushResponse (take s) c.ch (ownRank s) c.q c.csn 0)

/-- Whether a channel of this package is fenced or not ACTIVE (R309). -/
def chanDown (s : State) (n : Nat) : Bool := getF s (FC_STS_FENCED n) == 1 || getF s (CH_DIE_STS_STATE n) != 3

/-- R307-R309: a command is dispatched: it completes at once with STATUS 2, 3, 5 or as a duplicate, or it is outstanding. -/
def dispatchCmd (s : State) (c : QCmd) (bad : Bool) (body : Nat) : Option State :=
  let endNow (st : Nat) (dup : Bool) (res : Nat) : Option State := some (writeCompletion s c.q c.csn c.tag st dup c.irq c.rank res)
  let own := c.rank = ownRank s
  if bad then endNow 2 false 0
  else if !own ∧ !rankPresent s c.rank then endNow 3 false 0
  else if own ∧ chanDown s c.ch then endNow 5 false 0
  else if own ∧ c.csn ≤ (cmdRec s c.ch c.q).high then endNow 1 true (historyOf s c.ch c.q c.csn)
  else
    (if own then runCommand s c body else some s).map (fun s =>
      showCmds (portMod s (fun p => { p with outst := p.outst ++ [c] })) c.q)

/-- The command that an entry of queue `q` holds. -/
def entryCmd (q : Nat) (e : List Byte) : QCmd :=
  ⟨q, fieldLE e 8 8, fieldLE e 2 1 % 16, fieldLE e 3 1 % 4, fieldLE e 0 1, fieldLE e 4 4, fieldLE e 1 1 % 2 == 1⟩

/-- R307: whether the bridge may fetch from a queue. -/
def sqReady (s : State) (q : Nat) : Bool :=
  roleOf s == 2 && getF s (HP_HQ_EN q) == 1 && getF s (HP_HQ_STOPPED q) == 0
  && getF s (HP_HQ_SQ_HEAD q) != getF s (HP_HQ_DB_SQ_TAIL q) % sqEntries s q && !cqFull s q

/-- R307: whether the window lets the next command through. -/
def csnOpen (s : State) (q csn : Nat) : Bool :=
  match oldestCsn s q with
  | some x => decide (csn < x + 64)
  | none => true

/-- R307: the entry at the head of queue `q`, as the host has written it, is fetched if its TYPE satisfies `ty`. -/
def fetchEntry (q : Nat) (entry : BitVec 1024) (ty : Nat → Bool) (s : State) : State :=
  let e := leBytes 128 entry.toNat
  let c := entryCmd q e
  if !sqReady s q ∨ !ty c.type then s
  else
    let s := writeBytes s (sqPa s q (getF s (HP_HQ_SQ_HEAD q))) e
    let next (s : State) : State := setF s (HP_HQ_SQ_HEAD q) ((getF s (HP_HQ_SQ_HEAD q) + 1) % sqEntries s q)
    if c.csn ≠ nextCsn s q then
      writeCompletion (setF (next s) (HP_HQ_STOPPED q) 1) q c.csn c.tag 4 false c.irq c.rank 0
    else if !csnOpen s q c.csn then s
    else match dispatchCmd s c (sqBad e) (fieldLE e 64 64) with
      | some s => wr (next s) (HP_HQ q 3) (BitVec.ofNat 64 (c.csn + 1))
      | none => s

/-- R307: SQ_ADMISSION_REQUEST. -/
def execSqAdmissionRequest (q : Fin 32) (entry : BitVec 1024) (s : State) : Out := .next (fetchEntry q entry (· == 1) s)
/-- R307: SQ_PREEMPTION_REQUEST. -/
def execSqPreemptionRequest (q : Fin 32) (entry : BitVec 1024) (s : State) : Out := .next (fetchEntry q entry (· == 2) s)
/-- R307: SQ_DMA_DESCRIPTOR. -/
def execSqDmaDescriptor (q : Fin 32) (entry : BitVec 1024) (s : State) : Out := .next (fetchEntry q entry (· == 3) s)
/-- R307: SQ_NOOP: a no-op, or an entry of a TYPE that Table 9-2 does not list. -/
def execSqNoop (q : Fin 32) (entry : BitVec 1024) (s : State) : Out := .next (fetchEntry q entry (fun t => t == 0 || decide (4 ≤ t)) s)

/-- R307: complete the outstanding command of a response, if it is still outstanding and its queue has room; the response is used up. -/
def completeCmd (s : State) (q csn status : Nat) (dup : Bool) (result : Nat) : State :=
  match s.hub.port.outst.find? (fun c => c.q == q && c.csn == csn) with
  | none => s
  | some c =>
    let s := portMod s (fun p => { p with outst := p.outst.filter (fun x => !(x.q == q && x.csn == csn)) })
    showCmds (writeCompletion s q csn c.tag status dup c.irq c.rank result) q

/-- Whether a response of queue `q` has to wait for room. -/
def mustWait (s : State) (q csn : Nat) : Bool :=
  isBridge s && s.hub.port.outst.any (fun c => c.q == q && c.csn == csn) && cqFull s q

/-- R307, R316: COMPLETION_WRITE: a response returns, from another package (`ext`) or from a channel of this one; a package that is not the
bridge any more discards it. -/
def execCompletionWrite (ext : Option CmdResp) (s : State) : Out :=
  .next (match ext with
    | some x =>
      if mustWait s x.q x.csn ∨ !isBridge s then s
      else completeCmd s x.q x.csn (b2n x.dup) x.dup x.result.toNat
    | none =>
      match s.hub.responses.find? (fun r => !mustWait s r.q r.csn) with
      | none => s
      | some r =>
        let s := hubMod s (fun h => { h with responses := h.responses.filter (· != r) })
        if isBridge s then completeCmd s r.q r.csn 0 false r.result else s)

end Sys2Proof.Machine
end

