-- ==== Sys2Proof/Machine/Bridge.lean ====
section
/-! DEFINITION. The bridge's roles, heartbeats, checkpoints, the lease and takeover (R312-R318). -/
namespace Sys2Proof.Machine

/-! ## Roles (Table 9-6) -/

/-- The role changes; `cause` where HP_ROLE names one. -/
def setRole (s : State) (st : Nat) (cause : Option Nat) : State :=
  let s := setF s HP_ROLE_STATE st
  let s := match cause with
    | some c => setF s HP_ROLE_CAUSE c
    | none => s
  flag s HP_ROLE_CHANGED

/-- The present mask of the group table. -/
def presentMask (s : State) : Nat := getF s HP_GRP_STS_PRESENT

/-- Table 9-5: the role that a heartbeat reports. -/
def beatRole (s : State) : Nat := if roleOf s = 2 then 1 else if roleOf s = 6 then 3 else 2

/-- R313: the number of the last checkpoint sent (primary) or made valid (alternate). -/
def ckptNumber (s : State) : Nat := if isBridge s then s.hub.port.ckptSent else getF s HP_CKPT_STS_VALID

/-- Table 9-5. -/
def beatBody (s : State) (announce : Bool) : List Byte :=
  leBytes 1 (beatRole s) ++ leBytes 1 (b2n announce) ++ leBytes 2 s.hub.port.beats ++ leBytes 4 (ckptNumber s)
  ++ leBytes 8 s.hub.port.lease ++ leBytes 2 (presentMask s) ++ List.replicate 14 0

/-- R311: the announcement goes to every other rank that is present. -/
def announce (s : State) : State :=
  ((List.range 16).filter (fun r => r != ownRank s && rankPresent s r)).foldl
    (fun s r => sendSeg s 4 2 9 r 4 0 0 (beatBody s true) none none) s

/-- Table 9-6: the package becomes PRIMARY: announcement, vector 48. -/
def enterPrimary (s : State) (cause : Nat) : State :=
  let s := setRole s 2 (some cause)
  let s := setFs s [(HP_GRP_STS_BRIDGE_V, 1), (HP_GRP_STS_BRIDGE, ownRank s)]
  flushHost (raiseIrq (announce s) 48)

/-- R316: a primary, or one that is relinquishing, becomes DEMOTED. -/
def demote (s : State) (cause : Nat) : State :=
  if isBridge s then
    let s := if roleOf s = 6 then setF s HP_BRIDGE_CMD_STATUS 2 else s
    let s := portMod (setRole s 7 (some cause)) (fun p => { p with outst := [], ckptNew := false })
    reportPkg s 0x0804 0 0x060 cause 0
  else s

/-- R317: the alternate starts to watch the lease. -/
def enterWatching (s : State) : State :=
  if roleOf s = 1 then portMod (setRole s 3 none) (fun p => { p with watch := none, fresh := false }) else s

def bothLost (s : State) : Bool := getF s HP_HB_STS_ROPE_LOST == 1 && getF s HP_HB_STS_SB_LOST == 1

/-- Table 9-6: a WATCHING package whose path is up and whose lease is fresh is ALTERNATE again; a DEMOTED one that has a path to the new
primary and a valid checkpoint from it becomes ALTERNATE. -/
def settleRole (s : State) : State :=
  let p := s.hub.port
  if bothLost s then s
  else if roleOf s = 3 ∧ p.fresh ∧ p.peerRole ≠ 3 then setRole s 1 none
  else if roleOf s = 7 ∧ p.peerRole = 1 ∧ p.ckptNew then setRole s 1 none
  else s

/-! ## Heartbeats (R314) -/

/-- R314: HEARTBEAT_SEND: a beat on the rope path, where one is up, and a pulse on this rank's line; none in the safe state (Table 11-8). -/
def execHeartbeatSend (s : State) : Out :=
  .next (if !bridgeCapable s ∨ roleOf s = 0 ∨ pkgSafe s then s
    else
      let s := portMod s (fun p => { p with beats := (p.beats + 1) % 65536, pulses := p.pulses + 1 })
      if (copies s 4 (peerRank s) 2).isSome then sendSeg s 4 2 9 (peerRank s) 4 0 0 (beatBody s false) none none else s)

/-- R311, R314, R317: HEARTBEAT. -/
def execHeartbeat (s : State) : Out :=
  .next (takeSeg s 9 true (fun s ep i g =>
    let s := markRx s ep i g.tseq
    let role := fieldLE g.body 0 1
    let s := if fieldLE g.body 1 1 % 2 = 1 then acceptAnnounce s g.srcRank (fieldLE g.body 16 2) else s
    if !bridgeCapable s ∨ g.srcRank ≠ peerRank s then s
    else
      let s := portMod s (fun p => { p with ropeBeat := { p.ropeBeat with seen := true }, peerRole := role })
      let s := if isBridge s ∧ role = 2 then setF s HP_CKPT_STS_VALID (fieldLE g.body 4 4) else s
      let s := if role = 3 then enterWatching s else s
      settleRole s))

/-- R314: HEARTBEAT_EDGE: a falling edge on the other rank's line. -/
def execHeartbeatEdge (s : State) : Out :=
  .next (if bridgeCapable s ∧ !clkLost s 58 then portMod s (fun p => { p with sideBeat := { p.sideBeat with seen := true } }) else s)

/-- R314: a window of one path ends: 0 the rope path, 1 the sideband. -/
def endWindow (s : State) (path : Nat) (b : BeatX) (lost : Fld) : BeatX × State :=
  let gone := getF s lost = 1
  if b.seen then
    if gone ∧ 3 ≤ b.good + 1 then (⟨false, 0, 0⟩, reportPkg (setF s lost 0) 0x0803 0 0x060 path 0)
    else (⟨false, 0, if gone then b.good + 1 else 0⟩, s)
  else if !gone ∧ 5 ≤ b.missed + 1 then
    (⟨false, 5, 0⟩, reportPkg (addF (setF s lost 1) HP_HB_STS_PATH_OCC 1) 0x0803 0 0x060 path 1)
  else (⟨false, min (b.missed + 1) 5, 0⟩, s)

/-- R314, R317: HEARTBEAT_WINDOW: a 10 µs window ends on both paths. -/
def execHeartbeatWindow (s : State) : Out :=
  .next (if !bridgeCapable s ∨ roleOf s = 0 then s
    else
      let before := bothLost s
      let (r, s) := endWindow s 0 s.hub.port.ropeBeat HP_HB_STS_ROPE_LOST
      let (b, s) := endWindow s 1 s.hub.port.sideBeat HP_HB_STS_SB_LOST
      let s := portMod s (fun p => { p with ropeBeat := r, sideBeat := b })
      if bothLost s ∧ !before then (if roleOf s = 2 then flag s HP_HB_STS_SPLIT else enterWatching s) else settleRole s)

/-- R311: ANNOUNCEMENT. -/
def execAnnouncement (s : State) : Out := .next (if isBridge s then announce s else s)

/-! ## Checkpoints (R313) -/

/-- What the checkpoint holds of a queue, 48 bytes; the order within the image is the model's (assumption 29). -/
def queueImage (s : State) (q : Nat) : List Byte :=
  leBytes 8 (rd s (HP_HQ q 0)).toNat ++ leBytes 8 (rd s (HP_HQ q 1)).toNat ++ leBytes 2 (getF s (HP_HQ_SQ_HEAD q))
  ++ leBytes 2 (getF s (HP_HQ_CQ_TAIL q)) ++ leBytes 2 (getF s (HP_HQ_PHASE q)) ++ leBytes 2 (getF s (HP_HQ_DB_CQ_HEAD q))
  ++ leBytes 8 (nextCsn s q) ++ leBytes 8 ((oldestCsn s q).getD 0) ++ leBytes 8 0

/-- An outstanding command, 16 bytes. -/
def cmdImage (c : QCmd) : List Byte :=
  leBytes 8 c.csn ++ leBytes 1 c.q ++ leBytes 1 c.rank ++ leBytes 1 c.ch ++ leBytes 1 (c.type + 128 * b2n c.irq) ++ leBytes 4 c.tag

/-- The address of word `i` of the MSI-X table in block 0x060 of the hub (Table 9-1). -/
def msixAdr (i : Nat) : Nat := adr 0 0x60 (0x20000 + 8 * i)

/-- R313: the checkpoint image. -/
def ckptImage (s : State) (num : Nat) : List Byte :=
  let body := ((List.range 32).map (queueImage s)).flatten
    ++ ((List.range 128).map (fun i => leBytes 8 (rd s (msixAdr i)).toNat)).flatten
    ++ leBytes 8 (rd s (HP_HOST_SHARE 0)).toNat ++ leBytes 8 (rd s (HP_HOST_SHARE 1)).toNat
    ++ leBytes 8 (rd s HP_LEASE_CFG).toNat ++ leBytes 8 (rd s HP_FWD_CTL).toNat ++ leBytes 8 s.hub.port.lease
    ++ leBytes 8 s.hub.port.outst.length ++ (s.hub.port.outst.map cmdImage).flatten
  leBytes 4 num ++ leBytes 4 0 ++ leBytes 8 s.hub.fuses.uid ++ leBytes 4 (64 + body.length) ++ leBytes 4 (crc32c body)
  ++ List.replicate 40 0 ++ body

/-- R313: chunk `i` of an image of `n` chunks. -/
def ckptChunk (img : List Byte) (num n crc i : Nat) : List Byte :=
  leBytes 4 num ++ leBytes 2 i ++ leBytes 2 n ++ leBytes 4 img.length ++ leBytes 4 crc ++ List.replicate 16 0 ++ (img.drop (4064 * i)).take 4064

/-- R313: send the next checkpoint to the alternate. -/
def sendCkpt (s : State) : State :=
  let num := (s.hub.port.ckptSent + 1) % 2 ^ 32
  let s := portMod s (fun p => { p with ckptSent := num })
  let img := ckptImage s num
  let n := (img.length + 4063) / 4064
  let crc := crc32c img
  (List.range n).foldl (fun s i => sendSeg s 4 2 0x0A (peerRank s) 4 0 0 (ckptChunk img num n crc i) none none) s

/-- R313: CHECKPOINT. -/
def execCheckpoint (s : State) : Out :=
  .next (if roleOf s = 2 ∧ (copies s 4 (peerRank s) 2).isSome then sendCkpt s else s)

/-- R317: FINAL_CHECKPOINT. -/
def execFinalCheckpoint (s : State) : Out :=
  .next (if roleOf s = 6 ∧ !s.hub.port.finalSent then sendCkpt (portMod s (fun p => { p with finalSent := true })) else s)

/-- The physical address of a checkpoint's slot. -/
def ckptSlot (s : State) (num : Nat) : Nat := getF s HP_CKPT_AREA_BASE * 131072 + 65536 * (num % 2)

/-- R313: all chunks of a checkpoint have arrived. -/
def finishCkpt (s : State) (x : CkptRx) : State :=
  let img := ((List.range x.count).map (fun i => tabGet (fun _ => []) x.chunks i)).flatten
  let s := portMod s (fun p => { p with ckptRx := none })
  withCheck s 7 0 (decide (crc32c img = x.crc ∧ img.length = x.len)) (fun ok s =>
    if ok then
      let s := memWrite s (ckptSlot s x.num) img false
      settleRole (portMod (setF s HP_CKPT_STS_VALID x.num) (fun p => { p with ckptNew := true }))
    else addF s HP_CKPT_STS_CRC_FAIL 1)

/-- R313: CHECKPOINT_CHUNK. -/
def execCheckpointChunk (s : State) : Out :=
  .next (takeSeg s 0x0A true (fun s ep i g =>
    let s := markRx s ep i g.tseq
    let num := fieldLE g.body 0 4
    if !bridgeCapable s ∨ g.srcRank ≠ peerRank s ∨ isBridge s ∨ getF s HP_CKPT_AREA_EN = 0 ∨ num ≤ getF s HP_CKPT_STS_VALID then s
    else
      let fresh : CkptRx := ⟨num, fieldLE g.body 6 2, fieldLE g.body 8 4, fieldLE g.body 12 4, []⟩
      let x := match s.hub.port.ckptRx with
        | some x => if x.num = num then x else fresh
        | none => fresh
      let x := { x with chunks := tabSet (fun _ => []) x.chunks (fieldLE g.body 4 2) (g.body.drop 32) }
      if x.count ≤ x.chunks.length then finishCkpt s x else portMod s (fun p => { p with ckptRx := some x })))

/-! ## The lease (R315-R317) -/

/-- R315: the lease value a package writes in place of `v`: its rank, VALID, COUNT one more. -/
def leaseNext (own v : Nat) : Nat := own % 16 + 16 + ((v / 65536 + 1) % 2 ^ 48) * 65536
def leaseValid (v : Nat) : Bool := bitN v 4 == 1
def leasePa (s : State) : Nat := hostBase + getF s HP_LEASE_CFG_ADDR * 8

/-- HP_HB_STS.LEASE_RD shows bits [47:16] of the last value read or written. -/
def showLease (s : State) (v : Nat) : State := setF (portMod s (fun p => { p with lease := v })) HP_HB_STS_LEASE_RD (v / 65536)

def issueCas (s : State) (k : CasKind) (expect new : Nat) : State := portMod s (fun p => { p with cas := some ⟨k, expect, new⟩ })

/-- R315: LEASE_RENEWAL. -/
def execLeaseRenewal (s : State) : Out :=
  .next (if isBridge s ∧ s.hub.port.cas.isNone ∧ s.hub.port.up then
      issueCas s .renew s.hub.port.lease (leaseNext (ownRank s) s.hub.port.lease)
    else s)

/-- R316: LEASE_RENEWAL_TIMEOUT. -/
def execLeaseRenewalTimeout (s : State) : Out :=
  .next (match s.hub.port.cas with
    | some ⟨.renew, _, _⟩ => demote s 3
    | _ => s)

/-- R317: an alternate that finds the lease free to claim does so if it holds a valid checkpoint. -/
def claimLease (s : State) (v : Nat) : State :=
  if getF s HP_CKPT_STS_VALID = 0 then reportPkg (flag s HP_HB_STS_NO_CKPT) 0x0805 0 0x060 1 v
  else issueCas (setRole s 4 none) .claim v (leaseNext (ownRank s) v)

/-- R317: LEASE_READ: a read of the lease by a WATCHING package finds `found`. -/
def execLeaseRead (found : Word) (s : State) : Out :=
  .next (if roleOf s ≠ 3 ∨ s.hub.port.up = false then s
    else
      let v := found.toNat
      let s := showLease (writeLE s (leasePa s) 8 v) v
      let (k, differ) := match s.hub.port.watch with
        | some (x, k) => if x = v then (min (k + 1) 6, false) else (1, true)
        | none => (1, false)
      let first := differ && !s.hub.port.fresh
      let s := portMod s (fun p => { p with watch := some (v, k), fresh := p.fresh || differ })
      let s := if first ∧ bothLost s then reportPkg (flag s HP_HB_STS_SPLIT) 0x0805 0 0x060 0 v else s
      if !leaseValid v ∨ k = 5 then claimLease s v else settleRole s)

/-- R315-R317: LEASE_CAS_COMPLETE: the CAS in flight finds `found` in host memory. -/
def execLeaseCasComplete (found : Word) (s : State) : Out :=
  .next (match s.hub.port.cas with
    | none => s
    | some c =>
      let ok := found.toNat = c.expect
      let v := if ok then c.new else found.toNat
      let s := portMod (writeLE s (leasePa s) 8 v) (fun p => { p with cas := none })
      match c.kind with
      | .start =>
        if ok then setF (enterPrimary (showLease s v) 1) HP_BRIDGE_CMD_STATUS 2
        else setFs (showLease s v) [(HP_BRIDGE_CMD_STATUS, 3), (HP_BRIDGE_CMD_REASON, 2)]
      | .renew => if !isBridge s then s else if ok then showLease s v else demote (showLease s v) 3
      | .claim =>
        if roleOf s ≠ 4 then s
        else if ok then setRole (showLease s v) 5 none
        else
          let s := portMod (setRole (showLease s v) 3 none) (fun p => { p with watch := some (v, 1), fresh := true })
          reportPkg (flag s HP_HB_STS_SPLIT) 0x0805 0 0x060 0 v
      | .relinquish => showLease s v)

/-! ## Commands (R304, R312, R317) -/

/-- HP_BRIDGE_CMD completes as refused. -/
def refuseBridge (s : State) (reason : Nat) : State := setFs s [(HP_BRIDGE_CMD_STATUS, 3), (HP_BRIDGE_CMD_REASON, reason)]
def doneBridge (s : State) : State := setFs s [(HP_BRIDGE_CMD_STATUS, 2), (HP_BRIDGE_CMD_REASON, 0)]

/-- R312: START. -/
def startBridge (s : State) : State :=
  if !bridgeCapable s then refuseBridge s 1
  else if getF s HP_GRP_STS_SELF_CONFLICT = 1 then refuseBridge s 3
  else if getF s HP_LEASE_CFG_EN = 0 then refuseBridge s 4
  else if roleOf s ≠ 0 then refuseBridge s 5
  else if getF s HP_BRIDGE_CMD_CLAIM = 0 then doneBridge (setRole s 1 (some 1))
  else issueCas s .start 0 (leaseNext (ownRank s) 0)

/-- R304: FORGET. A package's own rank is never removed: refused (assumption 30). -/
def forgetRank (s : State) (r : Nat) : State :=
  if r = ownRank s then refuseBridge s 5
  else
    let s := setFs s [(HP_GRP_STS_PRESENT, putN (getF s HP_GRP_STS_PRESENT) r 1 0), (HP_GRP_STS_CONFLICT, putN (getF s HP_GRP_STS_CONFLICT) r 1 0)]
    doneBridge (wr (wr s (HP_GRP_MEMBER r 0) 0) (HP_GRP_MEMBER r 1) 0)

/-- HP_BRIDGE_CMD has been written; its STATUS is 1. RELINQUISH completes with the lease given up. -/
def bridgeCmd (s : State) : State :=
  match getF s HP_BRIDGE_CMD_OP with
  | 1 => startBridge s
  | 2 =>
    if roleOf s ≠ 2 then refuseBridge s 5
    else portMod (setRole s 6 (some 5)) (fun p => { p with finalSent := false })
  | 3 => forgetRank s (getF s HP_BRIDGE_CMD_RANK)
  | _ => refuseBridge s 0

/-- R317: RELINQUISH_END: the package is DEMOTED and writes the lease with VALID = 0. -/
def execRelinquishEnd (s : State) : Out :=
  .next (if roleOf s ≠ 6 ∨ s.hub.port.cas.isSome then s
    else
      let s := portMod (setRole s 7 (some 5)) (fun p => { p with outst := [], ckptNew := false })
      doneBridge (issueCas s .relinquish s.hub.port.lease (putN s.hub.port.lease 4 1 0)))

/-! ## The link (R302, R316) -/

/-- R302: PCIE_LINK_UP. -/
def execPcieLinkUp (s : State) : Out :=
  .next (if bridgeCapable s ∧ !s.hub.port.perst ∧ !clkLost s 54 ∧ s.boot.pwrok then portMod s (fun p => { p with up := true }) else s)

/-- R316: the link goes down. -/
def linkDown (s : State) : State := if s.hub.port.up then demote (portMod s (fun p => { p with up := false })) 4 else s

/-- R316: PCIE_LINK_DOWN. -/
def execPcieLinkDown (s : State) : Out := .next (linkDown s)

/-- R302, R316: PERST_N is asserted (true) or released. -/
def execPerst (asserted : Bool) (s : State) : Out :=
  .next (let s := portMod s (fun p => { p with perst := asserted })
    if asserted then linkDown s else s)

/-! ## Takeover (R318) -/

/-- R318, step 1: the registers of a queue as the checkpoint at `base` has them; `SQ_TAIL` follows the head until the host writes the doorbell. -/
def loadQueue (base : Nat) (s : State) (q : Nat) : State :=
  let a := base + 64 + 48 * q
  let s := wr (wr s (HP_HQ q 0) (BitVec.ofNat 64 (readLE s a 8))) (HP_HQ q 1) (BitVec.ofNat 64 (readLE s (a + 8) 8))
  let s := setFs s [(HP_HQ_SQ_HEAD q, readLE s (a + 16) 2), (HP_HQ_CQ_TAIL q, readLE s (a + 18) 2), (HP_HQ_PHASE q, readLE s (a + 20) 2),
    (HP_HQ_STOPPED q, 0), (HP_HQ_DB_CQ_HEAD q, readLE s (a + 22) 2)]
  wr s (HP_HQ q 3) (BitVec.ofNat 64 (readLE s (a + 24) 8))

/-- The command of a 16-byte table entry. -/
def imageCmd (s : State) (a : Nat) : QCmd :=
  let t := readLE s (a + 11) 1
  ⟨readLE s (a + 8) 1 % 32, readLE s a 8, readLE s (a + 9) 1 % 16, readLE s (a + 10) 1 % 4, t % 128, readLE s (a + 12) 4, t / 128 == 1⟩

/-- R318, step 2: the sequence numbers found in a completion queue from its tail; the tail moves to the first entry of another phase. -/
def scanCq (q : Nat) : Nat → State × List Nat → State × List Nat
  | 0, a => a
  | k + 1, (s, l) =>
    let tail := getF s (HP_HQ_CQ_TAIL q)
    let ph := getF s (HP_HQ_PHASE q)
    let pa := cqPa s q tail
    if readLE s (pa + 14) 1 % 2 ≠ ph then (s, l)
    else
      let next := (tail + 1) % cqEntries s q
      scanCq q k (setFs s [(HP_HQ_CQ_TAIL q, next), (HP_HQ_PHASE q, if next = 0 then 1 - ph else ph)], readLE s pa 8 :: l)

/-- R318, step 3: a command is skipped if it has completed, else dispatched; one whose channel has no room stays outstanding with its
body waiting at the channel (the DMA queue takes it). -/
def redispatch (s : State) (c : QCmd) (done : List Nat) (bad : Bool) (body : Nat) : State :=
  if done.contains c.csn then s else (dispatchCmd s c bad body).getD s

/-- R318, step 3: fetch entries from the head of a submission queue while their sequence numbers are the expected ones. -/
def refetch (q : Nat) (done : List Nat) : Nat → State → State
  | 0, s => s
  | k + 1, s =>
    let head := getF s (HP_HQ_SQ_HEAD q)
    let e := readBytes s (sqPa s q head) 128
    let c := entryCmd q e
    if c.csn ≠ nextCsn s q then s
    else
      let s := redispatch s c done (sqBad e) (fieldLE e 64 64)
      refetch q done k (wr (setF s (HP_HQ_SQ_HEAD q) ((head + 1) % sqEntries s q)) (HP_HQ q 3) (BitVec.ofNat 64 (c.csn + 1)))

/-- The body of a command of the completion table, found in its submission queue. -/
def tableBody (s : State) (c : QCmd) : Nat :=
  match (List.range (sqEntries s c.q)).find? (fun i => readLE s (sqPa s c.q i + 8) 8 == c.csn) with
  | some i => readLE s (sqPa s c.q i + 64) 64
  | none => 0

/-- R318: one enabled queue: scan its completions, dispatch again what the table holds of it, then fetch. -/
def restoreQueue (table : List QCmd) (s : State) (q : Nat) : State :=
  if getF s (HP_HQ_EN q) = 0 then s
  else
    let (s, done) := scanCq q (cqEntries s q) (s, [])
    let s := (table.filter (fun c => c.q == q)).foldl (fun s c => redispatch s c done false (tableBody s c)) s
    let s := refetch q done (sqEntries s q) s
    showCmds (setF s (HP_HQ_DB_SQ_TAIL q) (getF s (HP_HQ_SQ_HEAD q))) q

/-- R318: TAKEOVER: a package in RESTORING loads its checkpoint, scans and fetches from the host's memory as it finds it, and becomes
PRIMARY. -/
def execTakeover (found : HostData) (s : State) : Out :=
  .next (if roleOf s ≠ 5 then s
    else
      let s := hostPlace s found
      let num := getF s HP_CKPT_STS_VALID
      let base := ckptSlot s num
      let s := portMod s (fun p => { p with outst := [], ckptSent := num })
      let s := (List.range 32).foldl (loadQueue base) s
      let t := base + 64 + 48 * 32
      let s := (List.range 128).foldl (fun s i => wr s (msixAdr i) (BitVec.ofNat 64 (readLE s (t + 8 * i) 8))) s
      let u := t + 1024
      let s := wr (wr s (HP_HOST_SHARE 0) (BitVec.ofNat 64 (readLE s u 8))) (HP_HOST_SHARE 1) (BitVec.ofNat 64 (readLE s (u + 8) 8))
      let s := setF s HP_FWD_CTL_TMO (readLE s (u + 24) 2)
      let table := (List.range (min (readLE s (u + 40) 8) 2048)).map (fun i => imageCmd s (u + 48 + 16 * i))
      enterPrimary ((List.range 32).foldl (restoreQueue table) s) 2)

end Sys2Proof.Machine
end

