-- ==== Sys2Proof/Machine/Optics.lean ====
section
/-! DEFINITION. Events of lasers, rings and strands: power control, open fibre, ring control and tracking, calibration, margins, deaths
and spares (R224-R243). -/
namespace Sys2Proof.Machine

/-! ## Safe low power (R224, R225, R242) -/

/-- A lit laser goes to safe low power: a bias of no more than 5 mA. -/
def safeLaser (s : State) (r l : Nat) : State :=
  if !lasLit s r l then s
  else
    let now := (lasState s r l, getF s (OE_LAS_BIAS_BIAS r l))
    let s := lightMod s r (fun x => { x with prev := tabSet (fun _ => (0, 0)) x.prev l now })
    let (w, s) := draw s
    setFs s [(OE_LAS_BIAS_STATE r l, 6), (OE_LAS_BIAS_BIAS r l, w.toNat % 501), (OE_LAS_BIAS_HIGH r l, 0)]

/-- A laser leaves SAFE for its previous state. -/
def restoreLaser (s : State) (r l : Nat) : State :=
  if lasState s r l ≠ 6 then s
  else
    let p := tabGet (fun _ => (0, 0)) (lightGet s r).prev l
    setFs s [(OE_LAS_BIAS_STATE r l, p.1), (OE_LAS_BIAS_BIAS r l, p.2), (OE_LAS_BIAS_HIGH r l, b2n (decide (10000 < p.2)))]

def safeRope (s : State) (r : Nat) : State := (List.range (lamCount r)).foldl (fun s l => safeLaser s r l) s
def restoreRope (s : State) (r : Nat) : State := (List.range (lamCount r)).foldl (fun s l => restoreLaser s r l) s

/-- The OPEN_FIBRE bit of a rope. -/
def openFibre (r : Nat) : Fld := ⟨OE_STS (ropeOe r), 4 + ropeInOe r, 4 + ropeInOe r, 0⟩

/-- R225: OPEN_FIBRE: the receiver of an external rope has seen no light for 1 ms. -/
def execOpenFibre (r : Fin 24) (s : State) : Out :=
  .next (if getF s (openFibre r) = 1 ∨ !(getF s (OE_STS_STATE (ropeOe r)) == 3 || getF s (OE_STS_STATE (ropeOe r)) == 4) then s
    else optFlag (setF (safeRope s r) (openFibre r) 1) (ropeOe r) 7)

/-- R225: OPEN_FIBRE_PROBE: every 1 s the lasers are lit at full power. -/
def execOpenFibreProbe (r : Fin 24) (s : State) : Out :=
  .next (if getF s (openFibre r) = 1 then lightMod (restoreRope s r) r (fun x => { x with probe := true }) else s)

/-- R225: OPEN_FIBRE_PROBE_END: 2 ms later they return to safe low power. -/
def execOpenFibreProbeEnd (r : Fin 24) (s : State) : Out :=
  .next (if getF s (openFibre r) = 1 ∧ (lightGet s r).probe then safeRope (lightMod s r (fun x => { x with probe := false })) r else s)

/-- R225: LIGHT_RETURN. -/
def execLightReturn (r : Fin 24) (s : State) : Out :=
  .next (if getF s (openFibre r) = 1 then
      setF (restoreRope (lightMod s r (fun x => { x with probe := false })) r) (openFibre r) 0
    else s)

/-- R224, R234: LASER_APC: `need` is the bias that holds the back-facet current at its target, in 0.01 mA, `bfm` that current. -/
def execLaserApc (r : Fin 34) (l : Fin 18) (need bfm : Nat) (s : State) : Out :=
  .next (if l.val < lamCount r ∧ lasLit s r l ∧ optActs s r ∧ getF s (OE_LAS_BIAS_STALE r l) = 0 then
      let b := min 12000 need
      setFs s [(OE_LAS_BIAS_BIAS r l, b), (OE_LAS_BIAS_BFM r l, min 1023 bfm), (OE_LAS_BIAS_HIGH r l, b2n (decide (10000 < b)))]
    else s)

/-! ## Rings (R227-R229) -/

/-- Which part of the light a ring serves. -/
inductive RingUse where
  | mod (r l : Nat)
  | drop (r l : Nat)
  | bank (b l : Nat)
  | cross (rho l d : Nat)

def ringUse (g : Nat) : RingUse :=
  if g < 864 then
    let k := g / 108
    let i := g % 108
    let r := (if k % 2 = 0 then 3 * (k / 2) else 12 + 3 * (k / 2)) + i / 36
    if i % 36 < 18 then .mod r (i % 36) else .drop r (i % 36 - 18)
  else
    let i := g - 864
    if i < 170 then .mod (24 + i / 17) (i % 17)
    else if i < 408 then .bank ((i - 170) / 17) ((i - 170) % 17)
    else .cross ((i - 408) / 22 / 17) ((i - 408) / 22 % 17) ((i - 408) % 22)

/-- The ropes whose strand a ring serves now, with the wavelength, and whether it is the transmit side. -/
def ringStrand (s : State) (g : Nat) : Option (Nat × Nat × Bool) :=
  match ringUse g with
  | .mod r l => some (r, l, true)
  | .drop r l => some (r, l, false)
  | .bank b l => ((List.range 10).find? (fun rho => bankOf s rho == b)).map (fun rho => (24 + rho, l, true))
  | .cross rho l d => if d = bankOf s rho ∨ 14 ≤ d then some (24 + rho, l, true) else none

/-- The rope whose controller keeps a ring. -/
def ringRope (g : Nat) : Nat :=
  match ringUse g with
  | .mod r _ => r
  | .drop r _ => r
  | .bank _ _ => 24
  | .cross rho _ _ => 24 + rho

/-- The sensor of a ring (R227). -/
def ringTemp (s : State) (g : Nat) : Int :=
  let w := if g < 864 then rd s (OE_TEMP (g / 108) (g % 108 / 36)) else rd s (PI_ZONE (Config.ringZone g % 64))
  sextN w.toNat 16

/-- R227: table(t), linear between points. -/
def ringBase (tab : Nat → Int) (t : Int) : Int :=
  let x := (max 320 (min 1600 t) - 320).toNat
  let i := min 31 (x / 40)
  tab i + (tab (i + 1) - tab i) * (x - 40 * i : Nat) / 40

/-- R227: the code before clamping. -/
def ringRaw (s : State) (g : Nat) : Int :=
  let tab := match ringUse g with
    | .cross _ _ _ => if getF s (ringF g 14 14) = 1 then Config.ringTable g else Config.ringPark g
    | _ => Config.ringTable g
  ringBase tab (ringTemp s g) + sextN (getF s (ringF g 31 16)) 16 + sextN (getF s (ringF g 63 48)) 16

/-- R227, R234: RING_CONTROL. -/
def execRingControl (g : Fin 5012) (s : State) : Out :=
  .next (if getF s (ringF g 15 15) = 1 ∧ getF s (ringF g 47 47) = 0 ∧ getF s (ringF g 46 46) = 0 ∧ optActs s (ringRope g) then
      setF s (ringF g 13 0) (max 0 (min 16383 (ringRaw s g))).toNat
    else s)

/-- R228, R229, R234: RING_TRACK: the lock-in gives the detuning `track` in 0.1 GHz; `move` says whether the correction moves by one heater step.
A strand is DEGRADED above 3.0 GHz, and no longer once both its rings have held 1.5 GHz for 100 updates. -/
def execRingTrack (g : Fin 5012) (track : Int) (move : Bool) (s : State) : Out :=
  .next (if getF s (ringF g 14 14) = 0 ∨ getF s (ringF g 47 47) = 1 ∨ !optActs s (ringRope g) then s
    else
      let t := max (-128) (min 127 track)
      let held := getF s (ringF g 46 46) = 1
      let pc := sextN (getF s (ringF g 63 48)) 16 + (if move then (if 0 < t then 1 else if t < 0 then -1 else 0) else 0)
      let s := if held then s else setFs s [(ringF g 39 32, wrapN t 8), (ringF g 63 48, wrapN pc 16)]
      let calm := if t.natAbs ≤ 15 then min 100 (tabGet (fun _ => 0) s.opt.calm g + 1) else 0
      let s := optMod s (fun o => { o with calm := tabSet (fun _ => 0) o.calm g calm })
      let s := setF s (ringF g 45 45) (if 30 < t.natAbs then 1 else if calm = 100 then 0 else getF s (ringF g 45 45))
      match ringStrand s g with
      | none => s
      | some (r, l, _) =>
        if r < 24 ∧ !(ringStrand s g).all (·.2.2) then s
        else
          let d := OE_STRAND_DEGRADED r l
          if 30 < t.natAbs ∧ getF s d = 0 then optFlag (setF s d 1) (optUnit r) 4
          else
            let calmOf (h : Nat) : Bool := tabGet (fun _ => 0) s.opt.calm h == 100
            let other : Bool := match dropRing s r l with | some h => decide (r < 24) || calmOf h | none => true
            if getF s d = 1 ∧ calmOf (modRing r l) ∧ other then setF s d 0 else s)

/-! ## Deaths (R237) -/

/-- R237, R285: a strand has failed: its laser is FAILED, the rope runs on 15 data strands at once, and a spare is brought up. A laser that was
itself the spare being brought up gives way to the next. -/
def failStrand (s : State) (r l evt : Nat) : State :=
  let spare := match (lightGet s r).bring with | some b => b.lam == l && decide (b.phase ≤ 6) | none => false
  let logical := strandLogical s r l
  let s := optFlag s (optUnit r) evt
  if spare then bringFails s r
  else
    let s := darkLaser (saveLaser s r l) r l 5
    let s := match logical with
      | some i => assignSpare (dropStrand s r true i) r i true
      | none => s
    if 24 ≤ r then aorStrand s (r - 24) l else s

/-- R237: LASER_DEATH. -/
def execLaserDeath (r : Fin 34) (l : Fin 18) (s : State) : Out :=
  .next (if l.val < lamCount r ∧ lasLit s r l then failStrand s r l 3 else s)

/-- R227, R237, R281: RING_FAILURE: the code has been out of range for 10 µs. A drop ring of an external rope makes this end ask for a width
drop of its receive direction. -/
def execRingFailure (g : Fin 5012) (s : State) : Out :=
  .next (let raw := ringRaw s g
    if getF s (ringF g 15 15) = 0 ∨ getF s (ringF g 47 47) = 1 ∨ (0 ≤ raw ∧ raw ≤ 16383) then s
    else
      let s := setF s (ringF g 47 47) 1
      match ringStrand s g with
      | some (r, l, true) => if lasLit s r l then failStrand s r l 3 else s
      | some (r, l, false) =>
        let s := optFlag s (optUnit r) 3
        (match firstIdx (· == l) (ropeGet s r).rxMap with
         | some i => if mayChange s r then askChange s r ⟨4, false, i, l, 31, 0⟩ else s
         | none => s)
      | none => s)

/-! ## Margins (R235, R236) -/

/-- Table 7-7: the threshold of a level, in 0.01 dB. -/
def levelThr : Nat → Int
  | 1 => 150
  | 2 => 100
  | _ => 30

/-- R236: one margin of a lit strand is evaluated. -/
def evalMargin (s : State) (r l : Nat) (m : Int) : State :=
  if !optActs s r ∨ lasState s r l ≠ 3 ∨ (strandLogical s r l).isNone then s
  else
    let lv := getF s (OE_STRAND_LEVEL r l)
    let c := tabGet (fun _ => [0, 0, 0, 0]) (lightGet s r).runs l
    let run (i : Nat) (p : Bool) : Nat := if p then c.getD i 0 + 1 else 0
    let c := [run 0 (decide (m < 150)), run 1 (decide (m < 100)), run 2 (decide (m < 30)), run 3 (decide (levelThr lv + 30 ≤ m))]
    let put (s : State) (c : List Nat) : State := lightMod s r (fun x => { x with runs := tabSet (fun _ => [0, 0, 0, 0]) x.runs l c })
    let s := put s c
    if 2 ≤ c.getD 2 0 ∧ lv < 3 then failStrand (setF s (OE_STRAND_LEVEL r l) 3) r l 2
    else if 8 ≤ c.getD 1 0 ∧ lv < 2 then
      assignSpare (optFlag (setF s (OE_STRAND_LEVEL r l) 2) (optUnit r) 1) r ((strandLogical s r l).getD 0) false
    else if 8 ≤ c.getD 0 0 ∧ lv < 1 then
      let s := optFlag (setF s (OE_STRAND_LEVEL r l) 1) (optUnit r) 0
      reportOpt s 0x0602 r (strandIx r l) (rd s (OE_STRAND r l)).toNat
    else if 64 ≤ c.getD 3 0 ∧ 0 < lv then setF (put s (listPut c 3 0)) (OE_STRAND_LEVEL r l) (lv - 1)
    else s

/-- Margins of a rope's strands: shown, unless a calibration holds them (R234), and evaluated. -/
def takeMargins (s : State) (r : Nat) (ms : List Int) : State :=
  (List.zip (List.range (lamCount r)) ms).foldl (fun s (l, m) =>
    let held := (match s.opt.cal.find? (fun e => e.1 == optUnit r) with
      | some (_, some c) => c.rope == r && c.ring.isNone
      | _ => false)
    let s := if held then s else setFs s [(OE_STRAND_MARGIN r l, wrapN m 16), (OE_STRAND_STALE r l, 0)]
    evalMargin s r l m) s

/-- R235, R236: STRAND_REPORT of an external rope. -/
def execStrandReport (r : Fin 24) (s : State) : Out :=
  .next (takeCtl s r 7 (fun s b =>
    let s := (List.range 18).foldl (fun s l => addF s (OE_STRAND_REPORTS r l) 1) s
    takeMargins s r ((List.range 18).map (fun l => sextN (bodyF b (2 + 2 * l) 2) 16))))

/-- R235: MARGIN_ESTIMATE: margins measured over 32 µs, in 0.01 dB: those of an interposer rope are evaluated; those received on an
external rope are returned in a report. -/
def execMarginEstimate (r : Fin 34) (ms : List Int) (s : State) : Out :=
  .next (if 24 ≤ r.val then takeMargins s r ms
    else
      let s := (List.zip (List.range 18) ms).foldl (fun s (l, m) => setF s (OE_STRAND_RX_MARGIN r l) (wrapN m 16)) s
      let n := (lightGet s r).reports
      let body := [7, 0] ++ ((List.range 18).map (fun l => leBytes 2 (wrapN (ms.getD l 0) 16))).flatten ++ leBytes 2 n
      sendLctl (lightMod s r (fun x => { x with reports := (n + 1) % 65536 })) r body)

/-! ## Spares (R238) -/

/-- R238: SPARE_BRINGUP_PHASE: a phase of Table 7-8 completes. -/
def execSpareBringupPhase (r : Fin 34) (s : State) : Out :=
  .next (match (lightGet s r).bring with
    | none => s
    | some b =>
      if b.phase = 0 ∨ 5 < b.phase then s
      else
        let s := match b.phase with
          | 2 => setF s (OE_LAS_BIAS_BIAS r b.lam) (getF s (OE_LAS_BIAS_SAVED_BIAS r b.lam))
          | 4 => setFs s [(ringF (modRing r b.lam) 14 14, 1), (ringF (modRing r b.lam) 44 40, b.lam)]
          | 5 => setF s (OE_LAS_BIAS_STATE r b.lam) 3
          | _ => s
        lightMod s r (fun x => { x with bring := some { b with phase := b.phase + 1 } }))

/-- R238: SPARE_PHASE_TIMEOUT. -/
def execSparePhaseTimeout (r : Fin 34) (s : State) : Out :=
  .next (match (lightGet s r).bring with
    | some b =>
      if 1 ≤ b.phase ∧ b.phase ≤ 5 then bringFails (reportOpt s 0x0603 r (strandIx r b.lam) (rd s (OE_LAS_BIAS r b.lam)).toNat) r else s
    | none => s)

/-! ## Calibration (R232-R234) -/

def calGet (s : State) (u : Nat) : Option CalX := tabGet (fun _ => none) s.opt.cal u
def calPut (s : State) (u : Nat) (c : Option CalX) : State := optMod s (fun o => { o with cal := tabSet (fun _ => none) o.cal u c })

/-- The rings that a calibration of a rope covers. -/
def ropeRings (s : State) (r : Nat) : List Nat :=
  (List.range (lamCount r)).flatMap (fun l => modRing r l :: (dropRing s r l).toList)

/-- R234: STALE on what is calibrated. -/
def markStale (s : State) (c : CalX) (v : Nat) : State :=
  match c.ring with
  | some g => setF s (ringF g 46 46) v
  | none =>
    let s := (ropeRings s c.rope).foldl (fun s g => setF s (ringF g 46 46) v) s
    (List.range (lamCount c.rope)).foldl (fun s l => setFs s [(OE_LAS_BIAS_STALE c.rope l, v), (OE_STRAND_STALE c.rope l, v)]) s

/-- R233: a calibration starts in a unit. -/
def startCal (s : State) (c : CalX) : State :=
  let u := optUnit c.rope
  let s := match calGet s u with | some o => markStale s o 0 | none => s
  markStale (calPut s u (some c)) c 1

/-- R233: CALIBRATION: the periodic calibration of a rope's parts starts. -/
def execCalibration (r : Fin 34) (s : State) : Out :=
  .next (if optActs s r ∧ (calGet s (optUnit r)).isNone then startCal s ⟨r, none, false⟩ else s)

/-- R233: DRIFT_TRIGGER: a ring's |PCORR| has exceeded DRIFT (0.1 GHz; a heater step is 0.076 GHz) for 10 ms. -/
def execDriftTrigger (g : Fin 5012) (s : State) : Out :=
  .next (let drift := if g.val < 864 then getF s OE_CAL_CTL_DRIFT else bitsOf (rd s PI_CAL_CTL) 15 8
    let r := ringRope g
    if 100 * drift < 76 * (sextN (getF s (ringF g 63 48)) 16).natAbs ∧ optActs s r ∧ (calGet s (optUnit r)).isNone
    then startCal s ⟨r, some g, false⟩ else s)

/-- R234: whether a calibration is suspended. -/
def calHeld (s : State) (c : CalX) : Bool :=
  (lightGet s c.rope).bring.isSome || (match (ropeGet s c.rope).change with | some x => x.kind == 2 | none => false)
  || (decide (24 ≤ c.rope) && s.opt.steering.isSome)
  || (decide (24 ≤ c.rope) && s.opt.aor.any (fun e => aorState s e.1 == 1 && (match e.2 with | some a => a.ropes.contains (c.rope - 24) | none => false)))

/-- Table 7-6: whether two runs agree and are plausible. -/
def partGood (p : CalPart) : Bool :=
  let d := (p.run1 - p.run2).natAbs
  let both (f : Int → Bool) : Bool := f p.run1 && f p.run2
  match p.kind with
  | .ringEngaged | .ringParked => decide (76 * d ≤ 500) && both (fun v => decide (76 * v.natAbs ≤ 40000))
  | .laserWave => decide (76 * d ≤ 1000) && both (fun v => decide (76 * v.natAbs ≤ 30000))
  | .laserApc => decide (100 * (d : Int) ≤ 2 * max p.run1 p.run2) && both (fun v => decide (600 ≤ v ∧ v ≤ 1400))
  | .sensor => decide (d ≤ 8) && both (fun v => decide (-640 ≤ v ∧ v ≤ 2000))

/-- R232: one part's new value is used, or its old one kept. -/
def calPart (s : State) (u r : Nat) (p : CalPart) : State :=
  if partGood p then
    match p.kind with
    | .ringEngaged | .ringParked =>
      let g := if u < 8 then 108 * u + p.index % 108 else 864 + p.index % 4148
      setF s (ringF g 31 16) (wrapN p.run2 16)
    | .laserWave => saveLaser (setF s (OE_LAS_BIAS_SAVED_HTR r (p.index % lamCount r)) (wrapN p.run2 16)) r (p.index % lamCount r)
    | _ => s
  else reportOpt (optFlag s u 5) 0x0601 r p.index 0

/-- R232: CALIBRATION_COMPLETE of a unit: both runs of every part are finished. -/
def execCalibrationComplete (u : Fin 9) (parts : List CalPart) (s : State) : Out :=
  .next (match calGet s u with
    | none => s
    | some c =>
      if calHeld s c then s
      else
        let s := calPut (markStale s c 0) u none
        let s := parts.foldl (fun s p => calPart s u c.rope p) s
        if c.cmd ∧ u.val < 8 then setF s (OE_CMD_STATUS u) 2 else s)

/-! ## Engines -/

/-- Table 1-4, R243: an optical engine is lost: its ropes go DOWN. -/
def oeLost (s : State) (k : Nat) : State :=
  if getF s (OE_STS_STATE k) = 6 then s
  else
    let s := setF s (OE_STS_STATE k) 6
    let s := (List.range 24).foldl (fun s r => if ropeOe r = k then ropeOff s r 1 else s) s
    report s ⟨0x0106, 2 ^ (k / 2), 5, 16 * k, k, (rd s (OE_STS k)).toNat, 0⟩

/-- R243: OPEN_LOOP_LIMIT: an engine has been open-loop for 20 ms. -/
def execOpenLoopLimit (k : Fin 8) (s : State) : Out :=
  .next (if getF s (OE_STS_STATE k) = 4 then oeLost (setF s (OE_STS_LAST_OL_US k) 20000) k else s)

/-- The external rope of an engine's field. -/
def oeRope (k i : Nat) : Nat := (if k % 2 = 0 then 3 * (k / 2) else 12 + 3 * (k / 2)) + i

/-- R233, R238: carry out the command in OE_CMD, whose STATUS is 1: CALIBRATE, MIGRATE. While the engine restarts in a hitch it
waits (R389). -/
def oeCmd (s : State) (k : Nat) : State :=
  let sts := OE_CMD_STATUS k
  let i := getF s (OE_CMD_ROPE k)
  let st := getF s (OE_CMD_S k)
  if restarting s (2 + k) then holdCmd s (OE_CMD k) true
  else if getF s (OE_STS_STATE k) ≠ 3 then setF s sts 3
  else match getF s (OE_CMD_OP k) with
    | 1 => if 3 ≤ i then setF s sts 3 else startCal s ⟨oeRope k i, none, true⟩
    | 2 =>
      let r := oeRope k (st / 18)
      (match (if st < 54 then strandLogical s r (st % 18) else none) with
       | none => setF s sts 3
       | some l =>
         if (freeSpare s r).isNone then setF s sts 3
         else setF (assignSpare (optFlag s k 1) r l false) sts 2)
    | _ => setF s sts 3

end Sys2Proof.Machine
end

