-- ==== Sys2Proof/Machine/Span.lean ====
section
/-! DEFINITION. Spans: forming, dissolving, and a span degraded by the loss or fence of a member (R3, R158-R160, R183). -/
namespace Sys2Proof.Machine

/-! ## Forming and dissolving (R158, R159) -/

/-- The field of HP_SPAN_STS of a span code. -/
def spanFld : Nat → Fld
  | 1 => HP_SPAN_STS_S01
  | 2 => HP_SPAN_STS_S23
  | _ => HP_SPAN_STS_S0123

/-- R36: whether a span is possible. -/
def spanPossible (s : State) : Nat → Bool
  | 1 => getF s HP_CAP_EFF_SPAN01 == 1
  | 2 => getF s HP_CAP_EFF_SPAN23 == 1
  | 3 => getF s HP_CAP_EFF_SPAN0123 == 1
  | _ => false

/-- R158 condition 3: a ledger entry, a pin set, or a ply that is not IDLE. -/
def channelUsed (s : State) (n : Nat) : Bool :=
  !(ledAll s n).isEmpty || (dieGet s n).pins.any (fun e => e.2.isSome) || (List.range 1536).any (fun k => plyState s n (k / 4) (k % 4) != 0)

/-- The first condition of R158 that applies. -/
def formRefusal (s : State) (c : Nat) : Option Nat :=
  let m := spanMembers c
  if !spanPossible s c then some 1
  else if m.any (fun n => getF s (CH_DIE_STS_STATE n) != 3) then some 2
  else if m.any (channelUsed s) then some 3
  else if m.any (fun n => spanOf s n != 0) then some 4
  else none

/-- Empty the translation caches of a channel. -/
def clearX (s : State) (n : Nat) : State := dieMod s n (fun d => { d with dieCache := [], hubCache := [], walkCache := [] })

/-- R158: the span is formed: its members use the address spaces of the lowest-numbered one (R183), so what the others had cached of
their own goes. -/
def formSpan (s : State) (c : Nat) : State :=
  ((spanMembers c).drop 1).foldl clearX (setF s (spanFld c) 1)

/-- R159: a span knot of the dissolved span is reset as by krst, and names no span. -/
def freeSpanKnot (c : Nat) (s : State) (i : Nat) : State :=
  if getF s (HP_SKNOT_SPAN i) = c then
    let h := 0x2000 + i
    mirrorSk (setF (resetAt s h) (HP_SKNOT_SPAN i) 0) h
  else s

/-- R183, R159, R249, R259: the span is dissolved: its AOR sessions meet the event of R258, and its ropes return home by one queued
request, with which the command completes. -/
def dissolveSpan (s : State) (c : Nat) : State :=
  let m := spanMembers c
  let s := m.foldl aorDie s
  let s := sendHome s c m
  let s := m.foldl releaseAll s
  let s := m.foldl clearX s
  let s := (List.range 1024).foldl (freeSpanKnot c) s
  let s := setF s (spanFld c) 0
  setF s HP_SPAN_STS_LOST (m.foldl (fun v n => putN v n 1 0) (getF s HP_SPAN_STS_LOST))

/-- End the live entries of a channel that a forced dissolve breaks. -/
def killLive (code : Nat) (s : State) (n : Nat) : State :=
  killAll n code s ((ledAll s n).filter (fun e => liveLed (getF s (CH_LEDGER_STATE n e.1))))

/-- R158, R159: carry out the command in HP_SPAN_CMD, whose STATUS is 1. -/
def spanCmd (s : State) : State :=
  let c := getF s HP_SPAN_CMD_SPAN
  let done (s : State) : State := setFs s [(HP_SPAN_CMD_STATUS, 2), (HP_SPAN_CMD_REASON, 0)]
  let refused (r : Nat) : State := setFs s [(HP_SPAN_CMD_STATUS, 3), (HP_SPAN_CMD_REASON, r)]
  match getF s HP_SPAN_CMD_OP with
  | 1 =>
    (match formRefusal s c with
     | some r => refused r
     | none => done (formSpan s c))
  | 2 =>
    if c = 0 ∨ getF s (spanFld c) = 0 then refused 5
    else if getF s HP_SPAN_CMD_FORCE = 0 ∧ (spanMembers c).any (fun n => (ledAll s n).any (fun e => liveLed (getF s (CH_LEDGER_STATE n e.1)))) then
      refused 6
    else dissolveSpan ((spanMembers c).foldl (killLive 8) s) c
  | _ => refused 0

/-! ## A degraded span (R160) -/

/-- Count a discard at a gateway. -/
def countLost (s : State) : State := satF s HP_SPAN_STS_LOST_MSG 1

/-- R160: a ply whose knot operation to the lost die awaits a reply takes trap 0x12 at that instruction. -/
def knotLostTrap (s : State) (p : PlyId) (h seq : Nat) : State :=
  let pc := 8 * getF s (CD_BK_SB_PC p.n p.b seq)
  let s := sbRelease s p.n p.b seq
  let s := if plyState s p.n p.b p.q = 2 then setF (wr s (CD_PLY_WAIT p.n p.b p.q) 0) (CD_PLY_STS_STATE p.n p.b p.q) 1 else s
  let s := plyMod s p.n p.b p.q (fun x => { x with wait := none })
  raiseTrap s p 0x12 pc h

/-- R160: knot operations that have not reached die n: those that await a reply trap, the others are discarded and counted. -/
def loseKnotOps (s : State) (n : Nat) : State :=
  let (gone, stay) := s.knotOps.partition (fun k => !isSpanKnot k.handle && knotDie k.handle == n && k.die != n)
  gone.foldl (fun s k =>
    match k.src with
    | .ply d b q => if k.reply then knotLostTrap s ⟨Fin.ofNat 4 d, Fin.ofNat 384 b, Fin.ofNat 4 q⟩ k.handle k.seq else countLost s
    | .engine _ => countLost s) { s with knotOps := stay }

/-- R160: messages bound for die n: a gather request is answered with FMT 0xF, a send or scatter-add is discarded and counted. -/
def loseFlights (s : State) (n : Nat) : State :=
  let (gone, stay) := s.flights.partition (fun f => placeDie f.msg.dest == n && f.die != n)
  gone.foldl (fun s f =>
    if f.msg.op = opGather then
      { s with flights := s.flights ++ [⟨f.die, f.brick, .gateway f.die, ⟨0, mkTag 0 0 0 opReply 0xF f.msg.len f.msg.tally (f.msg.body % 2 ^ 32)⟩⟩] }
    else if f.msg.op = opReply then s
    else countLost s) { s with flights := stay }

/-- R160: every waiter on a knot of die n, on another die, wakes with status 1. -/
def wakeLost (s : State) (n : Nat) : State :=
  (List.range (4 * 1536)).foldl (fun s k =>
    let p : PlyId := ⟨Fin.ofNat 4 (k / 1536), Fin.ofNat 384 (k / 4 % 384), Fin.ofNat 4 k⟩
    match knotWait s p.n p.b p.q with
    | some (h, g) => if !isSpanKnot h && knotDie h == n && p.n.val != n then wakeKnot s p 1 g else s
    | none => s) s

/-- R160: watches that die n held on span knots and on knots of other members are removed. -/
def dropWatches (s : State) (n : Nat) : State :=
  let s := (List.range 1024).foldl (fun s i => setF s ⟨(HP_SKNOT_DIES i).addr, (HP_SKNOT_DIES i).lo + n, (HP_SKNOT_DIES i).lo + n, 0⟩ 0) s
  ((List.range 4).filter (· != n)).foldl (fun s d =>
    (List.range 4096).foldl (fun s i => setF s ⟨(CD_KNOT_WAIT_DIES d i).addr, (CD_KNOT_WAIT_DIES d i).lo + n, (CD_KNOT_WAIT_DIES d i).lo + n, 0⟩ 0) s) s

/-- Whether the work of an entry of another member touches die n: it names a pin set made through it, or it has DMA descriptors with
blocks for it. -/
def touches (s : State) (n m : Nat) (e : Nat × LedX) : Bool :=
  (pinKnown s m e.2.pin && ((dieGet s n).pins.any (fun p => p.1 == e.2.pin && p.2.isSome)))
  || (dieGet s m).engines.any (fun x => match x.2 with
    | some y => y.d.entry == some e.1 && crossDie m y.taken
    | none => false)

/-- R160, R249, R259: a member of a formed span is lost or fenced; its ropes are parked. -/
def spanDegrade (s : State) (n : Nat) : State :=
  let s := parkDie s n
  let c := spanOf s n
  if c = 0 ∨ spanLost s n then s
  else
    let members := (spanMembers c).filter (fun m => m != n && !spanLost s m)
    let s := setFs s [(spanFld c, 2), (HP_SPAN_STS_LOST, putN (getF s HP_SPAN_STS_LOST) n 1 1)]
    let s := dropWatches (wakeLost (loseFlights (loseKnotOps (aorDie s n) n) n) n) n
    members.foldl (fun s m => killAll m 6 s ((ledAll s m).filter (touches s n m))) s

end Sys2Proof.Machine
end

