-- ==== Sys2Proof/Machine/Fault.lean ====
section
/-! DEFINITION. The fault collector: classes, records, windows, fences, the safe state, injection (R338-R356). -/
namespace Sys2Proof.Machine

/-- R338: the fault classes. -/
inductive FClass where
  | c | d | f | s
  deriving DecidableEq, Repr

/-- Table 11-4: the causes of classes D, F and S; every other cause is of class C. -/
def classOf (cause : Nat) : FClass :=
  if cause ∈ [0x0105, 0x0106, 0x0111, 0x0115, 0x0116, 0x0117, 0x011C, 0x0120, 0x0301, 0x0506] then .d
  else if cause ∈ [0x0102, 0x0104, 0x0112, 0x0114, 0x0501, 0x0901, 0x0906] then .f
  else if cause ∈ [0x0107, 0x011B, 0x0902, 0x0903, 0x0904, 0x0905] then .s
  else .c

/-- Table 11-2: the code of a class. -/
def FClass.code : FClass → Nat
  | .c => 1
  | .d => 2
  | .f => 3
  | .s => 4

def fcMod (s : State) (f : FcX → FcX) : State := hubMod s (fun h => { h with fc := f h.fc })
/-- The next record number of a collector. -/
def fcSeq (s : State) (c : Nat) : Nat := tabGet (fun _ => 0) s.hub.fc.seqs c
def bumpSeq (s : State) (c : Nat) : State := fcMod s (fun x => { x with seqs := tabSet (fun _ => 0) x.seqs c ((fcSeq s c + 1) % 2 ^ 32) })

/-! ## Records (R340, R341) -/

/-- Table 11-2: the eight words of a record. `epoch` is that at detection. -/
def fcWords (s : State) (c : Nat) (cls : FClass) (r : Report) (epoch related : Nat) : List Nat :=
  [cls.code + r.mask % 16 * 2 ^ 16 + r.flags % 16 * 2 ^ 24 + r.cause * 2 ^ 32 + r.unit * 2 ^ 48,
   r.block + r.inst % 2 ^ 16 * 2 ^ 16 + fcSeq s c * 2 ^ 32,
   hubClock s % 2 ^ 48,
   epoch % 2 ^ 48 + related % 2 ^ 16 * 2 ^ 48]
  ++ (List.range 4).map (fun i => r.detail / 2 ^ (64 * i) % 2 ^ 64)

/-- Write words from a register address up. -/
def fcPut (a : Nat) : State → List Nat → State
  | s, [] => s
  | s, v :: t => fcPut (a + 8) (wr s a (BitVec.ofNat 64 v)) t

/-- R342: the interrupt request of a record. -/
def fcIrq (s : State) : State := irqSelf s 4

/-- R340, R342: a class C record; a full ring overwrites its oldest. -/
def pushC (s : State) (c : Nat) (r : Report) (epoch : Nat) : State :=
  let s := flag s (FC_STS_C c)
  if s.hub.fc.stopped.contains c then s
  else
    let tail := getF s (FC_LOG_PTR_C_TAIL c)
    let next := (tail + 1) % 512
    let s := if next = getF s (FC_LOG_PTR_C_HEAD c) then addF (setF s (FC_LOG_PTR_C_HEAD c) (next + 1)) (FC_LOG_PTR_C_LOST c) 1 else s
    let s := fcPut (FC_LOG_C c tail 0) s (fcWords s c .c r epoch 0)
    let s := setF (bumpSeq s c) (FC_LOG_PTR_C_TAIL c) next
    if getF s (FC_CTL_CIRQ c) = 1 then fcIrq s else s

/-- R340: whether the DF ring of a collector can take a record. -/
def dfRoom (s : State) (c : Nat) : Bool :=
  !s.hub.fc.stopped.contains c && (getF s (FC_LOG_PTR_DF_TAIL c) + 1) % 256 != getF s (FC_LOG_PTR_DF_HEAD c)

/-- R340, R342: a record of the DF ring, when it has room. -/
def pushDF (s : State) (c : Nat) (cls : FClass) (r : Report) (epoch related : Nat) : State :=
  let tail := getF s (FC_LOG_PTR_DF_TAIL c)
  let s := fcPut (FC_LOG_DF c tail 0) s (fcWords s c cls r epoch related)
  fcIrq (setF (bumpSeq s c) (FC_LOG_PTR_DF_TAIL c) (tail + 1))

def lostDF (s : State) (c k : Nat) : State := addF s (FC_LOG_PTR_DF_LOST c) k

/-! ## OPEN records (R344, R345) -/

/-- The OPEN records of a collector. -/
def opensOf (s : State) (c : Nat) : List OpenD := (s.hub.fc.opens.filter (fun o => o.1 == c)).map (·.2)

def showOpen (s : State) (c : Nat) : State := setF s (FC_STS_OPEN_D c) (opensOf s c).length

/-- R345: a D record leaves OPEN: byte 1 of its slot, while the slot still holds it. -/
def leaveOpen (s : State) (c : Nat) (o : OpenD) (st : Nat) : State :=
  let s := fcMod s (fun x => { x with opens := x.opens.filter (fun p => !(p.1 == c && p.2.seq == o.seq)) })
  let s := if bitsOf (rd s (FC_LOG_DF c o.slot 1)) 63 32 = o.seq then setF s ⟨FC_LOG_DF c o.slot 0, 15, 8, 0⟩ st else s
  showOpen s c

/-- The window of a collector in ns (R344). -/
def windowNs (s : State) (c : Nat) : Nat := 1000 * max 1 (min (getF s (FC_CTL_WINDOW c)) 1000000)

/-! ## Fences (R348) -/

/-- R345, R347: the OPEN records of a fenced channel are superseded. -/
def supersede (s : State) (c : Nat) : State := (opensOf s c).foldl (fun s o => leaveOpen s c o 4) s

/-- Table 11-7, order 2: the bricks of a die: launch slots disarmed, plies aborted. -/
def fenceBricks (s : State) (n : Nat) : State :=
  let s := (List.range 384).foldl (fun s b => (List.range 8).foldl (fun s i =>
    if getF s (CD_BK_LSLOT_ARMED n b i) = 1 then setFs s [(CD_BK_LSLOT_ARMED n b i, 0), (CD_BK_LSLOT_ADM n b i, 0)] else s) s) s
  (List.range 1536).foldl (fun s k => abortPly s ⟨Fin.ofNat 4 n, Fin.ofNat 384 (k / 4), Fin.ofNat 4 k⟩) s

/-- R348: FENCE_CHANNEL: the fence of a channel begins: FENCED, its bricks stop, the first cause is kept. The other actions of Table 11-7
complete with FENCE_COMPLETE. No fence starts in the safe state (R347). -/
def fenceChannel (s : State) (n cause : Nat) : State :=
  if pkgSafe s then s
  else
    let s := supersede s n
    if getF s (FC_STS_FENCED n) = 1 then s
    else
      let s := setFs s [(FC_STS_FENCED n, 1), (FC_STS_FENCE_CAUSE n, cause)]
      fcMod (fenceBricks s n) (fun x => { x with fencing := x.fencing ++ [n] })

/-- The external ropes of a channel. -/
def chanRopes (n : Nat) : List Nat := (List.range 24).filter (fun r => ropeChan r == some n)

/-- R348: FENCE_COMPLETE: orders 3 to 8 of Table 11-7. -/
def execFenceComplete (n : Die) (s : State) : Out :=
  .next (if s.hub.fc.fencing.contains n.val ∧ !pkgSafe s then
      let s := fcMod s (fun x => { x with fencing := x.fencing.filter (· != n.val) })
      let s := killAll n 5 (abortDma s n) ((ledAll s n).filter (fun e => liveLed (getF s (CH_LEDGER_STATE n e.1))))
      let s := spanDegrade (failPre s n) n
      (chanRopes n).foldl (fun s r => ropeOff s r 5) s
    else s)

/-! ## The safe state (R352) -/

/-- Table 11-8: the guest site is fenced as in R40. -/
def fenceGuest (s : State) : State := setFs s [(GS_STS_FENCED, 1), (GS_STS_TRAINED, 0), (GS_STS_X8, 0)]

/-- Table 11-8: a PRIMARY gives up its lease and becomes DEMOTED, its CAUSE unchanged. -/
def safeHost (s : State) : State :=
  if roleOf s = 2 then
    let s := issueCas s .relinquish s.hub.port.lease (putN s.hub.port.lease 4 1 0)
    portMod (setRole s 7 none) (fun p => { p with outst := [], ckptNew := false })
  else s

/-- R352, Table 11-8: the package enters its safe state. -/
def enterSafe (s : State) : State :=
  if pkgSafe s then s
  else
    let s := setFs s [(FC_PKG_SAFE, 1)]
    let s := (List.range 34).foldl safeRope s
    let s := (List.range 34).foldl (fun s r => ropeOff s r 1) s
    fenceGuest (safeHost s)

/-- R352: the first S fault is latched. -/
def latchGrave (s : State) (cause unit inst : Nat) : State :=
  if getF s FC_GRAVE_VALID = 1 then s
  else setFs s [(FC_GRAVE_CAUSE, cause), (FC_GRAVE_UNIT, unit), (FC_GRAVE_INSTANCE, inst), (FC_GRAVE_VALID, 1), (FC_GRAVE_TIME, hubClock s)]

/-! ## Faults by class (R339-R347) -/

/-- R346: what an F does beyond its record: the channel is fenced; in the package collector FC_STS(4).F alone. -/
def applyF (s : State) (c cause : Nat) : State := if c < 4 then fenceChannel s c cause else s

/-- A class F fault in a collector. -/
def recordF (s : State) (c : Nat) (r : Report) (epoch related : Nat) : State :=
  let s := flag s (FC_STS_F c)
  let s := if dfRoom s c then pushDF s c .f r epoch related else lostDF s c 1
  applyF s c r.cause

/-- R342: the arrival that a D record makes. -/
def dArrive (s : State) (c : Nat) : State :=
  if c < 4 ∧ getF s (FC_CTL_KEN c) = 1 then arriveFrom s c (getF s (FC_CTL_KNOT c)) else s

/-- A class D fault in a collector: merged into an OPEN record (R344), written, or escalated at once for want of room (R347). -/
def recordD (s : State) (c : Nat) (r : Report) (epoch : Nat) : State :=
  let s := flag s (FC_STS_D c)
  match (opensOf s c).find? (fun o => o.cause == r.cause && o.mask == r.mask && o.block == r.block && o.inst == r.inst) with
  | some o =>
    if bitsOf (rd s (FC_LOG_DF c o.slot 1)) 63 32 = o.seq then satF s ⟨FC_LOG_DF c o.slot 2, 63, 48, 0⟩ 1 else s
  | none =>
    if dfRoom s c then
      let o : OpenD := ⟨fcSeq s c, getF s (FC_LOG_PTR_DF_TAIL c), r.cause, r.mask, r.block, r.inst, s.hubTime + windowNs s c⟩
      let s := fcMod s (fun x => { x with opens := x.opens ++ [(c, o)] })
      dArrive (showOpen (pushDF s c .d r epoch 0) c) c
    else if pkgSafe s then lostDF s c 1
    else applyF (lostDF (flag (flag s (FC_STS_ESC c)) (FC_STS_F c)) c 2) c 0x0901

/-- A class S fault: recorded where there is room, latched, and the package enters its safe state. -/
def recordS (s : State) (c : Nat) (r : Report) (epoch : Nat) : State :=
  let s := if dfRoom s c then pushDF s c .s r epoch 0 else lostDF s c 1
  enterSafe (latchGrave s r.cause r.unit r.inst)

/-- One report in one collector. -/
def collect (s : State) (c : Nat) (r : Report) (epoch : Nat) : State :=
  match classOf r.cause with
  | .c => pushC s c r epoch
  | .d => recordD s c r epoch
  | .f => recordF s c r epoch 0
  | .s => recordS s c r epoch

/-- R341: the epoch at detection; 0 for package scope or while the epoch clock is lost. -/
def epochAt (s : State) (c : Nat) : Nat := if c < 4 ∧ getF s (CD_EPOCH_STALE c) = 0 then epochOf s c else 0

/-- R339: a report reaches the collectors of the channels it names, or the package collector. -/
def collectAll (s : State) (r : Report) : State :=
  if r.mask % 16 = 0 then collect s 4 r 0
  else (List.range 4).foldl (fun s c => if bitN r.mask c = 1 then collect s c r (epochAt s c) else s) s

/-! ## Reports (R343, R355) -/

/-- R47: the die that records a report by itself while the hub is absent: the channel it names, or the die it comes from. -/
def localDie (s : State) (r : Report) : Option Nat :=
  match (List.range 4).find? (fun n => bitN r.mask n == 1 && (dieGet s n).hubAbsent) with
  | some n => some n
  | none => if r.mask % 16 = 0 ∧ 1 ≤ r.unit ∧ r.unit ≤ 4 ∧ (dieGet s (r.unit - 1)).hubAbsent then some (r.unit - 1) else none

/-- R47: a report in a die's local buffer of 64; class F fences the die by itself, class S halts its compute and sends its optical engines to
safe low power. -/
def recordLocal (s : State) (n : Nat) (r : Report) : State :=
  let e := epochAt s n
  let s := dieMod s n (fun d =>
    if d.localFaults.length < 64 then { d with localFaults := d.localFaults ++ [({ r with mask := if r.mask = 0 then 0 else 2 ^ n }, e)] }
    else { d with localLost := d.localLost + 1 })
  match classOf r.cause with
  | .f => dieMod (fenceBricks s n) n (fun d => { d with localFence := true })
  | .s => (chanRopes n).foldl safeRope (dieMod s n (fun d => { d with grave := true }))
  | _ => s

/-- Whether a report can be dealt with: the hub is there, or the dies it concerns record it themselves. -/
def reportReady (s : State) (r : Report) : Bool := !s.hub.down || (localDie s r).isSome

/-- R343: FAULT_REPORT: the first report that can reach its collector does. A die that holds the hub absent records its own. -/
def execFaultReport (s : State) : Out :=
  .next (match firstIdx (reportReady s) s.reports with
    | none => s
    | some i =>
      match s.reports[i]? with
      | none => s
      | some r =>
        let s := { s with reports := listDel s.reports i }
        match localDie s r with
        | some n =>
          let rest := r.mask - (if r.mask % 16 = 0 then 0 else 2 ^ n)
          let s := recordLocal s n r
          if rest = 0 then s else { s with reports := { r with mask := rest } :: s.reports }
        | none => collectAll s r)

/-! ## Windows, clears, commands (R345-R350) -/

/-- R346: escalation. -/
def escalate (s : State) (c : Nat) (o : OpenD) : State :=
  let unit := bitsOf (rd s (FC_LOG_DF c o.slot 0)) 55 48
  let detail := (List.range 4).foldl (fun a i => a + (rd s (FC_LOG_DF c o.slot (4 + i))).toNat * 2 ^ (64 * i)) 0
  let s := flag (leaveOpen s c o 3) (FC_STS_ESC c)
  let s := fcMod s (fun x => { x with escLast := tabSet (fun _ => (0, 0)) x.escLast c (o.seq, s.hubTime) })
  recordF s c ⟨0x0901, o.mask, unit, o.block, o.inst, detail, 4⟩ (epochAt s c) o.seq

/-- The OPEN record in a slot. -/
def openAt (s : State) (c slot : Nat) : Option OpenD := (opensOf s c).find? (fun o => o.slot == slot)

/-- R346: WINDOW_EXPIRY: the window of the record in slot `i` of collector `c` expires: hub time has reached its end. In the safe state
and while the hub is away no window runs (R347, R355). -/
def execWindowExpiry (c : Fin 5) (i : Fin 256) (s : State) : Out :=
  .next (if pkgSafe s ∨ s.hub.down ∨ s.hub.fc.pausedAt.isSome then s
    else match openAt s c i with
      | some o => escalate { s with hubTime := max s.hubTime o.due } c o
      | none => s)

/-- Table 11-4: whether hardware clears a cause, and whether the condition can be over as far as State shows. -/
def clearable (s : State) (o : OpenD) : Bool :=
  let back (d : Nat) : Bool := !clkLost s d
  match o.cause with
  | 0x0111 => back (24 + o.inst)
  | 0x0115 => back (42 + o.inst)
  | 0x0116 => back (46 + o.inst)
  | 0x0117 => back 54
  | 0x011C => back 63
  | 0x0301 => (List.range 4).any (fun n => bitN o.mask n == 1 && !inboxStuck s n o.inst)
  | 0x0506 => (List.range 4).any (fun n => bitN o.mask n == 1 && getF s (CH_PRE_REQ_STATE n (o.inst % 64)) != 5)
  | _ => false

/-- R345: HARDWARE_CLEAR: the condition of the record in slot `i` of collector `c` has ended. -/
def execHardwareClear (c : Fin 5) (i : Fin 256) (s : State) : Out :=
  .next (if pkgSafe s then s
    else match openAt s c i with
      | some o => if clearable s o then leaveOpen s c o 2 else s
      | none => s)

/-- R350: the fence of a channel is released. -/
def releaseFence (s : State) (n : Nat) : State :=
  let s := setFs s [(FC_STS_FENCED n, 0), (FC_STS_FENCE_CAUSE n, 0), (CH_DIE_STS_STATE n, 3)]
  let s := fcMod s (fun x => { x with fencing := x.fencing.filter (· != n) })
  unparkDie ((chanRopes n).foldl (fun s r => if ropeState s r = 5 then enterTraining s r else s) s) n

/-- Carry out the command in FC_CMD(c), whose STATUS is 1 (R345, R347, R349). -/
def fcCmd (s : State) (c : Nat) : State :=
  let done (s : State) : State := setFs s [(FC_CMD_STATUS c, 2), (FC_CMD_REASON c, 0)]
  let refused (r : Nat) : State := setFs s [(FC_CMD_STATUS c, 3), (FC_CMD_REASON c, r)]
  match getF s (FC_CMD_OP c) with
  | 1 =>
    let q := getF s (FC_CMD_SEQ c)
    (match (opensOf s c).find? (fun o => o.seq == q) with
     | some o => if pkgSafe s then refused 7 else done (leaveOpen s c o 1)
     | none => if tabGet (fun _ => (0, 0)) s.hub.fc.escLast c = (q, s.hubTime) ∧ s.hubTime ≠ 0 then refused 2 else refused 1)
  | 2 =>
    if 4 ≤ c ∨ getF s (FC_STS_FENCED c) = 0 then refused 3
    else if getF s (CH_DIE_STS_STATE c) ≠ 5 then refused 4
    else if getF s (CD_HBM_STS_STATE c 0) ≠ 3 ∨ getF s (CD_HBM_STS_STATE c 1) ≠ 3 then refused 5
    else if opensOf s c ≠ [] then refused 6
    else if pkgSafe s then refused 7
    else done (releaseFence s c)
  | _ => refused 0

/-! ## The collector's integrity, injection (R354, R356) -/

/-- R354: COLLECTOR_MISMATCH: the two copies of collector `c` disagree; an armed injection of its comparison is used up. -/
def execCollectorMismatch (c : Fin 5) (s : State) : Out :=
  .next (let s := (injTake s 9 c).2
    let s := fcMod s (fun x => { x with stopped := insertAsc c x.stopped })
    enterSafe (latchGrave s 0x0902 9 c))

/-- Bundle pairs of a bond-lane link (Table 1-4). -/
def linkPairs (l : Nat) : Nat := if l < 4 then 6 else if l < 8 then 2 else if l < 16 then 25 else if l < 24 then 1 else if l = 24 then 2 else 0

/-- Table 11-9: whether a checker with that instance exists. -/
def checkerExists (kind inst : Nat) : Bool :=
  match kind with
  | 1 => decide (bitsN inst 9 5 < linkPairs (inst / 1024)) && inst % 16 == 0
  | 2 => decide (inst < 8)
  | 3 => decide (inst / 256 < 4) && bitsN inst 7 5 == 0
  | 4 => decide (inst < 1024) && decide (inst % 256 < 64)
  | 5 => decide ((1 ≤ inst ∧ inst ≤ 24) ∨ (0x100 ≤ inst ∧ inst < 0x10A))
  | 6 => decide (inst < 14)
  | 7 => inst == 0
  | 8 => decide (inst < 4)
  | 9 => decide (inst < 5)
  | _ => false

/-- R356: carry out the command in FC_INJ, whose STATUS is 1; `debug` says whether a debug certificate is in force. -/
def injCmd (s : State) (debug : Bool) : State :=
  let done (s : State) : State := setFs s [(FC_INJ_STATUS, 2), (FC_INJ_REASON, 0)]
  let refused (r : Nat) : State := setFs s [(FC_INJ_STATUS, 3), (FC_INJ_REASON, r)]
  let kind := getF s FC_INJ_KIND
  let inst := getF s FC_INJ_INSTANCE
  match getF s FC_INJ_OP with
  | 1 =>
    if !debug then refused 1
    else if !checkerExists kind inst then refused 2
    else if getF s FC_INJ_N = 0 then refused 3
    else if pkgSafe s then refused 5
    else match (injSlot s kind inst).isSome, (List.range 8).find? (fun j => getF s (FC_INJ_SLOT_ARMED j) == 0) with
      | false, some j => done (setFs s [(FC_INJ_SLOT_KIND j, kind), (FC_INJ_SLOT_INSTANCE j, inst), (FC_INJ_SLOT_REMAINING j, getF s FC_INJ_N), (FC_INJ_SLOT_ARMED j, 1)])
      | _, _ => refused 4
  | 2 =>
    (match injSlot s kind inst with
     | some j => done (wr s (FC_INJ_SLOT j) 0)
     | none => refused 6)
  | _ => refused 0

end Sys2Proof.Machine
end

