-- ==== Sys2Proof/Machine/Wave.lean ====
section
/-! DEFINITION. What the snapshot wave and the trace unit share with the units that they observe: records entering the trace queue, and how a
snapshot ends (R332-R337). -/
namespace Sys2Proof.Machine

/-! ## Trace records (R336, R337, Table 10-5) -/

/-- R337: whether a source produces records of a kind. -/
def traceOn (s : State) (kind src : Nat) : Bool :=
  getF s SN_TRC_CTL_EN == 1 && bitN (getF s SN_TRC_CTL_KINDS) (kind - 1) == 1 && bitN (getF s SN_TRC_CTL_SRCS) src == 1
  && getF s SN_TRC_STS_STOPPED == 0

/-- Table 10-5: the local time of a source. -/
def traceTime (s : State) (src : Nat) : Nat := if src < 4 then epochOf s src else hubClock s % 2 ^ 48

/-- R336: a record reaches the trace unit: bytes 10-11 `idx`, 12-15 `info`, 16-23 `x`. In a full queue it is lost. -/
def tracePush (s : State) (kind src idx info x : Nat) : State :=
  if !traceOn s kind src then s
  else if 64 ≤ s.read.queue.length then addF s SN_TRC_STS_LOST 1
  else readMod s (fun r => { r with
    queue := r.queue ++ [kind + src * 2 ^ 8 + r.seq * 2 ^ 16 + traceTime s src * 2 ^ 32 + idx % 2 ^ 16 * 2 ^ 80 + info % 2 ^ 32 * 2 ^ 96 + x % 2 ^ 64 * 2 ^ 128]
    seq := (r.seq + 1) % 2 ^ 16 })

/-! ## The end of a snapshot (R332, R335) -/

/-- The units of a snapshot that take a cut, as keys: bricks, the knot engine of a course, the rest of a die, an optical engine, the interposer. -/
def keyBrick (n b : Nat) : Nat := n * 384 + b
def keyKnots (n c : Nat) : Nat := 1536 + 16 * n + c
def keyDie (n : Nat) : Nat := 1600 + n
def keyEngine (k : Nat) : Nat := 1604 + k
def keyPi : Nat := 1612

/-- A gateway's hold ends after `ns`. -/
def endHold (s : State) (a ns : Nat) : State :=
  let s := setF s SN_STS_HOLD_NS (max (getF s SN_STS_HOLD_NS) (min ns 65535))
  readMod s (fun r => { r with hold := r.hold.filter (fun x => x.1 != a), rel := r.rel.filter (· != a) })

/-- How long a gateway has held. -/
def heldFor (s : State) (a : Nat) : Nat :=
  match s.read.hold.find? (fun x => x.1 == a) with
  | some x => s.hubTime - x.2
  | none => 0

/-- R332: once every die in scope has confirmed, release is sent and the hub's own hold ends. -/
def snapRelease (s : State) : State :=
  match s.read.snap with
  | some x =>
    if !x.sent ∧ x.dies.all (fun d => bitN (getF s SN_STS_CUT) d == 1) then
      let s := endHold s 4 (heldFor s 4)
      readMod s (fun r => { r with snap := some { x with sent := true }, rel := x.dies.filter (fun d => r.hold.any (fun h => h.1 == d)) })
    else s
  | none => s

/-- R335: the command completes once every unit in scope has taken its cut and release has been sent. -/
def snapEnd (s : State) : State :=
  match s.read.snap with
  | some x =>
    let engines := (List.range 8).filter (fun k => bitN (getF s HP_CAP_EFF_OE_ADMITTED) k == 1 && getF s (OE_STS_STATE k) != 6)
    if x.sent ∧ engines.all (fun k => x.cut.contains (keyEngine k)) ∧ x.cut.contains keyPi then
      let s := readMod s (fun r => { r with snap := none })
      let s := addF (setF s SN_CMD_STATUS 2) SN_STS_DONE_CNT 1
      tracePush s 7 4 0 x.id 0
    else s
  | none => s

/-- R335: a die is lost: one that has not confirmed is skipped, and no gateway of it holds. -/
def snapDieLost (s : State) (n : Nat) : State :=
  let s := readMod s (fun r => { r with hold := r.hold.filter (fun x => x.1 != n), rel := r.rel.filter (· != n) })
  match s.read.snap with
  | some x =>
    if x.dies.contains n ∧ bitN (getF s SN_STS_CUT) n = 0 then
      let s := setF s SN_STS_SKIPPED (putN (getF s SN_STS_SKIPPED) n 1 1)
      snapEnd (snapRelease (readMod s (fun r => { r with snap := some { x with dies := x.dies.filter (· != n) } })))
    else s
  | none => s

/-- R335: a hub absence abandons the snapshot. -/
def snapAbandon (s : State) : State :=
  match s.read.snap with
  | some _ => setF (readMod s (fun r => { r with snap := none, rel := [], hold := r.hold.filter (fun x => x.1 != 4) })) SN_CMD_STATUS 3
  | none => s

end Sys2Proof.Machine
end

