-- ==== Sys2Proof/Machine/Bond.lean ====
section
/-! DEFINITION. Bond lanes: frames, recovery, interconnect tests, repair, roles, capabilities (R20-R36). -/
namespace Sys2Proof.Machine

/-! ## Bundles -/

/-- The key of a bundle: link, pair, direction (0 from the lower-numbered die of the link's name to the other). -/
def bondKey (l i d : Nat) : Nat := (l * 32 + i) * 2 + d % 2
def bondGet (s : State) (l i d : Nat) : BondX := tabGet (fun _ => BondX.reset) s.hub.bonds (bondKey l i d)
def bondMod (s : State) (l i d : Nat) (f : BondX → BondX) : State :=
  hubMod s (fun h => { h with bonds := tabMod (fun _ => BondX.reset) h.bonds (bondKey l i d) f })

/-- Whether a bundle pair is good: neither bundle failed a test, and it has not failed in operation. -/
def pairTested (s : State) (l i : Nat) : Bool := !(bondGet s l i 0).failed && !(bondGet s l i 1).failed
def pairGood (s : State) (l i : Nat) : Bool := pairTested s l i && !(bondGet s l i 0).failedNow

/-- Table 1-4: the minimum of a link. -/
def linkMin (l : Nat) : Nat := if l < 4 then 4 else if l < 8 then 1 else if l < 16 then 2 else 1

/-- Table 1-4: the two compute dies of a peer link. -/
def peerDies (l : Nat) : Nat × Nat := if l = 4 then (0, 1) else if l = 5 then (2, 3) else if l = 6 then (0, 2) else (1, 3)

/-! ## Roles (R32-R34) -/

/-- Table 1-8: the roles of a link in priority order, with their targets. -/
def linkRoles (l : Nat) : List (Nat × Nat) :=
  if l < 4 then [(1, 1), (2, 2), (3, 2), (4, 1)]
  else if l < 8 then [(5, 2)]
  else if l < 16 then [(1, 1), (4, 24)]
  else if l < 24 then [(1, 1)]
  else [(1, 2)]

/-- R34: give one pair to each role; what is left over is good and unassigned. -/
def firstPass : List (Nat × Nat) → List Nat → List (Nat × Nat) × List Nat
  | [], g => ([], g)
  | _ :: _, [] => ([], [])
  | (r, _) :: t, i :: g => let (a, g) := firstPass t g; ((i, r) :: a, g)
/-- R34: give each role pairs up to its target. -/
def secondPass : List (Nat × Nat) → List Nat → List (Nat × Nat)
  | [], _ => []
  | (r, k) :: t, g => (g.take (k - 1)).map (fun i => (i, r)) ++ secondPass t (g.drop (k - 1))

/-- R34: the role of each pair of a link. -/
def rolePairs (s : State) (l : Nat) : List (Nat × Nat) :=
  let (a, g) := firstPass (linkRoles l) ((List.range (linkPairs l)).filter (pairGood s l))
  a ++ secondPass (linkRoles l) g

/-- The role code of a bundle pair in HP_ROLE_MAP. -/
def roleFld (l i : Nat) : Fld := ⟨HP_ROLE_MAP l (i / 16), 4 * (i % 16) + 3, 4 * (i % 16), 0⟩

/-- R34: ROLE_ASSIGNMENT on one link. -/
def assignRoles (s : State) (l : Nat) : State :=
  let m := rolePairs s l
  (List.range (linkPairs l)).foldl (fun s i =>
    setF s (roleFld l i) (match m.find? (fun p => p.1 == i) with
      | some p => p.2
      | none => if pairGood s l i then 0xF else 0)) s

/-- R23: a link has failed in operation when every pair of one of its roles has. -/
def linkFailed (s : State) (l : Nat) : Bool :=
  (linkRoles l).any (fun r =>
    let ps := (List.range (linkPairs l)).filter (fun i => getF s (roleFld l i) == r.1)
    !ps.isEmpty && ps.all (fun i => (bondGet s l i 0).failedNow))

def linkUsable (s : State) (l : Nat) : Bool := getF s (HP_BL_STS_USABLE l) == 1 && !linkFailed s l

/-! ## Capabilities (R36) -/

/-- R36: CAPABILITY_INTERSECTION. -/
def effectiveCaps (s : State) : State :=
  let up (n : Nat) : Bool := dieUp s n
  let cap (n : Nat) : Nat := (rd s (HP_CAPSULE n 3)).toNat
  let mask (p : Nat → Bool) : Nat := (List.range 4).foldl (fun a n => a + 2 ^ n * b2n (p n)) 0
  let two (a b l : Nat) : Bool := up a && up b && linkUsable s l
  let hub := cap 4
  setFs s [(HP_CAP_EFF_CH_ADMITTED, mask up), (HP_CAP_EFF_N3, mask (fun n => up n && bitN (cap n) 0 == 1)),
    (HP_CAP_EFF_SPAN01, b2n (two 0 1 4)), (HP_CAP_EFF_SPAN23, b2n (two 2 3 5)),
    (HP_CAP_EFF_SPAN0123, b2n (decide (4 ≤ hub % 8) && getF s HP_CAP_EFF_CERT_MERGE4 == 1 && two 0 1 4 && two 2 3 5
      && (linkUsable s 6 || linkUsable s 7))),
    (HP_CAP_EFF_SPAN_KNOT_EXT, b2n (bitN hub 3 == 1 && (List.range 4).any up && (List.range 4).all (fun n => !up n || bitN (cap n) 1 == 1)))]

/-! ## Loss of a compute die (R42, R45) -/

/-- R42: the contents of HBM, bed and brick stores of a die are lost. -/
def dropDieMem (s : State) (n : Nat) : State :=
  let inDie (a : Nat) : Bool :=
    decide (n * 0x2000000000 ≤ a ∧ a < (n + 1) * 0x2000000000) || decide (bedPa n 0 ≤ a ∧ a < bedPa n 0 + 0x10000000)
    || decide (storePa n 0 0 ≤ a ∧ a < storePa n 0 0 + 0x20000000)
  { s with mem := tabDrop inDie s.mem, poisoned := s.poisoned.filter (fun l => !inDie (64 * l)) }

/-- A compute die is reset: its registers (blocks 0x000-0x7FF of its unit), bricks, plies and what it holds of the hub. -/
def clearDie (s : State) (n : Nat) : State :=
  { s with
    regs := tabDrop (fun a => adrUnit a == n + 1 && decide (adrBlk a < 0x800)) s.regs
    plies := tabDrop (fun k => k / 1536 == n) s.plies
    bricks := tabDrop (fun k => k / 384 == n) s.bricks
    flights := s.flights.filter (fun f => f.die != n && placeDie f.msg.dest != n)
    knotOps := s.knotOps.filter (fun k => k.die != n)
    notices := s.notices.filter (fun x => match x.dest with
      | .course d _ => d != n
      | .die d => d != n
      | .ply d _ _ => d != n) }

/-- R42, Table 1-12: DIE_LOST. The class F report fences the channel. What was pending on the die is gone with it: its requests complete
poisoned. The die's bed held no attach record any more. -/
def dieLost (s : State) (n cause : Nat) : State :=
  let s := setFs s [(CH_DIE_STS_STATE n, 4), (CH_DIE_STS_CAUSE n, cause), (CH_DIE_STS_REJOIN n, 0)]
  let s := satF s (CH_DIE_STS_LOST_CNT n) 1
  let s := reportCh s 0x0104 n 0x8F0 n (rd s (CH_DIE_STS n)).toNat
  let s := snapDieLost (spanDegrade (failPre (abortDma s n) n) n) n
  dieMod (clearDie (dropDieMem s n) n) n (fun d =>
    { d with hubAbsent := false, skMirror := [], dieCache := [], grave := false, localFence := false, localFaults := [], localLost := 0 })

/-! ## Failures in operation (R23, R24, R27) -/

/-- R24: LINK_FAILURE: the reaction of Table 1-4. A peer link fenced because a die is lost has not failed (R45). -/
def linkFail (s : State) (l : Nat) : State :=
  let lost (n : Nat) : Bool := getF s (CH_DIE_STS_STATE n) == 4
  if 4 ≤ l ∧ l < 8 ∧ (lost (peerDies l).1 ∨ lost (peerDies l).2) then s
  else
    let s := flag s (HP_BL_STS_LINK_FAIL l)
    if l < 4 then (if dieUp s l then dieLost s l 3 else s)
    else if l < 8 then
      let (a, b) := peerDies l
      effectiveCaps (report s ⟨0x0105, 2 ^ a + 2 ^ b, 0, 0x010, l, (rd s (HP_BL_STS l)).toNat, 0⟩)
    else if l < 24 then oeLost s ((l - 8) % 8)
    else reportPkg s 0x0107 0 0x010 24 (rd s (HP_BL_STS l)).toNat

/-- R22, R23: BUNDLE_PAIR_FAILURE: it keeps its role; the link fails with the last pair of a role. -/
def pairFail (s : State) (l i : Nat) : State :=
  if (bondGet s l i 0).failedNow then s
  else
    let was := linkFailed s l
    let s := bondMod (bondMod s l i 0 (fun b => { b with failedNow := true })) l i 1 (fun b => { b with failedNow := true })
    let s := addF s (HP_BL_STS_FAILED_NOW l) 1
    if !was ∧ linkFailed s l then linkFail s l else s

/-! ## Frames (R21, R22) -/

/-- Beat `i` of a frame. -/
def beat (f : BitVec 576) (i : Nat) : Nat := bitsN f.toNat (32 * i + 31) (32 * i)
def frameType (f : BitVec 576) : Nat := bitsN (beat f 0) 31 28
def frameVq (f : BitVec 576) : Nat := bitsN (beat f 0) 27 24
def frameCredits (f : BitVec 576) : Nat := bitsN (beat f 0) 23 16
def frameSeq (f : BitVec 576) : Nat := bitsN (beat f 0) 15 8
def frameAck (f : BitVec 576) : Nat := bitsN (beat f 0) 7 0
/-- R21: whether beat 17 is the CRC-32C of beats 0-16. -/
def frameGood (f : BitVec 576) : Bool := crc32c (leBytes 68 f.toNat) == beat f 17

/-- R22: a cumulative ack frees the frames up to a sequence number. -/
def ackFrames (l : List (Nat × Nat)) (ack : Nat) : List (Nat × Nat) :=
  if l.any (fun e => e.1 == ack) then (l.dropWhile (fun e => e.1 != ack)).drop 1 else l

/-- What every good frame of a bundle carries for the other direction: an ack and credits. -/
def takeAck (s : State) (l i d : Nat) (f : BitVec 576) : State :=
  let s := bondMod s l i (1 - d) (fun b => { b with
    unacked := ackFrames b.unacked (frameAck f)
    credits := tabMod (fun _ => 0) b.credits (frameVq f) (· + frameCredits f) })
  bondMod s l i d (fun b => { b with since := b.since + 1 })

/-- R22: a frame that fails its CRC: it and every later frame are discarded; the eighth failure of one frame fails the pair. -/
def frameFails (s : State) (l i d : Nat) : State :=
  let k := (bondGet s l i d).fails + 1
  let s := bondMod s l i d (fun b => { b with bad := true, fails := k })
  if 8 ≤ k then pairFail s l i else s

/-- The instance that names a bundle's checker (Table 11-9). -/
def bondInst (l i d : Nat) : Nat := l * 1024 + i * 32 + d * 16

/-- R22: BOND_FRAME: the transmitter of direction `dir` of a bundle pair sends payload frame `f`, new or replayed; it arrives with the bits of
`err` inverted. -/
def execBondFrame (l : Fin 25) (i : Fin 25) (dir : Bool) (f : BitVec 576) (err : BitVec 576) (s : State) : Out :=
  .next (
    let d := b2n dir
    let b := bondGet s l i d
    let q := frameSeq f
    let isNew := q = b.next ∧ !(b.unacked.any (fun e => e.1 == q))
    if linkPairs l ≤ i ∨ !pairGood s l i ∨ frameType f ≠ 1 ∨ !frameGood f then s
    else if !isNew ∧ !(b.unacked.any (fun e => e.1 == q)) then s
    else if isNew ∧ 64 ≤ b.unacked.length then s
    else
      let s := if isNew then bondMod s l i d (fun b => { b with next := (q + 1) % 256, unacked := b.unacked ++ [(q, f.toNat % 2 ^ 544)] }) else s
      let g := f ^^^ err
      withCheck s 1 (bondInst l i d) (frameGood g) (fun ok s =>
        if !ok then frameFails s l i d
        else if frameSeq g ≠ (bondGet s l i d).exp then s
        else
          let s := bondMod s l i d (fun b => { b with exp := (b.exp + 1) % 256, bad := false, fails := 0, got := b.got + 1 })
          takeAck s l i d g))

/-- R22: CREDIT_AND_ACK_FRAME, with the bits of `err` inverted on the way. -/
def execCreditAndAckFrame (l : Fin 25) (i : Fin 25) (dir : Bool) (f : BitVec 576) (err : BitVec 576) (s : State) : Out :=
  .next (
    let d := b2n dir
    if linkPairs l ≤ i ∨ !pairGood s l i ∨ frameType f ≠ 2 ∨ !frameGood f then s
    else withCheck s 1 (bondInst l i d) (frameGood (f ^^^ err)) (fun ok s => if ok then takeAck s l i d (f ^^^ err) else frameFails s l i d))

/-- R22: NAK: the transmitter of a bundle replays from sequence number `q`; the frames before it have been received. -/
def execNak (l : Fin 25) (i : Fin 25) (dir : Bool) (q : BitVec 8) (s : State) : Out :=
  .next (
    let d := b2n dir
    if linkPairs l ≤ i ∨ !pairGood s l i then s
    else
      let u := (bondGet s l i d).unacked
      let rest := if u.any (fun e => e.1 == q.toNat) then u.dropWhile (fun e => e.1 != q.toNat) else u
      satF (bondMod s l i d (fun b => { b with unacked := rest })) (HP_BL_STS_REPLAYS l) rest.length)

/-- R22: CREDIT_ACK_TIMER: the receiver of a bundle whose reverse traffic is idle sends a credit-and-ack frame. -/
def execCreditAckTimer (l : Fin 25) (i : Fin 25) (dir : Bool) (s : State) : Out :=
  .next (
    let d := b2n dir
    if linkPairs l ≤ i ∨ !pairGood s l i ∨ (bondGet s l i d).since = 0 then s
    else bondMod s l i d (fun b => { b with since := 0 }))

/-! ## Interconnect tests (R25-R27) -/

/-- R25: the links of a test. -/
def testLinks (id : Nat) : List Nat :=
  if id < 4 then
    [id] ++ ([4, 5, 6, 7].filter (fun l => (peerDies l).1 == id || (peerDies l).2 == id)) ++ [8 + 2 * id, 9 + 2 * id]
  else if id = 4 then List.range 25
  else [0, 1, 2, 3, 16, 17, 18, 19, 20, 21, 22, 23, 24]

/-- The bundles of a link. -/
def linkBundles (l : Nat) : List (Nat × Nat) := (List.range (2 * linkPairs l)).map (fun k => (k / 2, k % 2))

/-- R26: a test starts: the fused repairs are in place; a bundle that failed is tested again. A cold start forgets field repairs. -/
def startTest (s : State) (id : Nat) : State :=
  let s := hubMod s (fun h => { h with tests := h.tests.filter (fun t => t.id != id) ++ [⟨id, 1⟩] })
  (testLinks id).foldl (fun s l => (linkBundles l).foldl (fun s p =>
    let fused := (s.hub.fuses.repairs.find? (fun r => r.1 == l && r.2.1 == p.1 && r.2.2.1 == p.2)).map (·.2.2.2)
    bondMod s l p.1 p.2 (fun b =>
      let b := { b with failed := false, failedNow := false, bad := false, fails := 0, next := 0, exp := 0, unacked := [], since := 0 }
      if id = 4 ∨ b.replaced = 0x7F then { b with replaced := fused.getD 0x7F, field := false, spareBad := false } else b)) s) s

/-- R26: the failed wires `bad` of one bundle: steered to the spare, or the bundle fails. Whether a new repair was made. -/
def repairBundle (s : State) (l i d : Nat) (bad : List Nat) : Bool × State :=
  let b := bondGet s l i d
  let bad := bad.filter (· != b.replaced)
  if bad = [] ∨ b.failed then (false, s)
  else match bad with
    | [w] =>
      if w = 33 then
        (if b.replaced = 0x7F then (false, bondMod s l i d (fun b => { b with spareBad := true })) else (false, bondMod s l i d (fun b => { b with failed := true })))
      else if b.replaced = 0x7F ∧ !b.spareBad then
        let s := bondMod s l i d (fun b => { b with replaced := w, field := true })
        (true, reportPkg (addF s (HP_BL_STS_FIELD l) 1) 0x0101 0 0x010 l (rd s (HP_BL_STS l)).toNat)
      else (false, bondMod s l i d (fun b => { b with failed := true }))
    | _ => (false, bondMod s l i d (fun b => { b with failed := true }))

/-- Apply repairs to every bundle of a test; whether any was made. -/
def repairAll (s : State) (id : Nat) (bad : List WireRef) : Bool × State :=
  (testLinks id).foldl (fun a l => (linkBundles l).foldl (fun a p =>
    let w := (bad.filter (fun x => x.link.val == l && x.pair.val == p.1 && b2n x.dir == p.2)).map (fun x => x.wire.val)
    let (m, s) := repairBundle a.2 l p.1 p.2 w
    (a.1 || m, s)) a) (false, s)

/-- R27: the results of a link's test. -/
def closeLink (s : State) (l : Nat) : State :=
  let good := ((List.range (linkPairs l)).filter (pairTested s l)).length
  let fused := ((linkBundles l).filter (fun p => (bondGet s l p.1 p.2).replaced != 0x7F && !(bondGet s l p.1 p.2).field)).length
  setFs s [(HP_BL_STS_GOOD l, good), (HP_BL_STS_FAILED_NOW l, 0), (HP_BL_STS_FUSED l, fused), (HP_BL_STS_USABLE l, b2n (decide (linkMin l ≤ good)))]

/-- R43: a die in TESTING whose link has been tested: DISCOVERING, or NOT_ADMITTED. -/
def dieTested (s : State) (n : Nat) : State :=
  if getF s (CH_DIE_STS_STATE n) ≠ 1 then s
  else if getF s (HP_BL_STS_USABLE n) = 1 then setF s (CH_DIE_STS_STATE n) 2
  else
    let s := setFs s [(CH_DIE_STS_STATE n, 0), (CH_DIE_STS_REFUSE n, 1)]
    let s := if getF s (CH_DIE_CMD_STATUS n) = 1 then setF s (CH_DIE_CMD_STATUS n) 2 else s
    reportCh s 0x0102 n 0x8F0 n (rd s (CH_DIE_STS n)).toNat

/-- R27, R31: what an unusable link means for the die it serves, at a cold start. -/
def coldTested (s : State) : State :=
  let s := (List.range 4).foldl dieTested s
  let s := (List.range 8).foldl (fun s k =>
    if getF s (HP_BL_STS_USABLE (8 + k)) = 1 ∧ getF s (HP_BL_STS_USABLE (16 + k)) = 1 then s
    else reportPkg s 0x0103 0 0x010 (5 + k) (rd s (HP_BL_STS (8 + k))).toNat) s
  if getF s (HP_BL_STS_USABLE 24) = 1 then s else reportPkg s 0x0107 0 0x010 24 (rd s (HP_BL_STS 24)).toNat

/-- A test ends. -/
def finishTest (s : State) (id : Nat) : State :=
  let s := hubMod s (fun h => { h with tests := h.tests.filter (fun t => t.id != id) })
  let s := (testLinks id).foldl closeLink s
  if id < 4 then dieTested s id else if id = 4 then coldTested s else s

/-- The phase of a test in progress; 0 none. -/
def testPhase (s : State) (id : Nat) : Nat := ((s.hub.tests.find? (fun t => t.id == id)).map (·.phase)).getD 0
def setPhase (s : State) (id ph : Nat) : State :=
  hubMod s (fun h => { h with tests := h.tests.map (fun t => if t.id = id then { t with phase := ph } else t) })

/-- R25: INTERCONNECT_TEST: phase 1 of test `id` ends; `bad` are the wires that failed. A bundle repaired is tested again from phase 1. A
re-attach tests phase 1 only (R48). -/
def execInterconnectTest (id : Fin 6) (bad : List WireRef) (s : State) : Out :=
  .next (if testPhase s id ≠ 1 then s
    else
      let (made, s) := repairAll s id bad
      if made then s else if id.val = 5 then finishTest s 5 else setPhase s id 2)

/-- R25: PRBS31_COMPLETE: phase 2 of test `id` ends; `errs` are the wires with errors and how many. -/
def execPrbs31Complete (id : Fin 6) (errs : List (WireRef × Nat)) (s : State) : Out :=
  .next (if testPhase s id ≠ 2 then s
    else
      let bad := errs.filter (fun e => e.2 != 0)
      let s := (testLinks id).foldl (fun s l => (linkBundles l).foldl (fun s p =>
        let worst := (bad.filter (fun e => e.1.link.val == l && e.1.pair.val == p.1 && b2n e.1.dir == p.2)).foldl (fun m e => max m e.2) 0
        bondMod s l p.1 p.2 (fun b => { b with prbs := min worst (2 ^ 32 - 1) })) s) s
      let (made, s) := repairAll s id (bad.map (·.1))
      if made then setPhase s id 1 else finishTest s id)

end Sys2Proof.Machine
end

