-- ==== Sys2Proof/Machine/Flash.lean ====
section
/-! DEFINITION. The SPI NOR flash, the boot record, the firmware manifest and its verification (R378-R383). -/
namespace Sys2Proof.Machine

def flashMod (s : State) (f : FlashX → FlashX) : State := bootMod s (fun b => { b with flash := f b.flash })

/-! ## The slots (Table 13-1) -/

/-- The size of a slot: 32 MiB. -/
def slotSize : Nat := 0x2000000

/-- An erased byte of flash. -/
def erased (_ : Nat) : Byte := 0xFF

/-- The bytes of slot B (true) or A. -/
def slotTab (s : State) (b : Bool) : Tab Byte := if b then s.boot.flash.slotB else s.boot.flash.slotA

/-- `n` bytes of a slot from an offset. -/
def slotBytes (s : State) (b : Bool) (off n : Nat) : List Byte := (List.range n).map (fun i => tabGet erased (slotTab s b) (off + i))

/-- A little-endian number in a slot. -/
def slotLE (s : State) (b : Bool) (off n : Nat) : Nat := leVal (slotBytes s b off n)

/-- Write bytes of a slot from an offset. -/
def slotPut (t : Tab Byte) (off : Nat) : List Byte → Tab Byte
  | [] => t
  | v :: l => slotPut (tabSet erased t off v) (off + 1) l

/-! ## The boot record (R380) -/

/-- R380: the copy in force, and whether it is copy 1. -/
def bootRec (s : State) : Option (BootRec × Bool) :=
  match s.boot.flash.rec0, s.boot.flash.rec1 with
  | none, none => none
  | some a, none => some (a, false)
  | none, some b => some (b, true)
  | some a, some b => if a.seq < b.seq then some (b, true) else some (a, false)

/-- The record in force, or an empty one. -/
def bRec (s : State) : BootRec := ((bootRec s).map (·.1)).getD ⟨0, 0, 0, 0, 0, 0⟩

/-- What HP_BOOT_STS, HP_FW_STS and HP_FW_VER show of the record. -/
def showRec (s : State) : State :=
  let r := bRec s
  setFs s [(HP_BOOT_STS_FAILS, r.fails), (HP_FW_STS_B_STATE, r.bState), (HP_FW_VER_A, r.verA), (HP_FW_VER_B, if r.bState = 0 then 0 else r.verB)]

/-- R380: an update writes the other copy, with SEQ increased by 1. -/
def putRec (s : State) (f : BootRec → BootRec) : State :=
  let r := f (bRec s)
  let r := { r with seq := (bRec s).seq + 1 }
  let one := match bootRec s with
    | some x => !x.2
    | none => false
  showRec (flashMod s (fun x => if one then { x with rec1 := some r } else { x with rec0 := some r }))

def bState (s : State) : Nat := (bRec s).bState

/-- Whether the set in force is the one in slot B: a trial, or a committed set that is being copied. -/
def forceB (s : State) : Bool := bState s == 4 || bState s == 5

/-! ## Components (R381) -/

/-- Table 13-4: a field of entry `j` of the manifest in a slot. -/
def entF (s : State) (b : Bool) (j off n : Nat) : Nat := slotLE s b (64 + 64 * j + off) n

/-- Table 13-3: the largest size of a component, and its rollback group. -/
def compMax (j : Nat) : Nat := if j = 0 then 0x800000 else if j = 1 then 0x100000 else if j < 14 then 0x80000 else 0x10000
def compGroup (j : Nat) : Nat := if j < 2 then 0 else if j < 10 then 1 else if j < 14 then 2 else 3

/-- A component runs: what HP_FW_COMP shows of it. -/
def loadComp (s : State) (j : Nat) (b ready skip : Bool) : State :=
  if skip then setFs s [(HP_FW_COMP_SKIPPED j, 1), (HP_FW_COMP_READY j, 0)]
  else setFs s [(HP_FW_COMP_VER j, entF s b j 4 4), (HP_FW_COMP_SVN j, entF s b j 1 1), (HP_FW_COMP_SLOT j, b2n b), (HP_FW_COMP_READY j, b2n ready),
    (HP_FW_COMP_SKIPPED j, 0)]

/-! ## Verification (R382, Table 13-5) -/

/-- Table 13-4: the bit of a stepping code in the stepping mask. -/
def stepBit (hub : Bool) (code : Nat) : Option Nat :=
  if hub then (if code = 0x11 then some 2 else if code = 0x20 then some 3 else none)
  else (if code = 0x10 then some 0 else if code = 0x20 then some 1 else none)

/-- Check 4 for a component: the stepping of the die it runs on; engines and the interposer's own have none. -/
def steppingOk (s : State) (b : Bool) (j : Nat) : Bool :=
  let ok (hub : Bool) (i : Nat) : Bool :=
    match stepBit hub (s.hub.fuses.steps.getD i 0) with
    | some k => bitN (entF s b j 2 1) k == 1
    | none => false
  if j < 2 ∨ j = 14 then ok true 0 else if 10 ≤ j then ok false (j - 9) else true

/-- Check 7: where the components lie. -/
def rangesOk (s : State) (b : Bool) : Bool :=
  let r := (List.range 15).map (fun j => (entF s b j 8 4, entF s b j 12 4))
  (List.range 15).all (fun j =>
    let x := r.getD j (0, 0)
    decide (x.1 % 4096 = 0 ∧ x.1 + x.2 ≤ slotSize ∧ x.2 ≤ compMax j)
    && (List.range j).all (fun i => let y := r.getD i (0, 0); decide (x.1 + x.2 ≤ y.1 ∨ y.1 + y.2 ≤ x.1)))

/-- R382: the reason of the first check of Table 13-5 that a set fails. `above` asks for check 6. -/
def verifySet (s : State) (b above : Bool) (io : FlashIO) : Option Nat :=
  let all := List.range 15
  if io = .readErr ∨ slotLE s b 0 4 ≠ 0x4D464E54 ∨ slotLE s b 4 1 ≠ 1 ∨ slotLE s b 5 1 ≠ 15 ∨ all.any (fun j => decide (64 < entF s b j 1 1)) then some 11
  else if !Config.pssVerify 0 (slotBytes s b 0 1024) (slotLE s b 1024 384) then some 1
  else if slotLE s b 8 4 ≠ 0x4D585531 then some 2
  else if !all.all (steppingOk s b) then some 3
  else if all.any (fun j => decide (entF s b j 1 1 < s.hub.fuses.svn.getD (compGroup j) 0)) then some 4
  else if above ∧ slotLE s b 12 4 ≤ (bRec s).verA then some 5
  else if !rangesOk s b then some 7
  else if !all.all (fun j => sha256 (slotBytes s b (entF s b j 8 4) (entF s b j 12 4)) == slotBytes s b (64 + 64 * j + 16) 32) then some 6
  else none

/-- R383: the counters are raised to the largest SVN of each group's components. -/
def raiseFuses (s : State) (b : Bool) : State :=
  let g (k : Nat) : Nat := ((List.range 15).filter (fun j => compGroup j == k)).foldl (fun m j => max m (entF s b j 1 1)) (s.hub.fuses.svn.getD k 0)
  hubMod s (fun h => { h with fuses := { h.fuses with svn := (List.range 4).map g } })

end Sys2Proof.Machine
end

