-- ==== Sys2Proof/Machine/Die.lean ====
section
/-! DEFINITION. Discovery, compute dies lost and rejoining, clock loss, hub loss and re-attach (R19, R28-R48). -/
namespace Sys2Proof.Machine

/-! ## Identity capsules (R28-R31) -/

/-- Word `w` of a capsule. -/
def capWord (c : BitVec 512) (w : Nat) : Nat := bitsN c.toNat (64 * w + 63) (64 * w)
/-- Table 1-5: kind and position of the die at an index of HP_CAPSULE. -/
def capKind (d : Nat) : Nat × Nat := if d < 4 then (1, d) else if d = 4 then (2, 0) else if d < 13 then (3, d - 5) else (4, 0)
/-- The reset values, in HP_CAPSULE, of a die's words. -/
def putCapsule (s : State) (d : Nat) (c : BitVec 512) : State :=
  (List.range 8).foldl (fun s w => wr s (HP_CAPSULE d w) (BitVec.ofNat 64 (capWord c w))) s

/-- R30, R43: the first check that a capsule fails, as CH_DIE_STS.REFUSE codes it. The two copies of a compute die are compared; a rejoining die
is compared with its record. -/
def capRefusal (s : State) (d : Nat) (c copy : BitVec 512) (crcOk : Bool) : Option Nat :=
  let step := bitsN (capWord c 0) 15 8
  if !crcOk then some 3
  else if capWord c 0 / 2 ^ 32 ≠ 0x4D585531 then some 4
  else if bitsN (capWord c 0) 31 24 ≠ (capKind d).1 ∨ bitsN (capWord c 0) 23 16 ≠ (capKind d).2 then some 5
  else if capWord c 1 ≠ s.hub.fuses.uid then some 6
  else if d < 4 ∧ c ≠ copy then some 7
  else if d < 4 ∧ step < bitsOf (rd s (HP_CAPSULE 4 3)) 15 8 then some 8
  else match (if d < 4 ∧ getF s (CH_DIE_STS_REJOIN d) = 1 then (dieGet s d).capRec else none) with
    | some r => if r.1 / 2 ^ 8 % 2 ^ 24 = capWord c 0 / 2 ^ 8 % 2 ^ 24 ∧ r.2 = capWord c 1 then none else some 9
    | none => none

/-- R43: a die in DISCOVERING that fails a check, or does not answer. -/
def dieRefused (s : State) (n reason : Nat) : State :=
  let s := setFs s [(CH_DIE_STS_STATE n, 0), (CH_DIE_STS_REFUSE n, reason)]
  let s := if getF s (CH_DIE_CMD_STATUS n) = 1 then setF s (CH_DIE_CMD_STATUS n) 2 else s
  reportCh s 0x0102 n 0x8F0 n (rd s (CH_DIE_STS n)).toNat

/-- R48: an attach record is made, or made again. -/
def attach (s : State) (n : Nat) : State := addF s (CD_HUB_STS_ATTACH_GEN n) 1

/-- R43: a die in DISCOVERING that passes: ACTIVE at a cold start, REJOINED in a rejoin. A rejoined die's memory is initialised, its interposer
ropes return home (R249), and it is sent its microcode from the set in force (R396). -/
def dieAdmitted (s : State) (n : Nat) (c : BitVec 512) : State :=
  let re := getF s (CH_DIE_STS_REJOIN n) = 1
  let s := dieMod s n (fun d => { d with capRec := some (d.capRec.getD (capWord c 0, capWord c 1)), alive := s.hubTime })
  let s := setFs s [(CH_DIE_STS_STATE n, if re then 5 else 3), (CH_DIE_STS_REJOIN n, 0)]
  let s := effectiveCaps (attach ((testLinks n).foldl assignRoles s) n)
  if re then
    let s := if getF s (CH_DIE_CMD_STATUS n) = 1 then setF s (CH_DIE_CMD_STATUS n) 2 else s
    loadComp (unparkDie (trainHbm s n) n) (10 + n) (forceB s) true false
  else s

/-- R29-R36: IDENTITY_CAPSULE: the capsule that die `d` answers with over its management bundle pair, and for a compute die the copy that came
over the interposer. A rejoin waits while a hitch is in progress, for its microcode (R396). -/
def execIdentityCapsule (d : Fin 14) (c : BitVec 512) (copy : BitVec 512) (s : State) : Out :=
  .next (if s.hub.down ∨ pkgSafe s ∨ (d.val < 4 ∧ (getF s (CH_DIE_STS_STATE d) ≠ 2 ∨ s.boot.hitch.isSome)) then s
    else
      let crc := crc32c (leBytes 56 c.toNat) == capWord c 7 % 2 ^ 32
      withCheck s 6 d crc (fun ok s =>
        let s := putCapsule s d c
        match capRefusal s d c copy ok with
        | some r => if d.val < 4 then dieRefused s d r else reportPkg s 0x0103 0 0x010 d (capWord c 0)
        | none =>
          if d.val < 4 then dieAdmitted s d c
          else if d.val = 4 then effectiveCaps s
          else if d.val < 13 then
            let k := d.val - 5
            if getF s (HP_BL_STS_USABLE (8 + k)) = 1 ∧ getF s (HP_BL_STS_USABLE (16 + k)) = 1 then
              assignRoles (assignRoles (setF s HP_CAP_EFF_OE_ADMITTED (putN (getF s HP_CAP_EFF_OE_ADMITTED) k 1 1)) (8 + k)) (16 + k)
            else s
          else assignRoles s 24))

/-- R29, R31: DISCOVERY_TIMEOUT: die `d` has not answered within 10 ms. -/
def execDiscoveryTimeout (d : Fin 14) (s : State) : Out :=
  .next (if s.hub.down ∨ pkgSafe s ∨ d.val = 4 ∨ (d.val < 4 ∧ getF s (CH_DIE_STS_STATE d) ≠ 2) then s
    else
      let s := putCapsule s d 0
      if d.val < 4 then dieRefused s d 2 else reportPkg s 0x0103 0 0x010 d 0)

/-! ## Reset and retry of a compute die (R42-R44) -/

/-- R44: carry out the command in CH_DIE_CMD, whose STATUS is 1: it completes when the die is REJOINED, or not admitted. -/
def dieCmd (s : State) (n : Nat) : State :=
  let st := getF s (CH_DIE_STS_STATE n)
  match getF s (CH_DIE_CMD_OP n) with
  | 1 => if st = 3 ∨ st = 5 then dieLost s n 1 else setF s (CH_DIE_CMD_STATUS n) 3
  | 2 =>
    if st = 0 then startTest (setFs s [(CH_DIE_STS_STATE n, 1), (CH_DIE_STS_REJOIN n, 1)]) n
    else setF s (CH_DIE_CMD_STATUS n) 3
  | _ => setF s (CH_DIE_CMD_STATUS n) 3

/-- R43: DIE_RESET_RELEASE: the reset of a LOST die has been held for 10 µs. -/
def execDieResetRelease (n : Die) (s : State) : Out :=
  .next (if getF s (CH_DIE_STS_STATE n) = 4 ∧ !pkgSafe s then
      startTest (setFs s [(CH_DIE_STS_STATE n, 1), (CH_DIE_STS_REJOIN n, 1)]) n
    else s)

/-- R42, R47: KEEPALIVE: a keepalive frame arrives at the hub from die `n`, or at die `n` from the hub. -/
def execKeepalive (n : Die) (s : State) : Out := .next (dieMod s n (fun d => { d with alive := s.hubTime }))

/-- R42: KEEPALIVE_TIMEOUT: no keepalive from die `n` for 10 µs. -/
def execKeepaliveTimeout (n : Die) (s : State) : Out :=
  .next (if dieUp s n ∧ !s.hub.down ∧ !(dieGet s n).hubAbsent then dieLost s n 2 else s)

/-! ## Hub loss (R47) -/

/-- R47: a compute die declares the hub absent: its promises are at risk (R171), stopped plies of pre-emption requests resume at
re-attach (R213). -/
def declareAbsent (s : State) (n : Nat) : State :=
  if (dieGet s n).hubAbsent ∨ !dieUp s n then s
  else
    let s := dieMod s n (fun d => { d with hubAbsent := true, absentAt := s.hubTime })
    riskWhere n 4 (fun x => !x.released) (flag s (CD_HUB_STS_ABSENT n)) (ledAll s n)

/-- R47: HUB_RESET_NOTICE. -/
def execHubResetNotice (n : Die) (s : State) : Out := .next (declareAbsent s n)
/-- R47: HUB_KEEPALIVE_TIMEOUT: no keepalive from the hub for 10 µs. -/
def execHubKeepaliveTimeout (n : Die) (s : State) : Out := .next (declareAbsent s n)

/-- R47, R143: HUB_WAIT_EXPIRED: a request of die `n` that needs the hub has waited CD_HUB_WAIT_LIM: a DMA engine's, which parks as
HUB_ABSENT, or the span-knot instruction of a ply, which traps. -/
def execHubWaitExpired (n : Die) (w : HubWait) (s : State) : Out :=
  .next (if !(dieGet s n).hubAbsent then s
    else match w with
      | .engine e =>
        (match engGet s n e with
         | some x =>
           if getF s (CD_DMA_ENG_STATE n e) ≠ 1 then s
           else
             let va := (x.miss.map (·.1)).getD 0
             let dst := (x.miss.map (·.2)).getD false
             let s := parkEng (flag s (CD_HUB_STS_WAIT_EXP n)) n e 9 0 va (getF s (CD_DMA_ENG_POS n e)) 0 dst x.nextWait
             reportCh s 0x0120 n 0x010 ((x.d.src.map (·.1)).getD 0) (rd s (CD_HUB_STS n)).toNat
         | none => s)
      | .ply b q =>
        let p : PlyId := ⟨n, b, q⟩
        (match (plyGet s n b q).held with
         | some h =>
           let s := raiseTrap (flag s (CD_HUB_STS_WAIT_EXP n)) p 0x14 (getPc s p) h
           reportCh (plyMod s n b q (fun x => { x with held := none })) 0x0120 n 0x010 b (rd s (CD_HUB_STS n)).toNat
         | none => s))

/-! ## Clocks (R19, R46) -/

/-- Table 1-13: an interposer rope of a compute die has lost its clock. -/
def ipClockLost (s : State) (d : Nat) : State :=
  let n := (d - 24) / 2
  let s := reportRope (ropeOff s d 1) 0x0111 d (d - 24) (rd s (OE_ROPE_STS d)).toNat false
  if ropeState s (24 + 2 * n) = 1 ∧ ropeState s (25 + 2 * n) = 1 then reportCh s 0x0112 n 0x010 n (rd s HP_CLK_LOSS).toNat else s

/-- R47: the hub is lost. -/
def hubLost (s : State) : State :=
  hubMod (snapAbandon s) (fun h => { h with down := true, fc := { h.fc with pausedAt := some (h.fc.pausedAt.getD s.hubTime) } })

/-- Table 1-13: the reaction to the loss of domain `d`. -/
def clockReaction (s : State) (d : Nat) : State :=
  let clk := (rd s HP_CLK_LOSS).toNat
  if d < 24 then reportRope (ropeOff s d 1) 0x0110 d (d + 1) (rd s (OE_ROPE_STS d)).toNat false
  else if d < 32 then ipClockLost s d
  else if d < 34 then reportRope (ropeOff s d 1) 0x0113 d (d - 24) (rd s (OE_ROPE_STS d)).toNat true
  else if d < 42 then reportCh s 0x0114 ((d - 34) / 2) 0x060 (d - 34) clk
  else if d < 46 then
    let s := (List.range 16).foldl (fun s i => setF s (CD_SPD_MON_STALE (d - 42) i) 1) s
    reportCh (epochLoss (setF s (CD_EPOCH_STALE (d - 42)) 1) (d - 42)) 0x0115 (d - 42) 0x040 (d - 42) clk
  else if d < 54 then
    let k := d - 46
    let s := if getF s (OE_STS_STATE k) = 3 then setF s (OE_STS_STATE k) 4 else s
    report s ⟨0x0116, 2 ^ (k / 2), 5, 16 * k, k, (rd s (OE_STS k)).toNat, 0⟩
  else if d = 54 then reportPkg (linkDown s) 0x0117 0 0x010 54 clk
  else if d = 55 then hubLost s
  else if d = 56 then reportPkg s 0x0118 0 0x010 56 clk
  else if d = 57 then reportPkg (setFs s [(GS_STS_TRAINED, 0), (GS_STS_X8, 0)]) 0x0119 0 0x010 57 clk
  else if d = 58 then reportPkg s 0x011A 0 0x010 58 clk
  else if d = 59 then reportPkg s 0x011B 0 0x010 59 clk
  else report s ⟨0x011C, 0xF, 0, 0x010, 63, clk, 0⟩

/-- R258: a rope or engine that loses its clock takes the AOR sessions over it with it. -/
def clockAor (s : State) (d : Nat) : State :=
  if 24 ≤ d ∧ d < 32 then
    let rho := d - 24
    aorEvents s 2 (fun a => a.rx == rho || (List.range a.sources).any (fun j => 2 * a.srcDie j + 1 == rho))
  else s

/-- R19, R46: CLOCK_LOSS of domain `d` of Table 1-2; 63 is the reference clock. -/
def execClockLoss (d : Fin 64) (s : State) : Out :=
  .next (if (60 ≤ d.val ∧ d.val < 63) ∨ clkLost s d then s
    else
      let s := if d.val = 63 then flag s HP_CLK_LOSS_REFCLK else flagAt s HP_CLK_LOSS_DOMAIN d
      let s := hubMod s (fun h => { h with noClk := h.noClk ++ [(d.val, s.hubTime)] })
      clockReaction (clockAor s d) d)

/-- R46: CLOCK_RETURN: the domain resumes: an epoch counter counts on (R155), an engine leaves OPEN_LOOP (R243). With the
clock of the management complex the hub returns, and tests its links (R48). The record remains. -/
def execClockReturn (d : Fin 64) (s : State) : Out :=
  .next (match s.hub.noClk.find? (fun x => x.1 == d.val) with
    | none => s
    | some (_, t) =>
      let s := hubMod s (fun h => { h with noClk := h.noClk.filter (fun x => x.1 != d.val) })
      let s := if 42 ≤ d.val ∧ d.val < 46 then setF s (CD_EPOCH_STALE (d.val - 42)) 0 else s
      let s := if d.val = 55 then startTest s 5 else s
      if 46 ≤ d.val ∧ d.val < 54 ∧ getF s (OE_STS_STATE (d.val - 46)) = 4 then
        setFs s [(OE_STS_STATE (d.val - 46), 3), (OE_STS_LAST_OL_US (d.val - 46), min ((s.hubTime - t) / 1000) 65535)]
      else s)

/-! ## Re-attach (R48, R355) -/

/-- R48, step 6: the caches of a channel start empty, but for the translations that pin sets lock. -/
def coldCaches (s : State) (n : Nat) : State :=
  dieMod s n (fun d => { d with dieCache := d.dieCache.filter (fun e => e.locks != 0), hubCache := d.hubCache.filter (fun e => e.locks != 0), walkCache := [] })

/-- R143: the span knots after a hub reset: the SPAN of the mirrors where that span is formed, the highest GEN plus 1, disarmed; every waiter
gets a reset notice. -/
def restoreKnot (s : State) (i : Nat) : State :=
  let ms := (List.range 4).map (fun n => tabGet (fun _ => 0) (dieGet s n).skMirror i)
  let gen := ms.foldl (fun m v => max m (v / 4)) 0
  let span := ((ms.filter (· ≠ 0)).headD 0) % 4
  let span := if span ≠ 0 ∧ (spanMembers span).all (fun n => spanOf s n == span) then span else 0
  if ms.all (· == 0) then s
  else setFs (wr s (HP_SKNOT i) 0) [(HP_SKNOT_SPAN i, span), (HP_SKNOT_GEN i, gen + 1)]

/-- R143: the waiting plies of a die on span knots wake with status 1. -/
def wakeSpanWaits (s : State) (n : Nat) : State :=
  (List.range 1536).foldl (fun s k =>
    let p : PlyId := ⟨Fin.ofNat 4 n, Fin.ofNat 384 (k / 4), Fin.ofNat 4 k⟩
    match knotWait s p.n p.b p.q with
    | some (h, g) => if isSpanKnot h then wakeKnot s p 1 g else s
    | none => s) s

/-- R213: what a hub absence leaves of pins in progress and pre-emption requests: undone, with a record of kind ABORTED. -/
def absenceEnds (s : State) (n : Nat) : State :=
  (List.range 64).foldl (fun s k =>
    let st := getF s (CH_PRE_REQ_STATE n k)
    match preGet s n k with
    | some x =>
      if preLive st then
        let s := pushRec (idleStopped s x.die) n (preRec s n k x (if st = 6 then 4 else 3) 12 x.area) .none
        prePut (wr s (CH_PRE_REQ n k) 0) n k none
      else s
    | none => s) s

/-- R213: a pin or unpin in progress when the hub went away: a pin is undone from the slot tables, an unpin is dropped; a record with EVENT 5
and kind ABORTED. -/
def absencePins (s : State) (n : Nat) : State :=
  let s' := (dieGet s n).pins.foldl (fun s e =>
    match e.2 with
    | some p =>
      if p.complete ∧ !p.unpin then s
      else
        let s := if p.complete then pinPut s n e.1 (some { p with unpin := false }) else releasePin s n e.1
        pushRec s n (pinFaultRec s n 12 0 0 0 0) .none
    | none => s) s
  if (dieGet s n).admBusy then popAdm s' n else s'

/-- R355: the reports that a returning die brings: a fence of its own, its local records, those it had no room for. -/
def localReports (s : State) (n : Nat) : List Report :=
  let d := dieGet s n
  (if d.localFence then [⟨0x0906, 2 ^ n, n + 1, 0x010, n, 0, 8⟩] else [])
  ++ d.localFaults.map (fun r => { r.1 with flags := r.1.flags ||| 2 })
  ++ (if d.localLost = 0 then [] else [⟨0x0907, 2 ^ n, n + 1, 0x010, n, d.localLost, 0⟩])
  ++ (if d.grave then [⟨0x0903, 0, n + 1, 0x010, n, 0, 0⟩] else [])

/-- R355: the D conditions of Table 11-4 that are still in force, with REATTACH. -/
def standingReports (s : State) : List Report :=
  let clk := (rd s HP_CLK_LOSS).toNat
  (s.hub.noClk.filterMap (fun x =>
    let d := x.1
    if 24 ≤ d ∧ d < 32 then some ⟨0x0111, 2 ^ ((d - 24) / 2), 6, 0x030 + (d - 24), d - 24, clk, 8⟩
    else if 42 ≤ d ∧ d < 46 then some ⟨0x0115, 2 ^ (d - 42), d - 41, 0x040, d - 42, clk, 8⟩
    else if 46 ≤ d ∧ d < 54 then some ⟨0x0116, 2 ^ ((d - 46) / 2), 5, 16 * (d - 46), d - 46, clk, 8⟩
    else if d = 54 then some ⟨0x0117, 0, 0, 0x010, 54, clk, 8⟩
    else if d = 63 then some ⟨0x011C, 0xF, 0, 0x010, 63, clk, 8⟩
    else none))
  ++ ((List.range 8).filter (fun k => getF s (OE_STS_STATE k) == 6)).map (fun k => ⟨0x0106, 2 ^ (k / 2), 5, 16 * k, k, (rd s (OE_STS k)).toNat, 8⟩)
  ++ ((List.range 1536).filter (fun k => inboxStuck s (k / 384) (k % 384))).map (fun k =>
    ⟨0x0301, 2 ^ (k / 384), k / 384 + 1, 0x400 + k % 384, k % 384, (rd s (CD_ME_STS (k / 384) (k % 384))).toNat, 8⟩)
  ++ (([4, 5, 6, 7] : List Nat).filter (linkFailed s)).map (fun l => ⟨0x0105, 2 ^ (peerDies l).1 + 2 ^ (peerDies l).2, 0, 0x010, l, (rd s (HP_BL_STS l)).toNat, 8⟩)

/-- R48: a die that holds an attach record is attached again; its channel goes on. -/
def reattachDie (s : State) (n : Nat) : State :=
  let d := dieGet s n
  let s := if d.hubAbsent then setF s (CD_HUB_STS_LAST_US n) (min ((s.hubTime - d.absentAt) / 1000) (2 ^ 32 - 1)) else s
  let s := dieMod s n (fun d => { d with hubAbsent := false, localFence := false, localFaults := [], localLost := 0, grave := false, alive := s.hubTime })
  coldCaches (attach s n) n

/-- R48: REATTACH: the hub, back with its clock, attaches the dies again. A die without an attach record takes the rejoin path, and its span is
DEGRADED. After an absence the span knots are restored (R143), work in progress is undone (R213), and the collectors take the local records and the
standing conditions, in order (R355). `resets` says that the absence was a hub reset. -/
def reattach (s : State) (resets : Bool) : State :=
  let dies := (List.range 4).filter (fun n => dieUp s n)
  let (have_, not_) := dies.partition (fun n => getF s (CD_HUB_STS_ATTACH_GEN n) != 0)
  let absent := have_.filter (fun n => (dieGet s n).hubAbsent)
  let fences := have_.map (localReports s)
  let first := (fences.map (fun l => l.filter (fun r => r.cause == 0x0906))).flatten
  let second := (fences.map (fun l => l.filter (fun r => r.cause != 0x0906))).flatten
  let s := hubMod s (fun h => { h with down := false, fc := { h.fc with pausedAt := none, opens := match h.fc.pausedAt with
    | some t => h.fc.opens.map (fun o => (o.1, { o.2 with due := o.2.due + (s.hubTime - t) }))
    | none => h.fc.opens } })
  let s := not_.foldl (fun s n => dieLost s n 2) s
  let s := have_.foldl reattachDie s
  let s := absent.foldl (fun s n => absencePins (absenceEnds s n) n) s
  let s := if resets then absent.foldl wakeSpanWaits ((List.range 1024).foldl restoreKnot s) else s
  let add := first ++ second ++ (if resets then standingReports s else [])
  { s with reports := s.reports ++ add }

end Sys2Proof.Machine
end

