-- ==== Sys2Proof/Machine/Guest.lean ====
section
/-! DEFINITION. The guest site: training, the firewall, its transactions (R37-R41). -/
namespace Sys2Proof.Machine

/-- The 16-bit source tag that the firewall writes. -/
def guestTag (s : State) : Nat := bitsOf (rd s GS_TAG) 15 0

/-- R40, Table 1-13, R47: whether the UCIe link may be up. -/
def guestOpen (s : State) : Bool :=
  getF s GS_CTL_EN == 1 && getF s HP_CAP_EFF_CERT_GUEST == 1 && getF s GS_STS_FENCED == 0 && !clkLost s 57 && !s.hub.down && !pkgSafe s

/-- R37: GUEST_LINK_TRAINING: a die answers (`ok`), at ×8 if `x8`, or none does. -/
def execGuestLinkTraining (ok : Bool) (x8 : Bool) (s : State) : Out :=
  .next (if !guestOpen s ∨ getF s GS_STS_TRAINED = 1 then s
    else if ok then setFs s [(GS_STS_TRAINED, 1), (GS_STS_X8, b2n (x8 || getF s GS_CTL_WIDTH8 == 1))]
    else reportPkg s 0x0109 8 0 0 (rd s GS_STS).toNat)

/-- R39: whether one window allows an access to `[pa, pa + len)`. -/
def windowAllows (s : State) (i pa len : Nat) (r w : Bool) : Bool :=
  let base := getF s (GS_WIN_BASE i) * 0x100000
  getF s (GS_WIN_EN i) == 1 && decide (base ≤ pa ∧ pa + len ≤ base + getF s (GS_WIN_SIZE i) * 0x100000)
  && (!r || getF s (GS_WIN_R i) == 1) && (!w || getF s (GS_WIN_W i) == 1)

/-- R39: whether a range lies inside HBM, a bed, a brick store or host memory. -/
def inMemory (pa len : Nat) : Bool := (List.range (len / 64)).all (fun i => populated (pa + 64 * i))

/-- R39: the address check. -/
def guestAllowed (s : State) (pa len : Nat) (r w : Bool) : Bool :=
  (List.range 16).any (fun i => windowAllows s i pa len r w) && inMemory pa len

def guestAnswer (s : State) (op tag status : Nat) (data : List Byte) : State :=
  hubMod s (fun h => { h with guestOut := h.guestOut ++ [⟨op, tag, status, data⟩] })

/-- R39, R40: a denial is answered, counted and recorded; more than VIOL_LIM of them within 1 ms fence the guest site. -/
def guestDeny (s : State) (op tag : Nat) : State :=
  let s := guestAnswer s op tag 1 []
  let s := satF (flag s GS_STS_VIOL) GS_STS_VIOL_CNT 1
  let s := reportPkg s 0x0108 8 0 (guestTag s) (rd s GS_STS).toNat
  let recent := (s.hub.denials.filter (fun t => decide (s.hubTime < t + 1000000))) ++ [s.hubTime]
  let s := hubMod s (fun h => { h with denials := recent })
  if getF s GS_CTL_VIOL_LIM < recent.length then fenceGuest s else s

/-- R39: a limit of 0 allows no traffic of a kind: it is held back. -/
def guestHeld (s : State) (rd_ wr_ : Bool) : Bool :=
  getF s GS_RATE_REQS == 0 || (rd_ && getF s GS_RATE_RD_LINES == 0) || (wr_ && getF s GS_RATE_WR_LINES == 0)

/-- Whether the guest's link takes transactions. -/
def guestUp (s : State) : Bool := guestOpen s && getF s GS_STS_TRAINED == 1

/-- The address of a transaction: 52 bits, aligned to 64 bytes. -/
def guestPa (pa : Nat) : Nat := pa % 2 ^ 52 / 64 * 64

/-- R39: GUEST_READ of `lines` + 1 lines with a tag. -/
def execGuestRead (tag : Fin 4096) (lines : Fin 64) (pa : Nat) (s : State) : Out :=
  .next (
    let len := 64 * (lines.val + 1)
    let pa := guestPa pa
    if !guestUp s ∨ guestHeld s true false then s
    else if !guestAllowed s pa len true false then guestDeny s 3 tag
    else match devRead s 4 pa len with
      | .wait s => s
      | .ok d bad s => guestAnswer s 3 tag (if bad then 3 else 0) d)

/-- R39: GUEST_WRITE of whole lines. -/
def execGuestWrite (tag : Fin 4096) (pa : Nat) (data : List Byte) (s : State) : Out :=
  .next (
    let pa := guestPa pa
    let len := min (data.length / 64 * 64) 4096
    if !guestUp s ∨ guestHeld s false true ∨ len = 0 then s
    else if !guestAllowed s pa len false true then guestDeny s 4 tag
    else if !memReady s pa then s
    else guestAnswer (devWrite s 4 pa (data.take len) false) 4 tag 0 [])

/-- R39: GUEST_ATOMIC_ADD: the first 64-bit word of a line is added to; the completion returns the line as it was (assumption 31). -/
def execGuestAtomicAdd (tag : Fin 4096) (pa : Nat) (v : Word) (s : State) : Out :=
  .next (
    let pa := guestPa pa
    if !guestUp s ∨ guestHeld s true true then s
    else if !guestAllowed s pa 64 true true then guestDeny s 3 tag
    else match devRead s 4 pa 64 with
      | .wait s => s
      | .ok d bad s =>
        if bad then guestAnswer s 3 tag 3 d
        else guestAnswer (devWrite s 4 pa (leBytes 8 (leVal (d.take 8) + v.toNat) ++ d.drop 8) false) 3 tag 0 d)

end Sys2Proof.Machine
end

