-- ==== Sys2Proof/Machine/Keystone.lean ====
section
/-! DEFINITION. The keystone: metering, attribution, link, mailbox, signed readings, audit log, calibration and its own firmware
(R358-R377). -/
namespace Sys2Proof.Machine

def ksMod (s : State) (f : KsX → KsX) : State := { s with ks := f s.ks }

/-- Whether the hub answers on the keystone link: powered, with its clock, and the link domain has its clock. -/
def ksHubUp (s : State) : Bool := s.boot.pwrok && !s.hub.down && !clkLost s 56

/-- R365: a frame leaves the keystone, when the link is up. -/
def ksSend (s : State) (f : KsFrame) : State :=
  if s.ks.link then ksMod s (fun k => { k with frames := k.frames ++ [f] }) else s

/-! ## Audit log (R371, R374) -/

/-- R371: whether a kind is a seal kind. -/
def sealKind (k : Nat) : Bool := k == 1 || k == 2 || k == 7 || k == 8 || k == 9

/-- Table 12-7: SEQ and KIND of an entry. -/
def auditSeq (e : Nat) : Nat := e % 2 ^ 32
def auditKind (e : Nat) : Nat := bitsN e 39 32

/-- R374: whether the log is full of seals. -/
def ksLogFull (s : State) : Bool :=
  s.ks.log.length == 1024 && s.ks.log.all (fun x => sealKind (auditKind x.2))

/-- R374: where a new entry goes: the next free position, else over the oldest entry that is not a seal. -/
def auditPos (s : State) : Option Nat :=
  if s.ks.log.length < 1024 then some s.ks.log.length
  else ((s.ks.log.filter (fun x => !sealKind (auditKind x.2))).foldl (fun (m : Option (Nat × Nat)) x =>
    let age := (s.ks.acc.audit + 2 ^ 32 - auditSeq x.2) % 2 ^ 32
    match m with
    | some (_, a) => if a < age then some (x.1, age) else m
    | none => some (x.1, age)) none).map (·.1)

/-- Table 12-7: the 32 bytes of an entry. -/
def auditEntry (s : State) (seq kind arg detail : Nat) : Nat :=
  leVal (packLE [(4, seq), (1, kind), (1, arg), (2, 0), (4, s.ks.powerOns), (6, s.ks.ms), (2, 0), (12, detail)])

/-- R371, R374: write an audit entry; in a log full of seals a seal entry only counts. -/
def auditAdd (s : State) (kind arg detail : Nat) : State :=
  let seq := (s.ks.acc.audit + 1) % 2 ^ 32
  match auditPos s with
  | some pos =>
    let e := auditEntry s seq kind arg detail
    let s := ksMod s (fun k => { k with acc := { k.acc with audit := seq }, log := tabSet (fun _ => 0) k.log pos e })
    ksSend s (.audit pos e)
  | none => if sealKind kind then ksMod s (fun k => { k with acc := { k.acc with audit := seq } }) else s

/-! ## Attribution (R359, R363, R364) -/

/-- Table 12-1: base power of a shared entry in W. -/
def baseTable (e : Nat) : Nat := ([0, 0, 0, 0, 20, 40, 60, 10, 30, 10, 15, 0, 0] : List Nat).getD e 0
/-- R367: the base power that the active image holds. -/
def ksBase (s : State) (e : Nat) : Nat := tabGet baseTable s.ks.base e
/-- Table 12-1: rated current of an entry in units of 10 mA. -/
def ratedI (e : Nat) : Nat :=
  ([26000, 26000, 26000, 26000, 8000, 16000, 22000, 1600, 20000, 5000, 8000, 600, 50] : List Nat).getD e 0
/-- Table 12-1: activity category of a shared entry. -/
def ksCat (e : Nat) : Nat := ([0, 0, 0, 0, 0, 1, 2, 2, 3, 3, 4, 0, 0] : List Nat).getD e 0

/-- R363: the part of channel `n` in energy `x` (nJ) of entry `e` over 1 ms; `act` gives the 24 counts, none for equal quarters. -/
def ksPart (s : State) (e x n : Nat) (act : Option (List Nat)) : Rat :=
  if e < 4 then (if e = n then (x : Rat) else 0)
  else if 11 ≤ e then (x : Rat) / 4
  else match act with
    | none => (x : Rat) / 4
    | some l =>
      let a := fun m => l.getD (6 * m + ksCat e) 0
      let sum := a 0 + a 1 + a 2 + a 3
      if sum = 0 then (x : Rat) / 4
      else
        let base := min x (ksBase s e * 1000000)
        (base : Rat) / 4 + (x - base : Nat) * (a n : Rat) / sum

/-- R363: add the part of one channel in one entry: whole nJ are counted, the fraction is carried. -/
def addPart (s : State) (act : Option (List Nat)) (x e n : Nat) (acc : KsAcc) : KsAcc :=
  let v := tabGet (fun _ => (0 : Rat)) acc.frac (4 * e + n) + ksPart s e x n act
  let whole := v.floor.toNat
  { acc with
    energy := listPut acc.energy (n + 1) (acc.energy.getD (n + 1) 0 + whole)
    frac := tabSet (fun _ => (0 : Rat)) acc.frac (4 * e + n) (v - whole) }

/-- R359, R363: count an interval: the package energy, and each channel's parts. -/
def countInterval (s : State) (act : Option (List Nat)) (energy : List Nat) (acc : KsAcc) : KsAcc :=
  let acc := { acc with energy := listPut acc.energy 0 (acc.energy.getD 0 0 + energy.foldl (· + ·) 0) }
  (List.range 52).foldl (fun acc k => addPart s act (energy.getD (k / 4) 0) (k / 4) (k % 4) acc) acc

/-- R364: settle the interval that awaits its activity; without valid counts it falls back. -/
def ksSettle (s : State) (act : Option (List Nat)) : State :=
  match s.ks.waiting with
  | none => s
  | some o => ksMod s (fun k => { k with
      acc := countInterval s act o.energy k.acc
      fallback := (k.fallback + if act.isSome then 0 else 1) % 2 ^ 32
      last := (o.ms, o.stale)
      waiting := none })

/-- R359: the five energies in mJ. -/
def ksMj (s : State) : List Nat := s.ks.acc.energy.map (fun x => x / 1000000 % 2 ^ 64)

/-- KS_STS as the keystone knows it. -/
def ksStatus (s : State) (stale : Bool) (idx : Nat) : Nat :=
  1 + 2 * b2n stale + 4 * b2n s.ks.cal.isSome + 8 * b2n s.ks.badClk + 16 * b2n (s.ks.badSense != []) + 32 * b2n (ksLogFull s)
    + 128 * s.ks.pulseSrc + 2 ^ 32 * (idx % 2 ^ 32)

/-- R375: whether pair A of an entry is being calibrated. -/
def pairAOut (s : State) (e : Nat) : Bool :=
  match s.ks.cal with
  | some c => c.pairA && c.entry == e
  | none => false

/-- KS_RAIL of an entry: V and I of the interval, or the last ones with STALE. -/
def railWord (s : State) (e : Nat) (r : KsRail) : Nat :=
  if pairAOut s e then putN (tabGet (fun _ => 0) s.ks.rails e) 31 1 1
  else r.v % 65536 + 65536 * min r.i 32767

/-- R361: the sums of one entry since the last comparison; a second in which a pair was being calibrated does not compare it. -/
def sumRail (s : State) (e : Nat) (r : KsRail) (t : Tab (Nat × Nat × Nat)) : Tab (Nat × Nat × Nat) :=
  if (match s.ks.cal with | some c => c.entry == e | none => false) then t
  else tabMod (fun _ => (0, 0, 0)) t e (fun x => (x.1 + r.a, x.2.1 + r.b, x.2.2 + r.i))

/-- R363, R365, R366: ACCOUNTING_INTERVAL: an interval of 1 ms ends: its energies wait for their activity, and a MIRROR frame is sent. -/
def execAccountingInterval (rails : List KsRail) (s : State) : Out :=
  .next (if !s.ks.powered then s
    else
      let s := ksSettle s none
      let rail := fun e => rails.getD e ⟨0, 0, 0, 0⟩
      let es := List.range 13
      let stale := es.any (pairAOut s)
      let energy := es.map (fun e => if pairAOut s e then (rail e).b else (rail e).a)
      let idx := s.ks.ms + 1
      let s := ksMod s (fun k => { k with
        ms := idx
        waiting := some ⟨idx % 2 ^ 32, idx, energy, stale⟩
        rails := es.foldl (fun t e => tabSet (fun _ => 0) t e (railWord s e (rail e))) k.rails
        sums := es.foldl (fun t e => sumRail s e (rail e) t) k.sums
        sumN := k.sumN + 1 })
      ksSend s (.mirror ⟨idx % 2 ^ 32, idx, ksMj s, s.ks.acc.audit, s.ks.fallback, ksStatus s stale idx,
        es.map (fun e => tabGet (fun _ => 0) s.ks.rails e)⟩))

/-- R363: a channel whose die is not ACTIVE or REJOINED, or that is fenced, has activity 0. -/
def hubCounts (s : State) (cnt : List Nat) : List Nat :=
  (List.range 24).map (fun k => if dieUp s (k / 6) ∧ getF s (FC_STS_FENCED (k / 6)) = 0 then cnt.getD k 0 % 2 ^ 32 else 0)

/-- R364: whether the counts of a frame are within their ceilings and category 5 is zero. -/
def countsOk (s : State) (cnt : List Nat) : Bool :=
  (List.range 24).all (fun k => if k % 6 = 5 then cnt.getD k 0 == 0 else decide (cnt.getD k 0 ≤ Config.ksCeiling s.ks.fwId (k % 6)))

/-- R364: ACTIVITY: the activity frame that the hub sends for the interval its mirror names, with the counts `cnt`, and whether its CRC holds. -/
def execActivity (cnt : List Nat) (crcOk : Bool) (s : State) : Out :=
  .next (match s.ks.waiting with
    | some o =>
      if !s.ks.powered ∨ !s.ks.link ∨ !ksHubUp s then s
      else if !crcOk then ksSettle s none
      else if getF s KS_STS_INTERVAL ≠ o.idx then s
      else
        let l := hubCounts s cnt
        ksSettle s (if countsOk s l then some l else none)
    | none => s)

/-- R364: ACTIVITY_TIMEOUT: 0.5 ms have passed since the interval ended. -/
def execActivityTimeout (s : State) : Out := .next (if s.ks.powered then ksSettle s none else s)

/-! ## The link (R365, R366, R368) -/

/-- A frame of the kind `f` recognises reaches the hub, when it is the next on the line; one whose CRC fails is discarded. -/
def ksArrive (s : State) (ok : Bool) (f : KsFrame → Option (State → State)) : State :=
  match s.ks.frames with
  | [] => s
  | x :: t =>
    if !ksHubUp s ∨ !s.ks.link then s
    else match f x with
      | none => s
      | some g =>
        let s := ksMod s (fun k => { k with frames := t })
        if ok then g s else s

/-- R368: what a MIRROR frame writes in unit 0x7. -/
def takeMirror (m : KsMirror) (s : State) : State :=
  let s := wr s KS_STS (BitVec.ofNat 64 (putN (putN m.sts 0 1 1) 6 1 (getF s KS_STS_UID_MISMATCH)))
  let s := wr s KS_E_PKG (BitVec.ofNat 64 (m.energy.getD 0 0))
  let s := (List.range 4).foldl (fun s n => wr s (KS_E_CH n) (BitVec.ofNat 64 (m.energy.getD (n + 1) 0))) s
  let s := setFs s [(KS_CNT_AUDIT, m.audit), (KS_CNT_FALLBACK, m.fallback)]
  (List.range 13).foldl (fun s e => wr s (KS_RAIL e) (BitVec.ofNat 64 (m.rails.getD e 0))) s

/-- R368: MIRROR. -/
def execMirror (ok : Bool) (s : State) : Out :=
  .next (ksArrive s ok (fun | .mirror m => some (takeMirror m) | _ => none))

/-- R366: AUDIT: KS_AUDIT shows the entry at its log position. -/
def execAudit (ok : Bool) (s : State) : Out :=
  .next (ksArrive s ok (fun
    | .audit pos e => some (fun s => (List.range 4).foldl (fun s w => wr s (KS_AUDIT pos w) (BitVec.ofNat 64 (bitsN e (64 * w + 63) (64 * w)))) s)
    | _ => none))

/-- R366: IDENTITY: KS_ID and KS_INFO, and whether the UID differs. -/
def execIdentity (ok : Bool) (s : State) : Out :=
  .next (ksArrive s ok (fun
    | .identity uid hw ver fw on => some (fun s =>
        setFs (wr s KS_ID (BitVec.ofNat 64 fw)) [(KS_INFO_HWTYPE, hw), (KS_INFO_VERSION, ver), (KS_INFO_POWERON, on),
          (KS_STS_UID_MISMATCH, b2n (uid != s.hub.fuses.uid))])
    | _ => none))

/-- KS_PUBKEY(w). -/
def pubkeyWord (uid w : Nat) : Nat :=
  if w < 48 then bitsN Config.ksModulus (64 * w + 63) (64 * w)
  else if w = 48 then uid
  else if w < 97 then bitsN Config.ksCertSig (64 * (w - 49) + 63) (64 * (w - 49))
  else 0

/-- R366: PUBKEY. -/
def execPubkey (ok : Bool) (s : State) : Out :=
  .next (ksArrive s ok (fun
    | .pubkey => some (fun s => (List.range 112).foldl (fun s w => wr s (KS_PUBKEY w) (BitVec.ofNat 64 (pubkeyWord s.ks.uid w))) s)
    | _ => none))

/-- R366: KS_LINK_UP: both ends have received good IDLE frames for 10 µs: IDENTITY, PUBKEY and the whole log are sent. -/
def execKsLinkUp (s : State) : Out :=
  .next (if !s.ks.powered ∨ s.ks.starting ∨ s.ks.link ∨ !ksHubUp s then s
    else setF (ksMod s (fun k => { k with
      link := true
      frames := .identity k.uid k.hwType k.version k.fwId k.powerOns :: .pubkey :: k.log.map (fun x => KsFrame.audit x.1 x.2) })) KS_STS_LINK 1)

/-- R366: KS_LINK_DOWN: an end has received no good frame for 1 ms. -/
def execKsLinkDown (s : State) : Out :=
  .next (if !s.ks.link then s
    else setFs (ksMod s (fun k => { k with link := false, frames := [] })) [(KS_STS_LINK, 0), (KS_STS_STALE, 1)])

/-! ## Mailbox (R369, R370) -/

/-- The keystone answers a command. -/
def ksAnswer (s : State) (seq status : Nat) (data : List Byte) : State :=
  ksSend (ksMod s (fun k => { k with answer := some (seq, status, data) })) (.response seq status data)

/-- Table 12-6: bytes 0-39 of a signed statement. -/
def readingHead (s : State) : List (Nat × Nat) :=
  [(1, 1), (1, b2n s.ks.last.2 + 2 * b2n s.ks.cal.isSome + 4 * b2n s.ks.badClk + 8 * b2n (s.ks.badSense != []) + 16 * b2n (ksLogFull s) + 32 * s.ks.pulseSrc),
   (2, 0), (4, s.ks.powerOns), (8, s.ks.uid), (8, s.ks.fwId), (6, s.ks.last.1), (2, 0), (8, s.ks.acc.readings)]

/-- R370: the key identifier: the first 8 bytes of the SHA-256 of the public modulus. -/
def keyId : Nat := leVal ((sha256 (leBytes 384 Config.ksModulus)).take 8)

/-- Table 12-6: the body of a signed reading. -/
def readingBody (s : State) (nonce : Nat) : Nat :=
  leVal (packLE (readingHead s ++ (ksMj s).map (fun x => (8, x))
    ++ [(4, s.ks.acc.audit), (4, s.ks.fallback), (16, nonce), (8, keyId), (16, 0)]))

/-- Table 12-5: the body of a signed audit statement over entries. -/
def auditBody (s : State) (first count : Nat) (entries : List Nat) : Nat :=
  leVal (packLE (readingHead s ++ [(4, first), (4, count), (32, leVal (sha256 (entries.flatMap (leBytes 32)))), (8, 0), (16, 0), (8, keyId), (16, 0)]))

/-- The log entry with an audit counter value. -/
def auditFind (s : State) (seq : Nat) : Option Nat := (s.ks.log.find? (fun x => auditSeq x.2 == seq % 2 ^ 32)).map (·.2)

/-- R369, Table 12-5: the keystone receives a COMMAND frame. -/
def ksTake (s : State) (c : KsCmd) : State :=
  match s.ks.answer.filter (fun a => a.1 == c.seq) with
  | some a => ksSend s (.response a.1 a.2.1 a.2.2)
  | none =>
    match s.ks.job with
    | some j => if j.seq = c.seq then s else ksAnswer s c.seq 1 []
    | none =>
      match c.op with
      | 1 =>
        if !s.ks.hasKey then ksAnswer s c.seq 5 []
        else ksMod s (fun k => { k with job := some ⟨c.seq, readingBody s (leVal (c.data.take 16)), true⟩ })
      | 2 =>
        let found := (List.range (min c.aux 1024)).map (fun i => auditFind s (c.arg + i))
        if c.aux = 0 ∨ 1024 < c.aux ∨ found.any (·.isNone) then ksAnswer s c.seq 6 []
        else if !s.ks.hasKey then ksAnswer s c.seq 5 []
        else ksMod s (fun k => { k with job := some ⟨c.seq, auditBody s c.arg c.aux (found.map (·.getD 0)), false⟩ })
      | 3 =>
        if s.ks.cal.isSome then ksAnswer s c.seq 7 []
        else ksAnswer (ksMod s (fun k => { k with cal := some ⟨0, false, []⟩ })) c.seq 0 []
      | 4 =>
        if 4 < c.arg then ksAnswer s c.seq 8 []
        else ksAnswer (ksMod s (fun k => { k with
          pulseSel := c.arg
          marks := if c.arg = k.pulseSrc then k.marks else tabSet (fun _ => 0) k.marks c.arg (k.acc.energy.getD c.arg 0 / 10000000000) })) c.seq 0 []
      | 5 =>
        if c.arg % 4096 ≠ 0 ∨ 262144 ≤ c.arg ∨ c.len = 0 ∨ 4096 < c.len ∨ crc32 (c.data.take c.len) ≠ c.aux then ksAnswer s c.seq 9 []
        else ksAnswer (ksMod s (fun k => { k with staging := tabSet (fun _ => []) k.staging (c.arg / 4096) (c.data.take c.len) })) c.seq 0 []
      | 6 => ksAnswer (ksMod s (fun k => { k with staging := [] })) c.seq 0 []
      | _ => ksAnswer s c.seq 2 []

/-- The first `n` bytes of HP_KS_MBBUF. -/
def mbBytes (s : State) (n : Nat) : List Byte :=
  ((List.range ((n + 7) / 8)).flatMap (fun i => leBytes 8 (rd s (HP_KS_MBBUF i)).toNat)).take n

/-- R369: the command in HP_KS_MB is sent; `ok` says whether its frame arrives with a good CRC. While the link is down, signing is refused. -/
def mbCmd (s : State) (ok : Bool) : State :=
  let s := setF s HP_KS_MB_STATE 1
  let op := getF s HP_KS_MB_OP
  if !s.ks.link ∧ (op = 1 ∨ op = 2) then setFs s [(HP_KS_MB_STATE, 3), (HP_KS_MB_STATUS, 4)]
  else
    let len := getF s HP_KS_MB_LEN
    let c : KsCmd := ⟨s.ks.nextSeq, op, len, getF s HP_KS_MB_ARG, getF s HP_KS_MBAUX_AUX, mbBytes s (if op = 5 then min len 4096 else 16)⟩
    let s := ksMod s (fun k => { k with nextSeq := k.nextSeq + 1, mb := some c, resent := false })
    if ok ∧ s.ks.link ∧ s.ks.powered then ksTake s c else s

/-- R369: MAILBOX_RESEND: 5 ms without a response. -/
def execMailboxResend (ok : Bool) (s : State) : Out :=
  .next (match s.ks.mb with
    | some c =>
      if s.ks.resent ∨ !ksHubUp s then s
      else
        let s := ksMod s (fun k => { k with resent := true })
        if ok ∧ s.ks.link ∧ s.ks.powered then ksTake s c else s
    | none => s)

/-- R369: MAILBOX_TIMEOUT: 50 ms without a response since the first send. -/
def execMailboxTimeout (s : State) : Out :=
  .next (if s.ks.mb.isSome ∧ s.ks.resent ∧ ksHubUp s then
      setFs (ksMod s (fun k => { k with mb := none })) [(HP_KS_MB_STATE, 3), (HP_KS_MB_STATUS, 4)]
    else s)

/-- The response data replaces the start of HP_KS_MBBUF. -/
def putBuf (s : State) (data : List Byte) : State :=
  (List.range (data.length / 8)).foldl (fun s i => wr s (HP_KS_MBBUF i) (BitVec.ofNat 64 (leVal ((data.drop (8 * i)).take 8)))) s

/-- R369: RESPONSE. -/
def execResponse (ok : Bool) (s : State) : Out :=
  .next (ksArrive s ok (fun
    | .response seq st data => some (fun s =>
        match s.ks.mb with
        | some c =>
          if c.seq ≠ seq then s
          else
            let s := ksMod s (fun k => { k with mb := none })
            putBuf (setFs s [(HP_KS_MB_STATE, if st = 0 ∨ st = 3 then 2 else 3), (HP_KS_MB_STATUS, st)]) data
        | none => s)
    | _ => none))

/-- R370: KS_SIGNING_COMPLETE: the signature is made (with a free salt), a reading is counted, and one RESPONSE is sent. -/
def execKsSigningComplete (s : State) : Out :=
  .next (match s.ks.job with
    | some j =>
      let (salt, s) := draw s
      let data := leBytes 128 j.body ++ leBytes 384 (Config.ksSign j.body salt.toNat)
      let s := ksMod s (fun k => { k with job := none, acc := { k.acc with readings := k.acc.readings + b2n j.reading } })
      ksAnswer s j.seq (if j.reading ∧ ksLogFull s then 3 else 0) data
    | none => s)

/-! ## Checks, power and calibration (R361, R362, R372-R376) -/

/-- R361: whether the sums of an entry over a second disagree by more than 0.2 % above 5 % of its rated current. -/
def pairsDiffer (s : State) (e : Nat) : Bool :=
  let x := tabGet (fun _ => (0, 0, 0)) s.ks.sums e
  decide (5 * ratedI e * s.ks.sumN < 100 * x.2.2) && decide (2 * x.1 < 1000 * (max x.1 x.2.1 - min x.1 x.2.1))

/-- R361: PAIR_COMPARE: the comparison of each second. -/
def execPairCompare (s : State) : Out :=
  .next (if !s.ks.powered ∨ s.ks.sumN < 1000 then s
    else
      let bad := (List.range 13).filter (pairsDiffer s)
      let s := bad.foldl (fun s e => auditAdd s 8 e 0) s
      ksMod s (fun k => { k with badSense := bad, sums := [], sumN := 0 }))

/-- R361: SENSE_OUT_OF_RANGE: a sense of an entry is outside its converter's range for 1 ms. -/
def execSenseOutOfRange (e : Fin 13) (s : State) : Out :=
  .next (if !s.ks.powered then s
    else ksMod (auditAdd s 8 e 0) (fun k => { k with badSense := insertAsc e k.badSense }))

/-- R362: CLOCK_CHECK: the oscillators have differed by more than 0.05 % for 10 ms, or agree again. -/
def execClockCheck (differ : Bool) (s : State) : Out :=
  .next (if !s.ks.powered ∨ s.ks.badClk = differ then s
    else
      let s := ksMod s (fun k => { k with badClk := differ })
      if differ then auditAdd s 9 0 0 else s)

/-- R372: KS_PERIODIC_COMMIT. -/
def execKsPeriodicCommit (s : State) : Out := .next (if s.ks.powered then ksMod s (fun k => { k with saved := k.acc }) else s)

/-- R372, R375: POWER_LOSS: POWER_LOSS is written, the values are committed, and what is volatile is lost. -/
def execPowerLoss (s : State) : Out :=
  .next (if !s.ks.powered then s
    else
      let s := ksSettle s none
      let s := auditAdd s 6 0 ((ksMj s).getD 0 0)
      ksMod s (fun k => { k with saved := k.acc, powered := false, starting := false, frames := [], job := none, answer := none, cal := none }))

/-- R373: POWER_ON: 2 ms after VKS is in range the accumulators run. `above` has a bit for each other entry above 1 % of its rated current. With a
staged image POWER_ON is written once the image has been examined (Table 12-8). -/
def execPowerOn (above : BitVec 12) (s : State) : Out :=
  .next (if s.ks.powered then s
    else
      let s := if s.ks.link then setFs s [(KS_STS_LINK, 0), (KS_STS_STALE, 1)] else s
      let s := ksMod s (fun k => { k with
        acc := k.saved
        powerOns := (k.powerOns + 1) % 2 ^ 32
        powered := true
        starting := k.staging != []
        ms := 0
        waiting := none
        last := (0, false)
        rails := []
        sums := []
        sumN := 0
        badSense := []
        badClk := false
        cal := none
        pulseSrc := 0
        pulseSel := 0
        marks := tabSet (fun _ => 0) [] 0 (k.saved.energy.getD 0 0 / 10000000000)
        link := false
        frames := []
        job := none
        answer := none })
      let s := if above = 0 then s else auditAdd s 7 0 above.toNat
      if s.ks.starting then s else auditAdd s 5 0 0)

/-- R376: the reason for which a staged image is rejected. -/
def ksReject (s : State) (h : KsHeader) : Option Nat :=
  if !h.complete then some 5
  else if !h.sig then some 1
  else if h.device ≠ 0x4D585531 ∨ h.hwType ≠ s.ks.hwType then some 2
  else if h.uid ≠ s.ks.uid then some 3
  else if h.version ≤ s.ks.version ∨ h.version < s.ks.fuse then some 4
  else if ksLogFull s then some 6
  else none

/-- R376: KS_IMAGE_CHECK: the ROM examines the staging slot at power-on, applies the image or rejects it, and erases the slot. -/
def execKsImageCheck (h : KsHeader) (s : State) : Out :=
  .next (if !s.ks.powered ∨ !s.ks.starting then s
    else
      let s := match ksReject s h with
        | some r => auditAdd s 2 r (h.version % 2 ^ 32)
        | none =>
          let old := s.ks.fwId
          let s := ksMod s (fun k => { k with
            version := h.version, fwId := h.fwId.toNat, fuse := h.version
            base := h.base.foldl (fun t x => tabSet baseTable t x.1 x.2) [] })
          auditAdd s 1 0 (old % 2 ^ 64 + 2 ^ 64 * (h.version % 2 ^ 32))
      auditAdd (ksMod s (fun k => { k with staging := [], starting := false })) 5 0 0)

/-- R375: whether two runs agree and lie near the factory trims. -/
def runsGood (r : KsRun) : Bool :=
  decide ((r.gain1 - r.gain2).natAbs ≤ 200) && decide ((r.off1 - r.off2).natAbs ≤ 2)
    && decide (r.gain1.natAbs ≤ 10000) && decide (r.gain2.natAbs ≤ 10000) && decide (r.off1.natAbs ≤ 64) && decide (r.off2.natAbs ≤ 64)

/-- R375: CALIBRATION_CYCLE: a cycle begins, or the pair being run completes with its two runs; pair B goes before pair A, entry 0 first. The last
writes CALIBRATION or CAL_FAIL. -/
def execCalibrationCycle (r : KsRun) (s : State) : Out :=
  .next (if !s.ks.powered then s
    else match s.ks.cal with
      | none => ksMod s (fun k => { k with cal := some ⟨0, false, []⟩ })
      | some c =>
        let good := runsGood r
        let failed := if good then c.failed else insertAsc c.entry c.failed
        let s := if good then
            ksMod s (fun k => { k with trims := tabSet (fun _ => ((0 : Int), (0 : Int))) k.trims (2 * c.entry + b2n (!c.pairA)) (r.gain2, r.off2) })
          else s
        if !c.pairA then ksMod s (fun k => { k with cal := some ⟨c.entry, true, failed⟩ })
        else if c.entry < 12 then ksMod s (fun k => { k with cal := some ⟨c.entry + 1, false, failed⟩ })
        else
          auditAdd (ksMod s (fun k => { k with cal := none })) (if failed = [] then 3 else 4) 0 (failed.foldl (fun m e => m + 2 ^ e) 0))

/-- R360, R369: KS_PULSE: the energy of the source crosses a multiple of 10 J and a pulse is driven; a newly selected source takes effect at its own
crossing. -/
def execKsPulse (s : State) : Out :=
  .next (if !s.ks.powered then s
    else
      let at_ := fun src => s.ks.acc.energy.getD src 0 / 10000000000
      let mark := fun src => tabGet (fun _ => 0) s.ks.marks src
      let fire := fun (src : Nat) => ksMod s (fun k => { k with
        pulseSrc := src, pulses := k.pulses + 1, marks := tabSet (fun _ => 0) k.marks src (mark src + 1) })
      if s.ks.pulseSel ≠ s.ks.pulseSrc ∧ mark s.ks.pulseSel < at_ s.ks.pulseSel then fire s.ks.pulseSel
      else if mark s.ks.pulseSrc < at_ s.ks.pulseSrc then fire s.ks.pulseSrc
      else s)

end Sys2Proof.Machine
end

