-- ==== Sys2Proof/Machine/Thermal.lean ====
section
/-! DEFINITION. Speed monitors, temperature sensors and trips, supplies and set-points, and the JTAG port but for its management
access (R53, R54, R399-R413). -/
namespace Sys2Proof.Machine

def sideMod (s : State) (f : SideX → SideX) : State := { s with side := f s.side }

/-! ## Speed monitors (R53) -/

/-- R53: SPEED_MONITOR_WINDOW: a window of monitor `i` ends with `count` loop traversals. No result is stated for a count of 0: a free
value. -/
def execSpeedMonitorWindow (n : Die) (i : Fin 16) (count : Nat) (s : State) : Out :=
  .next (if !dieUp s n ∨ epochStale s n then s
    else
      let (w, s) := if count = 0 then draw s else (BitVec.ofNat 64 (min (16384000 / count) (2 ^ 20 - 1)), s)
      let s := setFs s [(CD_SPD_MON_STEP n i, w.toNat), (CD_SPD_MON_STALE n i, 0), (CD_SPD_MON_VALID n i, 1)]
      addF s (CD_SPD_MON_SEQ n i) 1)

/-! ## Temperature sensors (R54, R407) -/

/-- Table 14-5: limit and trip of a sensor in °C. -/
def tempLimit (k : Nat) : Int := if k < 64 then 105 else if k < 96 then (if k % 4 = 3 then 80 else 105) else if k < 160 then 95 else if k = 160 then 105 else 95
def tempTrip (k : Nat) : Int := tempLimit k + 10

/-- The register of a sensor that has the fields of CD_TEMP. -/
def tempReg (k : Nat) : Option Nat :=
  if k < 64 then some (CD_TEMP (k / 16) (k % 16))
  else if k < 96 then some (OE_TEMP ((k - 64) / 4) ((k - 64) % 4))
  else if k < 160 then some (PI_ZONE (k - 96))
  else none

/-- The HOT flag of a sensor's group: its bit in HP_THERM. -/
def hotFlag (s : State) (k : Nat) : State :=
  if k < 64 then flagAt s HP_THERM_HOT_CD (k / 16)
  else if k < 96 then flagAt s HP_THERM_HOT_OE ((k - 64) / 4)
  else if k < 160 then flag s HP_THERM_HOT_PI
  else if k = 160 then flag s HP_THERM_HOT_HD
  else flagAt s HP_THERM_HOT_HBM (k - 161)

/-- HP_THERM: the sensor nearest its limit, and its distance below it in °C. -/
def showMargin (s : State) : State :=
  let near := s.side.temps.foldl (fun (m : Option (Nat × Int)) x =>
    match x.2 with
    | some t =>
      let d := 16 * tempLimit x.1 - t
      (match m with
       | some (_, d') => if d < d' then some (x.1, d) else m
       | none => some (x.1, d))
    | none => m) none
  match near with
  | some (k, d) => setFs s [(HP_THERM_MAX_SENSOR, k), (HP_THERM_MARGIN, min 255 (d / 16).toNat)]
  | none => s

/-- Whether a sensor is there to read: its die is up; its value is not held. -/
def sensorLive (s : State) (k : Nat) : Bool :=
  (if k < 64 then dieUp s (k / 16) else if 161 ≤ k then dieUp s ((k - 161) / 2) else true)
  && (match tempReg k with | some a => bitsOf (rd s a) 16 16 == 0 | none => true)

/-- R54, R407, R167: TEMP_SENSOR_READING: sensor `k` of Table 14-5 reads `t` in 1/16 °C. -/
def execTempSensorReading (k : Fin 169) (t : Int) (s : State) : Out :=
  .next (if !sensorLive s k then s
    else
      let t := if k.val < 161 then sextN (wrapN t 16) 16 else t
      let was := (tabGet (fun _ => none) s.side.temps k).getD (-32768)
      let s := match tempReg k with
        | some a => addF (setFs s [(⟨a, 15, 0, 0⟩, wrapN t 16), (⟨a, 17, 17, 0⟩, 1)]) ⟨a, 47, 32, 0⟩ 1
        | none => if 161 ≤ k.val then setF s (CD_HBM_STS_TEMP ((k - 161) / 2) ((k - 161) % 2)) (min 255 (t / 16).toNat) else s
      let s := sideMod s (fun x => { x with
        temps := tabSet (fun _ => none) x.temps k (some t)
        trips := if 16 * tempTrip k ≤ t then tabMod (fun _ => 0) x.trips k (fun n => min (n + 1) 10) else tabSet (fun _ => 0) x.trips k 0 })
      let s := if 16 * tempLimit k ≤ t ∧ was < 16 * tempLimit k then hotFlag s k else s
      let s := showMargin s
      if k.val < 64 then thermalRisk s (k / 16) else s)

/-- R54, R232: TEMP_SENSOR_TRIM: the trim of sensor `i` of a die starts, or its two runs are complete (1/16 °C). -/
def execTempSensorTrim (n : Die) (i : Fin 16) (runs : Option (Int × Int)) (s : State) : Out :=
  .next (if !dieUp s n then s
    else match runs with
      | none => setF s (CD_TEMP_STALE n i) 1
      | some (a, b) =>
        if getF s (CD_TEMP_STALE n i) = 0 then s
        else
          let s := setF s (CD_TEMP_STALE n i) 0
          if partGood ⟨.sensor, 0, a, b⟩ then setF s (CD_TEMP_TRIM_FUSED n i) 0
          else reportCh (setF s (CD_TEMP_TRIM_FUSED n i) 1) 0x0201 n 0x020 i (rd s (CD_TEMP n i)).toNat)

/-- A class S fault of the package reaches the collector at once; with the hub away it waits with the other reports. -/
def recordGrave (s : State) (r : Report) : State := if s.hub.down then report s r else collectAll s r

/-- R407: THERMAL_TRIP: sensor `k` has read at or above its trip 10 times in a row; one that is STALE or not VALID does not trip. -/
def execThermalTrip (k : Fin 169) (s : State) : Out :=
  .next (if tabGet (fun _ => 0) s.side.trips k < 10 ∨ !sensorLive s k ∨ pkgSafe s then s
    else recordGrave s ⟨0x0904, 0, 0, 0x090, k, (rd s HP_THERM).toNat, 0⟩)

/-! ## Supplies (R399-R401) -/

/-- R401: SUPPLY_FAULT: entry `e` of Table 14-1 stays out of its range by a further 5 % for 5 µs. VKS is not monitored. -/
def execSupplyFault (e : Fin 13) (s : State) : Out :=
  .next (if e.val = 12 ∨ pkgSafe s then s else recordGrave s ⟨0x0905, 0, 0, 0x090, e, 0, 0⟩)

/-- R400: the set-point that a TARGET stands for. -/
def setPoint (t : Nat) : Nat := max 550 (min 850 t) / 5 * 5

/-- R166: whether a ledger entry of the channel is ACCEPTED, ACTIVE or AT_RISK. -/
def vlock (s : State) (n : Nat) : Bool := (ledAll s n).any (fun e => liveLed (getF s (CH_LEDGER_STATE n e.1)))

/-- CH_ADM_STS.LIVE: the entries that are not FREE. -/
def liveCount (s : State) (n : Nat) : Nat := (ledAll s n).length

/-- R400: whether a die has no ply RUNNING, WAITING or TRAPPED. -/
def noPlyWorks (s : State) (n : Nat) : Bool :=
  (List.range 1536).all (fun k => plyState s n (k / 4) (k % 4) == 0 || plyState s n (k / 4) (k % 4) == 4)

/-- R400: whether a write of TARGET is performed. -/
def vcoreAllowed (s : State) (n t : Nat) : Bool :=
  let new := setPoint t
  let old := setPoint (getF s (HP_VCORE_TARGET n))
  decide (old ≤ new) || (!vlock s n && (decide (650 ≤ new) || (noPlyWorks s n && liveCount s n == 0)))

/-- R399, R400: a set-point is written: it begins to move. -/
def vcoreWrite (s : State) (n t : Nat) : State :=
  let s := setF s (HP_VCORE_TARGET n) t
  setF s (HP_VCORE_MOVING n) (b2n (decide (setPoint t ≠ getF s (HP_VCORE_ACTUAL n))))

/-- R399: AVS_TRANSACTION: a transaction of rail `n` completes: it failed its CRC or status, or read `mv`. -/
def execAvsTransaction (n : Die) (ok : Bool) (mv : Fin 1024) (s : State) : Out :=
  .next (if !ok then flag s (HP_VCORE_AVS_ERR n)
    else setFs s [(HP_VCORE_ACTUAL n, mv), (HP_VCORE_MOVING n, b2n (decide (setPoint (getF s (HP_VCORE_TARGET n)) ≠ mv.val))),
      (HP_VCORE_RETENTION n, b2n (decide (mv.val < 650)))])

/-! ## JTAG (R413) -/

/-- Whether the sideband works: its clock is there (Table 1-13). -/
def sideUp (s : State) : Bool := !clkLost s 58

/-- Select an instruction with what its data register captures and what drives the pins. -/
def selectIr (s : State) (ir dr : Nat) (d : PinDrive) : State :=
  if sideUp s then sideMod s (fun x => { x with ir := ir, dr := dr, drive := d }) else s

/-- R413: EXTEST: the boundary-scan register drives the outputs and captures the inputs `pins`. -/
def execExtest (pins : Nat) (s : State) : Out := .next (selectIr s 0x00 pins .extest)
/-- R413: SAMPLE/PRELOAD: the pins are captured and the boundary-scan register is preloaded. -/
def execSamplePreload (pins preload : Nat) (s : State) : Out :=
  .next (if sideUp s then sideMod (selectIr s 0x01 pins .normal) (fun x => { x with bsr := preload }) else s)
/-- R413: IDCODE reads 0x4D58_5531. -/
def execIdcode (s : State) : Out := .next (selectIr s 0x02 0x4D585531 .normal)
/-- R413: CLAMP: outputs hold from the boundary-scan register, the bypass register is selected. -/
def execClamp (s : State) : Out := .next (selectIr s 0x03 0 .clamp)
/-- R413: HIGHZ. -/
def execHighz (s : State) : Out := .next (selectIr s 0x04 0 .highz)
/-- R413: BYPASS: the one-bit bypass register, which captures 0. -/
def execBypass (s : State) : Out := .next (selectIr s 0xFF 0 .normal)

/-- R395, R413: whether the private instructions act: a debug certificate with scope bit 1 is in force. -/
def jtagPrivate (s : State) : Bool := bitN s.boot.debug 1 == 1

/-- R413: TRACE_TAP: the trace unit's input queue, oldest record in the low bits; nothing is removed. -/
def execTraceTap (s : State) : Out :=
  .next (if jtagPrivate s then selectIr s 0x41 (leVal (s.read.queue.flatMap (leBytes 32))) .normal else selectIr s 0xFF 0 .normal)
/-- R413: DIE_SEL: TDI-TDO runs through the scan chain of die `d` of Table 1-5; the hub's ROM and the key stores are not on it. -/
def execDieSel (d : Fin 14) (s : State) : Out :=
  .next (if jtagPrivate s then
      (if sideUp s then sideMod (selectIr s 0x42 0 .normal) (fun x => { x with dieSel := some d }) else s)
    else selectIr s 0xFF 0 .normal)
/-- R413: TAP_RESET: IDCODE is selected. -/
def execTapReset (s : State) : Out :=
  .next (if sideUp s then sideMod (selectIr s 0x02 0x4D585531 .normal) (fun x => { x with dieSel := none }) else s)

end Sys2Proof.Machine
end

