-- ==== Sys2Proof/Machine/Views.lean ====
section
/-! DEFINITION. How registers read (R321-R326, R334): fields that show other state, occurrence counts and aliases, and which unit of a
snapshot covers a register (Table 10-2). -/
namespace Sys2Proof.Machine

/-- The occurrence count of a one-bit flag. -/
def occOf (s : State) (f : Fld) : Nat := getF s (occFld f 0)

/-- R326: word `g` of the occurrence alias of the register at `a`. -/
def aliasWord (s : State) (a g : Nat) : Nat := (rd s (a - adrOff a + 0x80000 + 4 * adrOff a + 8 * g)).toNat

/-- Bits of a mask over channels or plies. -/
def maskOfBits (n : Nat) (p : Nat → Bool) : Nat := (List.range n).foldl (fun a i => a + 2 ^ i * b2n (p i)) 0

/-- CH_ADM_ROPES: the eight fields. -/
def ropesWord (s : State) (n : Nat) : Nat :=
  (List.range 8).foldl (fun a i => a + 2 ^ (5 * i) * (if dieUp s n then (freeRope s n i).getD 0x1F else 0x1F)) 0

/-- CH_ADM_AVAIL. -/
def availWord (s : State) (n : Nat) : Nat :=
  if dieUp s n then freePlies s n + 2 ^ 11 * freeEngines s n + 2 ^ 18 * freeMortar s n + 2 ^ 25 * freeHost s else 0

/-- CH_PIN_CAP. -/
def pinWord (s : State) (n : Nat) : Nat :=
  if dieUp s n then poolFree s n 1 + 2 ^ 12 * poolFree s n 2 + 2 ^ 36 * xltFree s n else 0

/-- R329: word `w` of slot `i` of the DMA queue. -/
def dmaqWord (s : State) (n i w gen : Nat) : Nat :=
  let d := (dieGet s n).dmaQ.find? (fun d => d.slot == i)
  if w = 7 then gen % 65536 + 65536 * b2n d.isSome
  else match d with
    | some d => bitsN d.raw (64 * w + 63) (64 * w)
    | none => 0

/-- CD_DMAQ_STS. -/
def dmaqSts (s : State) (n : Nat) : Nat :=
  let q := (dieGet s n).dmaQ
  q.length + 2 ^ 16 * ((q.head?.map (·.slot)).getD 0)

/-- HP_BL_RMAP_DATA: the bundle that HP_BL_RMAP_SEL selects. -/
def rmapWord (s : State) : Nat :=
  let l := getF s HP_BL_RMAP_SEL_LINK
  let i := getF s HP_BL_RMAP_SEL_BUNDLE
  if linkPairs l ≤ i then 0x7F
  else
    let b := bondGet s l i (getF s HP_BL_RMAP_SEL_DIR)
    b.replaced + 128 * b2n b.field + 256 * b2n b.failed + 512 * b2n (bondGet s l i 0).failedNow + 1024 * b.prbs

/-- FC_PKG (R351). -/
def pkgWord (s : State) : Nat :=
  let f := getF s (FC_STS_F 4)
  let fenced := maskOfBits 4 (fun n => getF s (FC_STS_FENCED n) == 1)
  let safe := getF s FC_PKG_SAFE
  safe + 2 * b2n (safe == 1 || f == 1 || fenced != 0) + 4 * safe + 8 * fenced + 128 * f

/-- CD_BK_ARRST.WBUSY: planes with a load in progress. -/
def wbusy (s : State) (n b : Nat) : Nat :=
  maskOfBits 4 (fun j => sbCount s n b (fun e => getF s (CD_BK_SB_OPC n b e) == 16 * 64 && getF s (CD_BK_SB_D n b e) == j) != 0)

/-- CH_PRE_REQ.STOPPED: the named plies that have stopped. -/
def preStopped (s : State) (n k : Nat) : Nat :=
  let named := getF s (CH_PRE_REQ_PLIES n k)
  let st := getF s (CH_PRE_REQ_STATE n k)
  match preGet s n k with
  | some x => if st = 2 then named else if preLive st ∧ st ≠ 6 then maskOfBits 4 (fun q => bitN named q == 1 && plyStopped s x.die x.brick q) else 0
  | none => 0

/-- A field of a word replaced. -/
def inWord (w : Word) (f : Fld) (v : Nat) : Word := putBits w f.hi f.lo v

/-- R326: a field of the word that shows the count of a flag. -/
def inOcc (s : State) (w : Word) (f c : Fld) : Word := inWord w f (occOf s c)

/-- How a register reads: what its unit holds, with the fields that show other state. -/
def viewOf (s : State) (x : RegIdx) (w : Word) : Word :=
  let n := x.u - 1
  match x.name with
  | .HP_BL_RMAP_DATA => BitVec.ofNat 64 (rmapWord s)
  | .CD_BK_ARITH => inWord w (CD_BK_ARITH_SHQ n x.k) (brickGet s n x.k).shq.length
  | .CD_BK_SGOCC => BitVec.ofNat 64 (aliasWord s (CD_BK_SGSTS n x.k) 0)
  | .CD_BK_ARRST => inWord w (CD_BK_ARRST_WBUSY n x.k) (wbusy s n x.k)
  | .CD_ME_STS => inWord (inWord w (CD_ME_STS_OB_OCC n x.k) (outboxCount s n x.k)) (CD_ME_STS_IB_OCC n x.k) (brickGet s n x.k).inbox.length
  | .CD_ME_OCC => BitVec.ofNat 64 (aliasWord s (CD_ME_STS n x.k) 0 % 2 ^ 48)
  | .CD_KNOT_WAIT => inOcc s w (CD_KNOT_WAIT_STRAY_OCC n x.i) (CD_KNOT_STRAY n x.i)
  | .HP_SKNOT_OCC => inOcc s w (HP_SKNOT_OCC_STRAY_OCC x.i) (HP_SKNOT_STRAY x.i)
  | .CD_BK_SCHED => inWord w (CD_BK_SCHED_SB_USED n x.k) (sbCount s n x.k (fun _ => true))
  | .CD_BK_LSLOT => inWord w (CD_BK_LSLOT_HELD n x.k x.i) (b2n (getF s (CD_BK_LSLOT_ARMED n x.k x.i) == 1 && slotsHeld s n))
  | .CH_SLEW_STS => inOcc s w (CH_SLEW_STS_OVER_OCC n) (CH_SLEW_STS_OVER n)
  | .CH_ADM_STS => inWord (inWord w (CH_ADM_STS_LIVE n) (liveCount s n)) (CH_ADM_STS_VLOCK n) (b2n (vlock s n))
  | .CH_ADM_AVAIL => BitVec.ofNat 64 (availWord s n)
  | .CH_ADM_ROPES => BitVec.ofNat 64 (ropesWord s n)
  | .CH_PIN_CAP => BitVec.ofNat 64 (pinWord s n)
  | .CD_BK_DMA => inWord w (CD_BK_DMA_OUT n x.k) (brickGet s n x.k).tickets.length
  | .CH_FQ_STS => inOcc s w (CH_FQ_STS_FULL_OCC n) (CH_FQ_STS_FULL n)
  | .CD_HBM_STS => inOcc s w (CD_HBM_STS_UE_OCC n x.i) (CD_HBM_STS_UE n x.i)
  | .CH_PRE_REQ => inWord w (CH_PRE_REQ_STOPPED n x.i) (preStopped s n x.i)
  | .OE_EVT_OCC => BitVec.ofNat 64 (aliasWord s (OE_EVT x.k) x.i)
  | .PI_EVT_OCC => BitVec.ofNat 64 (aliasWord s PI_EVT x.i)
  | .OE_ROPE_OCC => BitVec.ofNat 64 (aliasWord s (OE_ROPE_EVT x.k) x.i)
  | .PI_ROPE_OCC => BitVec.ofNat 64 (aliasWord s (OE_ROPE_EVT (24 + x.k)) x.i)
  | .HP_ROLE => inOcc s w HP_ROLE_CHANGED_OCC HP_ROLE_CHANGED
  | .CD_DMAQ => BitVec.ofNat 64 (dmaqWord s n x.i x.j w.toNat)
  | .CD_DMAQ_STS => BitVec.ofNat 64 (dmaqSts s n)
  | .FC_PKG => BitVec.ofNat 64 (pkgWord s)
  | .HP_SVN => BitVec.ofNat 64 ((List.range 4).foldl (fun a g => a + 2 ^ (8 * g) * (s.hub.fuses.svn.getD g 0 % 128)) 0)
  | _ => w

/-! ## Covered registers (Table 10-2) -/

/-- The unit of a snapshot whose cut copies a register; none for a register that is not covered. The hub's own cut has key 0 with `true`. -/
inductive Cover where
  | hub
  | unit (key : Nat)
  deriving DecidableEq, Repr

/-- Table 10-2. -/
def coverOf (x : RegIdx) : Option Cover :=
  let n := x.u - 1
  match x.name with
  | .CD_BK_SGCNT0 | .CD_BK_SGCNT1 | .CD_BK_SGCNT2 | .CD_BK_SGCNT3 | .CD_BK_SGSTS | .CD_BK_SGOCC | .CD_BK_SCHED | .CD_BK_DMA | .CD_ME_STS | .CD_ME_OCC
  | .CD_ME_TALLY | .CD_PLY_STS | .CD_PLY_PC | .CD_BK_LSLOT => some (.unit (keyBrick n x.k))
  | .CD_KNOT | .CD_KNOT_WAIT => some (.unit (keyKnots n (x.i / 256)))
  | .CD_EPOCH | .CD_SPD_MON | .CD_TEMP | .CD_DMA_ENG | .CD_DMAQ_STS | .CD_HBM_STS | .CD_GW_CNT | .CD_TR_STS | .CD_TR_TX | .CD_TR_RX =>
    some (.unit (keyDie n))
  | .CH_ADM_STS | .CH_ADM_AVAIL | .CH_ADM_ROPES | .CH_PIN_CAP | .CH_LEDGER | .CH_SLEW_STS | .CH_SAT | .CH_FQ_PTR | .CH_FQ_STS | .CH_ADM_PRQ_PTR
  | .CH_DMA_HENG | .CH_PRE_REQ | .HP_SKNOT | .HP_SKNOT_OCC | .HP_BL_STS | .HP_ROLE | .HP_HQS | .HP_TR_TX | .HP_TR_RX | .GS_STS | .SN_DISC =>
    some .hub
  | .OE_STS | .OE_STRAND | .OE_LAS_BIAS => some (.unit (keyEngine x.k))
  | .OE_ROPE_STS | .OE_ROPE_CNT => some (.unit (keyEngine (ropeOe x.k)))
  | .PI_ROPE_STS | .PI_ROPE_CNT | .PI_STRAND | .PI_STEER_STS | .PI_AOR_STS | .PI_AOR_CHK => some (.unit keyPi)
  | _ => none

/-- R334: the offset of a block's shadows, and of its tag. -/
def shadowOff : Nat := 0x40000
def tagOff : Nat := 0x7FFF8

/-- What an address of management space names (R6, R10, R326, R334): a register; the shadow of a covered register; a shadow tag; word `g` of an occurrence
alias; a word of the MSI-X table of the host port; nothing. -/
inductive Place where
  | reg (c : Card) (x : RegIdx)
  | shadow (x : RegIdx)
  | tag
  | occ
  | msix
  | none

/-- Whether a block holds covered registers: it has a tag. -/
def hasTag (u b : Nat) : Bool :=
  cards.any (fun c => decide (c.u0 ≤ u ∧ u ≤ c.u1 ∧ c.blk ≤ b) && decide ((b - c.blk) % c.bs = 0 ∧ (b - c.blk) / c.bs < c.bc)
    && (coverOf ⟨c.name, u, 0, 0, 0⟩).isSome)

/-- What stands at an address. -/
def placeOf (a : Nat) : Place :=
  let o := adrOff a
  let base := a - o
  if o = tagOff then (if hasTag (adrUnit a) (adrBlk a) then .tag else .none)
  else if 0x80000 ≤ o then
    match findCard (base + (o - 0x80000) / 32 * 8) with
    | some _ => .occ
    | Option.none => .none
  else if shadowOff ≤ o then
    match findCard (a - shadowOff) with
    | some (_, x) => if (coverOf x).isSome then .shadow x else .none
    | Option.none => .none
  else match findCard a with
    | some (c, x) => .reg c x
    | Option.none =>
      if base = adr 0 0x60 0 ∧ ((0x20000 ≤ o ∧ o < 0x20400) ∨ o = 0x21000) then .msix else .none

/-- How the word at an address reads. -/
def readReg (s : State) (a : Nat) : Word :=
  match placeOf a with
  | .reg _ x => viewOf s x (rd s a)
  | .none => 0
  | _ => rd s a

/-! ## Copying covered registers (R331) -/

/-- Registers of a unit that show other state, so that their shadows are made even when the unit holds their reset values. -/
def viewedRegs (s : State) (c : Cover) : List Nat :=
  match c with
  | .hub =>
    (List.range 4).flatMap (fun n => [CH_ADM_STS n, CH_ADM_AVAIL n, CH_ADM_ROPES n, CH_PIN_CAP n, CH_SLEW_STS n, CH_FQ_STS n]
      ++ (List.range 64).map (CH_PRE_REQ n))
    ++ (s.regs.filterMap (fun e => if adr 0 0x20 0 ≤ e.1 ∧ e.1 < adr 0 0x20 0 + 8192 then some (e.1 + 0x100000) else Option.none)) ++ [HP_ROLE]
  | .unit k =>
    if k < 1536 then
      let n := k / 384
      let b := k % 384
      [CD_BK_SGOCC n b, CD_BK_SCHED n b, CD_BK_DMA n b, CD_ME_STS n b, CD_ME_OCC n b] ++ (List.range 8).map (CD_BK_LSLOT n b)
    else if k < 1600 then
      s.regs.filterMap (fun e =>
        let a := e.1 - adrOff e.1
        if a = adr ((k - 1536) / 16 + 1) 0x100 0 ∧ adrOff e.1 / 8 / 256 = (k - 1536) % 16 then some (e.1 + 0x100000) else Option.none)
    else if k < 1604 then [CD_DMAQ_STS (k - 1600), CD_HBM_STS (k - 1600) 0, CD_HBM_STS (k - 1600) 1]
    else if k = keyPi then [adr 6 0x10 0x88]
    else []

/-- The registers that stand behind a covered unit: whether an address is one. -/
def coveredBy (c : Cover) (a : Nat) : Bool :=
  match placeOf a with
  | .reg _ x => coverOf x == some c
  | _ => false

/-- R331: a unit takes its cut: each covered register is copied into its shadow, and the tags of its blocks take the ID. -/
def copyCovered (s : State) (c : Cover) : State :=
  let old := tabDrop (fun a => decide (shadowOff ≤ adrOff a ∧ adrOff a < tagOff) && coveredBy c (a - shadowOff)) s.regs
  let list := (s.regs.map (·.1)).filter (fun a => decide (adrOff a < shadowOff) && coveredBy c a) ++ viewedRegs s c
  let regs := list.foldl (fun t a => tabSet resetWord t (a + shadowOff) (readReg s a)) old
  { s with regs := regs }

/-- The tag of a block. -/
def setTag (s : State) (u b v : Nat) : State := wr s (adr u b tagOff) (BitVec.ofNat 64 v)

/-- The blocks whose tags a unit's cut sets: (unit, block). -/
def tagBlocks (c : Cover) : List (Nat × Nat) :=
  match c with
  | .hub => [(0, 0x010), (0, 0x020), (0, 0x021), (0, 0x040), (0, 0x041), (0, 0x060), (8, 0), (10, 0)]
    ++ (List.range 4).flatMap (fun n => [(n + 1, 0x900), (n + 1, 0x901), (n + 1, 0x902), (n + 1, 0x903), (n + 1, 0x904)])
  | .unit k =>
    if k < 1536 then [(k / 384 + 1, 0x400 + k % 384)]
    else if k < 1600 then [((k - 1536) / 16 + 1, 0x100), ((k - 1536) / 16 + 1, 0x101)]
    else if k < 1604 then ([0x020, 0x040, 0x050, 0x060, 0x070, 0x071, 0x072, 0x073] : List Nat).map (fun b => (k - 1600 + 1, b))
    else if k = keyPi then ([0x003, 0x010, 0x020] : List Nat).map (fun b => (6, b)) ++ (List.range 10).map (fun r => (6, 0x030 + r))
    else
      let e := k - 1604
      [(5, 16 * e), (5, 16 * e + 1), (5, 16 * e + 3)] ++ ((List.range 24).filter (fun r => ropeOe r == e)).map (fun r => (5, 0x080 + r))

/-- R331, R334: the cut of a unit. -/
def takeCut (s : State) (c : Cover) (id : Nat) : State :=
  (tagBlocks c).foldl (fun s p => if hasTag p.1 p.2 then setTag s p.1 p.2 (id % 65536 + 65536) else s) (copyCovered s c)

end Sys2Proof.Machine
end

