-- ==== Sys2Proof/Machine/Snapshot.lean ====
section
/-! DEFINITION. The snapshot wave, conditional clears and the trace ring (R327, R330-R337). -/
namespace Sys2Proof.Machine

/-! ## The wave (R330-R335) -/

/-- R330: a live promise whose entry holds shares of an interposer rope. -/
def liveIpShares (s : State) : Bool :=
  (List.range 4).any (fun n => (ledAll s n).any (fun e => liveLed (getF s (CH_LEDGER_STATE n e.1)) && (e.2.usesRope n 6 || e.2.usesRope n 7)))

/-- R330: carry out the command in SN_CMD, whose STATUS is 1: the hub takes its cut and its own hold begins. -/
def snapCmd (s : State) : State :=
  if getF s SN_CMD_OP ≠ 1 then setF s SN_CMD_STATUS 3
  else if liveIpShares s ∨ s.boot.resetting then setFs s [(SN_CMD_STATUS, 3), (SN_STS_REFUSE, 1)]
  else
    let id := getF s SN_CMD_ID
    let dies := (List.range 4).filter (dieUp s)
    let s := setFs s [(SN_STS_ID, id), (SN_STS_CUT, 0), (SN_STS_SKIPPED, maskOfBits 4 (fun n => !dieUp s n)), (SN_STS_LATE, 0), (SN_STS_TORN, 0),
      (SN_STS_REFUSE, 0), (SN_STS_HOLD_NS, 0)]
    let s := takeCut s .hub id
    let s := readMod s (fun r => { r with snap := some ⟨id, dies, [], false⟩, hold := r.hold.filter (fun x => x.1 != 4) ++ [(4, s.hubTime)], rel := [] })
    snapEnd (snapRelease s)

/-- The die of a unit, and its key among the units of a snapshot. -/
def snapDie : SnapUnit → Option Nat
  | .brick n _ => some n
  | .knots n _ => some n
  | .die n => some n
  | _ => none
def snapKey : SnapUnit → Nat
  | .brick n b => keyBrick n b
  | .knots n c => keyKnots n c
  | .die n => keyDie n
  | .engine k => keyEngine k
  | .interposer => keyPi

/-- R330, R335: whether a marker reaches the unit: its die is in scope, its engine admitted and not lost. -/
def inScope (s : State) (x : SnapX) (u : SnapUnit) : Bool :=
  match u, snapDie u with
  | .engine k, _ => bitN (getF s HP_CAP_EFF_OE_ADMITTED) k == 1 && getF s (OE_STS_STATE k) != 6
  | _, some n => x.dies.contains n
  | _, none => true

/-- R331: SNAPSHOT_MARKER: the first marker of the snapshot arrives at a unit: it takes its cut, and the gateway of a die begins to hold. Later ones
are absorbed. -/
def execSnapshotMarker (u : SnapUnit) (s : State) : Out :=
  .next (match s.read.snap with
    | none => s
    | some x =>
      if !inScope s x u ∨ x.cut.contains (snapKey u) then s
      else
        let s := takeCut s (.unit (snapKey u)) x.id
        let s := readMod s (fun r => { r with snap := some { x with cut := x.cut ++ [(snapKey u)] } })
        let s := match u with
          | .die n => readMod s (fun r => { r with hold := r.hold.filter (fun h => h.1 != n.val) ++ [(n.val, s.hubTime)] })
          | _ => s
        snapEnd s)

/-- R332: whether every node of a die has taken its cut. -/
def dieCut (x : SnapX) (n : Nat) : Bool :=
  (List.range 384).all (fun b => x.cut.contains (keyBrick n b)) && (List.range 16).all (fun c => x.cut.contains (keyKnots n c))
  && x.cut.contains (keyDie n)

/-- R332: SNAPSHOT_CONFIRM: the confirm of die `n` reaches the hub. -/
def execSnapshotConfirm (n : Die) (s : State) : Out :=
  .next (match s.read.snap with
    | none => s
    | some x =>
      if !x.dies.contains n.val ∨ !dieCut x n then s
      else snapEnd (snapRelease (setF s SN_STS_CUT (putN (getF s SN_STS_CUT) n 1 1))))

/-- R332: SNAPSHOT_RELEASE: release reaches die `n`, whose gateway resumes. -/
def execSnapshotRelease (n : Die) (s : State) : Out :=
  .next (if s.read.rel.contains n.val then endHold s n (heldFor s n) else s)

/-- SN_CTL.HOLD_LIM. -/
def holdLim (s : State) : Nat := max 100 (min 100000 (getF s SN_CTL_HOLD_LIM))

/-- R332, R335: SNAPSHOT_HOLD_LIMIT: die `n` has held for HOLD_LIM without a release. While the hub is absent no status changes. -/
def execSnapshotHoldLimit (n : Die) (s : State) : Out :=
  .next (if !gatewayHeld s n then s
    else if s.hub.down ∨ (dieGet s n).hubAbsent then
      readMod s (fun r => { r with hold := r.hold.filter (fun x => x.1 != n.val), rel := r.rel.filter (· != n.val) })
    else setFs (endHold s n (holdLim s)) [(SN_STS_LATE, putN (getF s SN_STS_LATE) n 1 1), (SN_STS_TORN, 1)])

/-! ## Conditional clears (R327) -/

/-- R327: the position of a flag among the W1C bits of its register. -/
def flagIndex (w1c bit : Nat) : Nat := popN 64 (w1c % 2 ^ bit)

/-- R327: carry out the command in SN_CCLR, whose STATUS is 1. -/
def cclrCmd (s : State) : State :=
  let a := 8 * getF s SN_CCLR_ADDR
  let bit := getF s SN_CCLR_BIT
  let refuse (o : Nat) : State := setFs s [(SN_CCLR_STATUS, 3), (SN_CCLR_RES_OUTCOME, o), (SN_CCLR_RES_COUNT, 0)]
  let u := adrUnit a
  if u = 7 ∨ 10 < u then refuse 5
  else match placeOf a with
    | .reg c _ =>
      if bitN c.w1c bit = 0 then refuse 4
      else if 1 ≤ u ∧ u ≤ 4 ∧ adrBlk a < 0x800 ∧ !dieUp s (u - 1) then refuse 6
      else
        let f : Fld := ⟨a, bit, bit, flagIndex c.w1c bit⟩
        let n := occOf s f
        let same := decide (n = getF s SN_CCLR_EXPECT)
        let s := if same then setF s f 0 else s
        setFs s [(SN_CCLR_STATUS, 2), (SN_CCLR_RES_OUTCOME, b2n (!same)), (SN_CCLR_RES_COUNT, n)]
    | _ => refuse 4

/-! ## Trace (R336, R337) -/

/-- Table 10-5: the source of a unit's records. -/
def traceSrc (u : Nat) : Nat := if 1 ≤ u ∧ u ≤ 4 then u - 1 else if u = 5 then 5 else if u = 6 then 6 else if u = 8 then 7 else 4

/-- The number of records in the trace ring. -/
def traceSize (s : State) : Nat := 2 ^ (min 10 (getF s SN_TRC_RING_SIZE) + 10)

/-- R336: the trace unit writes its oldest queued record at TAIL. -/
def traceWrite (s : State) : State :=
  match s.read.queue with
  | [] => s
  | x :: t =>
    let size := traceSize s
    let tail := getF s SN_TRC_PTR_TAIL % size
    if getF s SN_TRC_STS_STOPPED = 1 then s
    else if getF s SN_TRC_CTL_STOP = 1 ∧ (tail + 1) % size = getF s SN_TRC_PTR_HEAD % size then flag s SN_TRC_STS_STOPPED
    else
      let wraps := getF s SN_TRC_CTL_STOP = 0 ∧ size ≤ s.read.count
      let s := devWrite s 4 (4096 * getF s SN_TRC_RING_BASE + 32 * tail) (leBytes 32 x) false
      let s := if wraps then flag s SN_TRC_STS_WRAPPED else s
      setF (readMod s (fun r => { r with queue := t, count := r.count + 1 })) SN_TRC_PTR_TAIL ((tail + 1) % size)

/-- R336, Table 10-5: TRACE_RECORD: what it names has just happened, and its record reaches the trace unit; or the unit writes a record. -/
def execTraceRecord (t : TraceIn) (s : State) : Out :=
  .next (match t with
    | .flag a bit =>
      (match placeOf a with
       | .reg c _ =>
         if bitN c.w1c bit = 1 ∧ (rd s a).getLsbD bit then
           tracePush s 1 (traceSrc (adrUnit a)) (adrUnit a % 16 + 16 * adrBlk a) (adrOff a + 2 ^ 20 * bit) 0
         else s
       | _ => s)
    | .ledger n i old =>
      tracePush s 2 n i (old.val + 8 * getF s (CH_LEDGER_STATE n i) + 64 * getF s (CH_LEDGER_RISK n i)) (getF s (CH_LEDGER_TAG n i))
    | .ply p old =>
      tracePush s 3 p.n p.b (p.q.val + 4 * old.val + 32 * plyState s p.n p.b p.q + 256 * getF s (CD_PLY_CAUSE_CAUSE p.n p.b p.q)) (getPc s p)
    | .knot i =>
      let h := getF s (SN_TRC_KNOT_HANDLE i)
      if getF s (SN_TRC_KNOT_EN i) = 1 then tracePush s 4 (getF s (SN_TRC_KNOT_CHAN i)) 0 (h + 2 ^ 16 * getF s (kGen h)) 0 else s
    | .rope r old =>
      tracePush s 5 (if r.val < 24 then 5 else 6) (if r.val < 24 then r.val + 1 else r.val - 24) (old.val + 8 * ropeState s r) 0
    | .fault c df slot =>
      tracePush s 6 c 0 0 (rd s (if df then FC_LOG_DF c slot 0 else FC_LOG_C c slot 0)).toNat
    | .write => traceWrite s)

/-- R337: carry out a write to SN_TRC_MARK. -/
def markCmd (s : State) : State :=
  if traceOn s 8 4 then setF (tracePush s 8 4 0 (getF s SN_TRC_MARK_VALUE) 0) SN_TRC_MARK_STATUS 2 else setF s SN_TRC_MARK_STATUS 3

end Sys2Proof.Machine
end

