-- ==== Sys2Proof/Machine/Boot.lean ====
section
/-! DEFINITION. Start-up and trust: cold start, hub reset and re-attach, staging, the hitch, promotion, recovery mode and certificates
(R379-R396, R403). -/
namespace Sys2Proof.Machine

/-! ## Certificates (R394, R395) -/

/-- Table 13-11: byte `i` of a certificate, and a field of `n` bytes. -/
def certF (c i n : Nat) : Nat := byteN c i n

/-- R394: the first check that a certificate fails. A kind that names no key is checked against the feature key. -/
def certRefusal (s : State) (c : Nat) : Option Nat :=
  let kind := certF c 1 1
  if !Config.pssVerify (if kind = 0x10 then 2 else 1) (leBytes 128 c) (certF c 128 384) then some 1
  else if certF c 16 4 ≠ 0x4D585531 then some 2
  else if certF c 8 8 ≠ s.hub.fuses.uid then some 3
  else if (1 ≤ kind ∧ kind ≤ 4) ∨ kind = 0x10 then none
  else some 4

/-- The certificate in a slot of the store; 0 none. -/
def certAt (s : State) (i : Nat) : Nat := tabGet (fun _ => 0) s.boot.flash.certs i

/-- R394: what INSTALL makes of a certificate that has been read. -/
def takeCert (s : State) (c : Nat) (bad : Bool) : State :=
  let done (s : State) : State := setFs s [(HP_CERT_CMD_STATUS, 2), (HP_CERT_CMD_REASON, 0)]
  let refuse (r : Nat) : State := setFs s [(HP_CERT_CMD_STATUS, 3), (HP_CERT_CMD_REASON, r)]
  match (if bad then some 1 else certRefusal s c) with
  | some r => refuse r
  | none =>
    if certF c 1 1 = 0x10 then done (setF (bootMod s (fun b => { b with debug := certF c 20 1 })) HP_BOOT_STS_DEBUG 1)
    else if (List.range 16).any (fun i => certAt s i == c) then done s
    else match (List.range 16).find? (fun i => certAt s i == 0) with
      | none => refuse 5
      | some i =>
        let s := flashMod s (fun f => { f with certs := tabSet (fun _ => 0) f.certs i c })
        done (setFs s [(HP_CERT_KIND i, certF c 1 1), (HP_CERT_VALID i, 0), (HP_CERT_INFORCE i, 0), (HP_CERT_SERIAL i, certF c 4 4)])

/-- R394: carry out the command in HP_CERT_CMD, whose STATUS is 1. -/
def certCmd (s : State) : State :=
  if getF s HP_CERT_CMD_OP ≠ 1 then setFs s [(HP_CERT_CMD_STATUS, 3), (HP_CERT_CMD_REASON, 0)]
  else match devRead s 4 (hostBase + (rd s HP_CERT_ADDR).toNat % 2 ^ 51) 512 with
    | .wait s => holdCmd s HP_CERT_CMD true
    | .ok b bad s => takeCert s (leVal b) bad

/-- R394, R5: at a cold start the stored certificates are checked, and the good ones take effect. -/
def checkCerts (s : State) : State :=
  let good (k : Nat) : Bool := (List.range 16).any (fun i => certAt s i != 0 && (certRefusal s (certAt s i)).isNone && certF (certAt s i) 1 1 == k)
  let s' := (List.range 16).foldl (fun t i =>
    let c := certAt s i
    let ok := b2n (c != 0 && (certRefusal s c).isNone)
    if c = 0 then wr t (HP_CERT i) 0
    else setFs t [(HP_CERT_KIND i, certF c 1 1), (HP_CERT_VALID i, ok), (HP_CERT_INFORCE i, ok), (HP_CERT_SERIAL i, certF c 4 4)]) s
  setFs s' [(HP_CAP_EFF_CERT_ROPE, b2n (good 1)), (HP_CAP_EFF_CERT_AOR, b2n (good 2)), (HP_CAP_EFF_CERT_GUEST, b2n (good 3)),
    (HP_CAP_EFF_CERT_MERGE4, b2n (good 4))]

/-! ## Held commands (R385, R389) -/

/-- The phase of the hitch in progress; 0 none. -/
def hitchPhase (s : State) : Nat := (s.boot.hitch.map (·.phase)).getD 0

/-- R385, R389: whether the management firmware cannot take a command now. -/
def fwAway (s : State) : Bool := !s.boot.fwUp || decide (getF s HP_BOOT_STS_STAGE < 7) || decide (1 ≤ hitchPhase s ∧ hitchPhase s ≤ 3)

/-- R389: the firmware-owned registers. -/
def fwOwned (a : Nat) : Bool :=
  a == HP_CERT_CMD || a == HP_KS_MB || a == SN_CMD || a == HP_SPAN_CMD || a == HP_BRIDGE_CMD || (List.range 4).any (fun n => a == CH_DIE_CMD n)

/-! ## Staging (R387, R388) -/

/-- A firmware command ends: its new state, STATUS and REASON. -/
structure FwDone where
  s : State
  status : Nat
  reason : Nat

def fwRefuse (s : State) (r : Nat) : FwDone := ⟨s, 3, r⟩
def fwOk (s : State) : FwDone := ⟨s, 2, 0⟩

/-- Whether slot B may be staged or discarded. -/
def slotFree (s : State) : Bool := !(bState s == 3 || bState s == 4 || bState s == 5)

/-- Slot B is erased. -/
def eraseB (s : State) : State := setF (bootMod (flashMod s (fun f => { f with slotB := [] })) (fun b => { b with written := [] })) HP_FW_STS_BLOCKS 0

def stageBegin (s : State) : FwDone :=
  if !slotFree s then fwRefuse s 10 else fwOk (putRec (eraseB s) (fun r => { r with bState := 1, verB := 0 }))

/-- R387: a block of slot B. -/
def stageBlock (s : State) (off crc : Nat) (data : List Byte) (bad : Bool) : FwDone :=
  if data = [] ∨ 65536 < data.length ∨ off % 4096 ≠ 0 ∨ slotSize < off + data.length ∨ bad ∨ crc32 data ≠ crc then fwRefuse s 9
  else
    let s := flashMod s (fun f => { f with slotB := slotPut f.slotB off data })
    fwOk (satF (bootMod s (fun b => { b with written := b.written ++ [(off, data.length)] })) HP_FW_STS_BLOCKS 1)

/-- Whether `[lo, hi)` has been written, by at most `fuel` blocks. -/
def covered (w : List (Nat × Nat)) : Nat → Nat → Nat → Bool
  | 0, lo, hi => decide (hi ≤ lo)
  | k + 1, lo, hi =>
    if hi ≤ lo then true
    else
      let reach := (w.filter (fun x => decide (x.1 ≤ lo))).foldl (fun m x => max m (x.1 + x.2)) lo
      if reach ≤ lo then false else covered w k reach hi

def stageEnd (s : State) : FwDone :=
  if bState s ≠ 1 then fwRefuse s 10
  else if (List.range 15).all (fun j =>
      let off := entF s true j 8 4
      covered s.boot.written s.boot.written.length off (off + entF s true j 12 4)) then
    fwOk (putRec s (fun r => { r with bState := 2, verB := slotLE s true 12 4 }))
  else fwRefuse s 9

def discard (s : State) : FwDone :=
  if !slotFree s then fwRefuse s 10 else fwOk (putRec (eraseB s) (fun r => { r with bState := 0, verB := 0 }))

/-- R390, Table 13-10: a set is rejected; its reason is shown and recorded. -/
def rejectB (s : State) (r : Nat) : State := setF (putRec s (fun x => { x with bState := 6, reason := r })) HP_BOOT_STS_ERR r

/-- R393: ACTIVATE in recovery mode. -/
def recoveryActivate (s : State) : FwDone :=
  if bState s ≠ 2 then fwRefuse s 10
  else match verifySet s true false .ok with
    | some r => fwRefuse (rejectB s r) r
    | none =>
      let s := flashMod (raiseFuses s true) (fun f => { f with slotA := f.slotB })
      fwOk (putRec s (fun r => { r with fails := 0, verA := slotLE s true 12 4 }))

/-- A command of HP_FW_CMD ends. -/
def fwEnd (d : FwDone) : State := setFs d.s [(HP_FW_CMD_STATUS, d.status), (HP_FW_CMD_REASON, d.reason)]

/-- R387, R389-R391: carry out the command in HP_FW_CMD, whose STATUS is 1. ACTIVATE, COMMIT and REVERT end later. `fuse`: the fuses can be blown. -/
def fwCmd (s : State) (fuse : Bool) : State :=
  let rec_ := decide (getF s HP_BOOT_STS_STAGE = 8)
  if !rec_ ∧ fwAway s then holdCmd s HP_FW_CMD fuse
  else match getF s HP_FW_CMD_OP with
    | 1 => fwEnd (stageBegin s)
    | 2 =>
      let len := getF s HP_FW_CMD_LEN
      if bState s ≠ 1 then fwEnd (fwRefuse s 10)
      else if len = 0 ∨ 65536 < len then fwEnd (fwRefuse s 9)
      else
        let pa := hostBase + (rd s HP_FW_ARG0).toNat % 2 ^ 51
        let take (s : State) (b : List Byte) (bad : Bool) : State := fwEnd (stageBlock s (getF s HP_FW_ARG1_OFFSET) (getF s HP_FW_ARG1_CRC) b bad)
        if rec_ then take s (readBytes s pa len) (anyPoison s pa len)
        else (match devRead s 4 pa len with
          | .wait s => holdCmd s HP_FW_CMD fuse
          | .ok b bad s => take s b bad)
    | 3 => fwEnd (stageEnd s)
    | 4 =>
      if rec_ then fwEnd (recoveryActivate s)
      else if bState s ≠ 2 then fwEnd (fwRefuse s 10)
      else bootMod s (fun b => { b with hitch := some ⟨1, none, false, false, s.hubTime⟩ })
    | 5 =>
      if bState s ≠ 4 then fwEnd (fwRefuse s 10)
      else if !fuse then fwEnd (fwRefuse s 8)
      else putRec (raiseFuses s true) (fun r => { r with bState := 5 })
    | 6 => if bState s ≠ 4 then fwEnd (fwRefuse s 10) else bootMod s (fun b => { b with hitch := some ⟨1, none, true, true, s.hubTime⟩ })
    | 7 => fwEnd (discard s)
    | _ => fwEnd (fwRefuse s 0)

/-- Carry out the accepted command of a command register that may have to wait. -/
def runHeld (s : State) (a : Nat) (ok : Bool) : State :=
  if fwOwned a ∧ fwAway s then holdCmd s a ok
  else if a = HP_CERT_CMD then certCmd s
  else if a = HP_FW_CMD then fwCmd s ok
  else if a = HP_KS_MB then mbCmd s ok
  else if a = SN_CMD then snapCmd s
  else if a = HP_SPAN_CMD then spanCmd s
  else if a = HP_BRIDGE_CMD then bridgeCmd s
  else if a = PI_AOR_CMD then aorCmd s
  else if adrUnit a = 5 then oeCmd s (adrBlk a / 16)
  else if adrBlk a = 0x8F0 then dieCmd s (adrUnit a - 1)
  else if 0x400 ≤ adrBlk a then plyCmd s (plyAt (adrUnit a - 1) (4 * (adrBlk a - 0x400) + (adrOff a - 0x2000) / 0x400))
  else s

/-- R389: the commands that wait are tried, in the order in which they were accepted; one that must still wait stays. -/
def serveHeld (s : State) : State :=
  s.boot.held.foldl (fun s x => runHeld s x.1 x.2) (bootMod s (fun b => { b with held := [] }))

/-! ## The hitch (R389, R390) -/

/-- What becomes of a unit whose turn it is to restart: it restarts, it takes its image at once, or it is skipped. -/
inductive UnitTurn where
  | restart | load | skip
  deriving DecidableEq, Repr

def unitTurn (s : State) (i : Nat) : UnitTurn :=
  if i = 1 then .restart
  else if i < 10 then
    match getF s (OE_STS_STATE (i - 2)) with
    | 1 => .load
    | 3 | 4 => .restart
    | _ => .skip
  else if dieUp s (i - 10) then .restart else .skip

/-- Table 13-8: the phase of a unit's restart. -/
def unitPhase (i : Nat) : Nat := if i = 1 then 4 else if i < 10 then 5 else 6

def setHitch (s : State) (h : Hitch) : State := bootMod s (fun b => { b with hitch := some h })

/-- R389: the next restart among the units from `i`, or phase 7. A reversion restarts the units that run a slot B image. -/
def nextUnit (h : Hitch) : Nat → Nat → State → State
  | 0, _, s => setHitch s { h with phase := 7, unit := none, since := s.hubTime }
  | k + 1, i, s =>
    if h.back ∧ getF s (HP_FW_COMP_SLOT i) = 0 then nextUnit h k (i + 1) s
    else match unitTurn s i with
      | .skip => nextUnit h k (i + 1) (loadComp s i (!h.back) false true)
      | .load => nextUnit h k (i + 1) (loadComp s i (!h.back) true false)
      | .restart =>
        let s := loadComp s i (!h.back) false false
        let s := if 2 ≤ i ∧ i < 10 ∧ getF s (OE_STS_STATE (i - 2)) = 3 then setF s (OE_STS_STATE (i - 2)) 4 else s
        setHitch s { h with phase := unitPhase i, unit := some i, since := s.hubTime }

/-- R390: an activation fails: slot B is rejected and phase 3 runs again with slot A. -/
def revertHitch (s : State) (h : Hitch) (r : Nat) : State :=
  setHitch (rejectB (bootMod s (fun b => { b with fwUp := false })) r) { h with phase := 3, unit := none, back := true, since := s.hubTime }

/-- R389, R390: HITCH_PHASE: the phase in progress completes: 1 the hand-over record, 2 the verification, 3 the start of management firmware,
which finds the record good (`recOk`) or not, 7 the end. -/
def execHitchPhase (recOk : Bool) (io : FlashIO) (s : State) : Out :=
  .next (match s.boot.hitch with
    | none => s
    | some h =>
      match h.phase with
      | 1 =>
        let s := setF (bootMod s (fun b => { b with fwUp := false })) HP_BOOT_STS_STAGE 7
        if h.back then setHitch s { h with phase := 3, since := s.hubTime }
        else setHitch (putRec s (fun r => { r with bState := 3 })) { h with phase := 2, since := s.hubTime }
      | 2 =>
        (match verifySet s true true io with
         | some r => revertHitch s h r
         | none => setHitch s { h with phase := 3, since := s.hubTime })
      | 3 =>
        if !h.back ∧ !recOk then revertHitch s h 14
        else
          let s := bootMod (loadComp s 0 (!h.back) true false) (fun b => { b with fwUp := true })
          let s := setFs s [(HP_BOOT_STS_SLOT, b2n (!h.back)), (HP_BOOT_STS_BOOT, 2)]
          serveHeld (nextUnit h 13 1 s)
      | 7 =>
        let s := setF (bootMod s (fun b => { b with hitch := none })) HP_BOOT_STS_STAGE 9
        if h.asked then fwEnd (fwOk (putRec s (fun r => { r with bState := 2 })))
        else if h.back then fwEnd (fwRefuse s (getF s HP_BOOT_STS_ERR))
        else fwEnd (fwOk (putRec s (fun r => { r with bState := 4 })))
      | _ => s)

/-- R389: UNIT_READY: the restarting unit reports ready; an engine leaves OPEN_LOOP (R243). -/
def execUnitReady (i : Fin 15) (s : State) : Out :=
  .next (match s.boot.hitch with
    | some h =>
      if h.unit ≠ some i.val then s
      else
        let us := min ((s.hubTime - h.since) / 1000) 65535
        let s := setF s (HP_FW_COMP_READY i) 1
        let s := if i.val < 10 then setF s (HP_FW_COMP_OL_US i) us else s
        let k := i.val - 2
        let s := if 2 ≤ i.val ∧ i.val < 10 ∧ getF s (OE_STS_STATE k) = 4 then
            setF (if clkLost s (46 + k) then s else setF s (OE_STS_STATE k) 3) (OE_STS_LAST_OL_US k) us
          else s
        serveHeld (nextUnit h (13 - i.val) (i + 1) s)
    | none => s)

/-- R390, R396: HITCH_UNIT_TIMEOUT: the unit in turn has not reported ready within its limit: activation reverts. A unit that has been lost is
skipped. -/
def execHitchUnitTimeout (s : State) : Out :=
  .next (match s.boot.hitch with
    | none => s
    | some h =>
      match h.unit with
      | none => if h.phase = 3 ∧ !h.back then revertHitch s h 13 else s
      | some i =>
        if unitTurn s i = .skip then nextUnit h (13 - i) (i + 1) (loadComp s i (!h.back) false true)
        else if h.back then s
        else revertHitch s h 13)

/-- R391: PROMOTION_COMPLETE: the copy of slot B over slot A is verified, and slot B is erased. -/
def execPromotionComplete (s : State) : Out :=
  .next (if bState s ≠ 5 ∨ !s.boot.fwUp then s
    else
      let s := eraseB (flashMod s (fun f => { f with slotA := f.slotB }))
      let s := putRec s (fun r => { r with bState := 0, verA := r.verB, verB := 0 })
      if getF s HP_FW_CMD_OP = 5 ∧ getF s HP_FW_CMD_STATUS = 1 then fwEnd (fwOk s) else s)

/-! ## Recovery mode (R393) -/

/-- What every laser of the package does at safe low power. -/
def allSafe (s : State) : State := (List.range 34).foldl (fun s r => ropeOff (safeRope s r) r 1) s

/-- R393: the ROM enters recovery mode. -/
def enterRecovery (s : State) (cause : Nat) : State :=
  let s := allSafe s
  let s := (List.range 4).foldl (fun s n => setF (clearDie (dropDieMem s n) n) (CH_DIE_STS_STATE n) 0) s
  let s := setFs s [(GS_STS_TRAINED, 0), (GS_STS_X8, 0), (HP_ROLE_STATE, 0), (HP_BOOT_STS_STAGE, 8), (HP_BOOT_STS_RECOV, cause)]
  let s := hubMod s (fun h => { h with down := false, tests := [] })
  bootMod s (fun b => { b with fwUp := false, awaitOk := false, hitch := none, resetting := false })

/-- R393, Table 13-9: RECOVERY_FRAME: a frame arrives on the UART with its sequence number; `crcOk` says whether its CRC holds. STAGE_BLOCK carries the
slot offset, the CRC-32 of its data, and the data. -/
def execRecoveryFrame (seq : BitVec 8) (op : BitVec 8) (off : BitVec 32) (crc : BitVec 32) (data : List Byte) (crcOk : Bool) (s : State) : Out :=
  .next (if getF s HP_BOOT_STS_STAGE ≠ 8 ∨ !crcOk ∨ clkLost s 58 then s
    else
      let again := match s.boot.uart with
        | some u => if u.1 = seq.toNat then some u else none
        | none => none
      match again with
      | some u => bootMod s (fun b => { b with uartOut := b.uartOut ++ [u] })
      | none =>
        let d : FwDone := match op.toNat with
          | 1 => stageBegin s
          | 2 => if bState s ≠ 1 then fwRefuse s 10 else stageBlock s off.toNat crc.toNat data false
          | 3 => stageEnd s
          | 4 => recoveryActivate s
          | 5 | 6 => fwRefuse s 10
          | 7 => discard s
          | _ => fwRefuse s 0
        let u := (seq.toNat, d.status, d.reason)
        bootMod d.s (fun b => { b with uart := some u, uartOut := b.uartOut ++ [u] }))

/-! ## Boot attempts (R380, R392) -/

/-- R380: neither copy of the record is valid: a new one is written into copy 0. -/
def newRecord (s : State) (io : FlashIO) : State :=
  let ver := if io ≠ .readErr ∧ slotLE s false 0 4 = 0x4D464E54 then slotLE s false 12 4 else 0
  let s := eraseB (flashMod s (fun f => { f with rec0 := some ⟨1, 0, 1, 12, ver, 0⟩ }))
  setF (showRec s) HP_BOOT_STS_ERR 12

/-- R392: a boot attempt fails. -/
def failBoot (s : State) (r : Nat) : State := setF (putRec s (fun x => { x with fails := x.fails + 1, reason := r })) HP_BOOT_STS_ERR r

/-- Stage 1 of Table 13-6 as far as the record goes: recovery mode, a new record, or a record with which the boot goes on (true). A trial or an
activation does not survive (Table 13-7). -/
def bootStage1 (s : State) (io : FlashIO) : Bool × State :=
  if s.boot.recoveryN then (false, enterRecovery s 1)
  else match bootRec s with
    | none => (false, if io = .writeErr then enterRecovery s 0 else newRecord s io)
    | some (r, _) =>
      if 2 ≤ r.fails then (false, enterRecovery s 2)
      else (true, showRec (if r.bState = 3 ∨ r.bState = 4 then putRec s (fun x => { x with bState := 2 }) else s))

/-- R386, R392: the boot attempts after a hub reset: whether one of them verified its set. -/
def bootAttempts (io : FlashIO) : Nat → State → Bool × State
  | 0, s => (false, s)
  | k + 1, s =>
    match bootStage1 s io with
    | (true, s) =>
      let b := decide (bState s = 5)
      (match verifySet s b b io with
       | none => (true, s)
       | some r => bootAttempts io k (failBoot s r))
    | (false, s) => if getF s HP_BOOT_STS_STAGE = 8 then (false, s) else bootAttempts io k s

/-! ## Hub reset and re-attach (R47, R48, R386) -/

/-- R47: the registers of the hub that its reset returns to their reset values: the guest firewall, the keystone's mirror, snapshots and trace, the
fault collectors, the host port, the mailbox, the span knots. The group table (R304), the host shares, FC_PKG and FC_GRAVE (R352) stay. -/
def hubRegister (a : Nat) : Bool :=
  let u := adrUnit a
  let b := adrBlk a
  u == 8 || u == 7 || u == 10 || (u == 9 && a != FC_PKG && a != FC_GRAVE 0 && a != FC_GRAVE 1)
  || (u == 0 && (b == 0x020 || b == 0x021 || b == 0x070
      || (b == 0x060 && a != HP_GRP_STS && !(decide (HP_GRP_MEMBER 0 0 ≤ a ∧ a < HP_HOST_SHARE 2)))))

/-- R47, R386: the hub is reset. -/
def hubReset (s : State) (io : FlashIO) : State :=
  let fenced := getF s GS_STS_FENCED
  let held := (List.range 4).filter (fun n => getF s (FC_STS_FENCED n) == 1)
  let s := hubLost s
  let s := held.foldl (fun s n => dieMod s n (fun d => { d with localFence := true })) s
  let s := { s with regs := tabDrop hubRegister s.regs }
  let s := setF s GS_STS_FENCED fenced
  let s := hubMod s (fun h => { h with irqs := [], port := { PortX.reset with perst := h.port.perst }, fc := { FcX.reset with pausedAt := h.fc.pausedAt } })
  let s := readMod s (fun r => { r with queue := [], seq := 0, count := 0 })
  let s := { s with ks := { s.ks with mb := none, resent := false } }
  let s := bootMod s (fun b => { b with
    resetAt := s.hubTime
    hitch := none
    fwUp := false
    awaitOk := false
    resetting := true
    debug := 0
    held := b.held.filter (fun x => decide (1 ≤ adrUnit x.1 ∧ adrUnit x.1 ≤ 6)) })
  let s := setFs s [(HP_BOOT_STS_DEBUG, 0), (HP_BOOT_STS_BOOT, 1), (HP_BOOT_STS_STAGE, 0)]
  let s := wr (wr s HP_FW_CMD 0) HP_CERT_CMD 0
  match bootAttempts io 3 s with
  | (true, s) => startTest (setF s HP_BOOT_STS_STAGE 1) 5
  | (false, s) => s

/-- R386: HUB_RESET, with RECOVERY_N low (true) or high. Nothing but a power cycle leaves the safe state (R353) or recovery mode. -/
def execHubReset (recovery : Bool) (io : FlashIO) (s : State) : Out :=
  .next (if !s.boot.pwrok ∨ pkgSafe s ∨ getF s HP_BOOT_STS_STAGE = 8 then s
    else hubReset (bootMod s (fun b => { b with recoveryN := recovery })) io)

/-- R41: the guest policy of a set: GS_CTL, GS_TAG, GS_RATE and GS_WIN(0-15) as 64-bit words, in that order; then the lock. -/
def loadPolicy (s : State) (b : Bool) : State :=
  if getF s HP_CAP_EFF_CERT_GUEST = 0 then s
  else
    let off := entF s b 14 8 4
    let w (i : Nat) : Word := BitVec.ofNat 64 (slotLE s b (off + 8 * i) 8)
    let put (s : State) (a i : Nat) : State :=
      match findCard a with
      | some (c, _) => wr s a ((rd s a &&& ~~~(BitVec.ofNat 64 c.rwl)) ||| (w i &&& BitVec.ofNat 64 c.rwl))
      | none => s
    let s := put (put (put s GS_CTL 0) GS_TAG 1) GS_RATE 2
    let s := (List.range 16).foldl (fun s i => put s (GS_WIN i) (3 + i)) s
    setF (loadComp s 14 b true false) GS_CTL_LOCK 1

/-- R48, R386: REATTACH: the hub, back with its clock and its own links tested, attaches the dies again. After a reset it loads management firmware;
components on slot B images return to slot A images, and the guest policy is loaded again and locked. -/
def execReattach (s : State) : Out :=
  .next (if !s.hub.down ∨ clkLost s 55 ∨ testPhase s 5 ≠ 0 ∨ pkgSafe s ∨ getF s HP_BOOT_STS_STAGE = 8 then s
    else
      let resets := s.boot.resetting
      let s := reattach s resets
      if !resets then serveHeld s
      else
        let b := forceB s
        let s := loadComp s 0 b true false
        let s := ((List.range 13).map (· + 1)).foldl (fun s j =>
          if getF s (HP_FW_COMP_READY j) = 1 ∧ getF s (HP_FW_COMP_SLOT j) ≠ b2n b then loadComp s j b true false else s) s
        let s := loadPolicy s b
        let s := bootMod s (fun x => { x with fwUp := true, awaitOk := true, resetting := false })
        serveHeld (setFs s [(HP_BOOT_STS_SLOT, b2n b), (HP_BOOT_STS_STAGE, 9)]))

/-! ## Cold start (R384) -/

/-- Bring-up of the light of a rope (R232, R242): its data lasers are lit and their rings engaged, its spares are calibrated and saved. -/
def lightUp (s : State) (r : Nat) : State :=
  (List.range (lamCount r)).foldl (fun s l =>
    let (w, s) := draw s
    let bias := w.toNat % 12001
    if l < 16 then
      let s := setFs s [(OE_LAS_BIAS_BIAS r l, bias), (OE_LAS_BIAS_HIGH r l, b2n (decide (10000 < bias))), (OE_LAS_BIAS_STATE r l, 3),
        (ringF (modRing r l) 14 14, 1), (ringF (modRing r l) 44 40, l)]
      match (if r < 24 then dropRing s r l else none) with
      | some g => setFs s [(ringF g 14 14, 1), (ringF g 44 40, l)]
      | none => s
    else
      let (h, s) := draw s
      setFs s [(OE_LAS_BIAS_SAVED_BIAS r l, bias), (OE_LAS_BIAS_SAVED_HTR r l, h.toNat), (OE_LAS_BIAS_STATE r l, 1)]) s

/-- R224: an engine that carries external traffic: odd ones only with the rope extension certificate. -/
def oeCarries (s : State) (k : Nat) : Bool := k % 2 == 0 || getF s HP_CAP_EFF_CERT_ROPE == 1

/-- Stages 5 and 6 of Table 13-6 for an admitted engine: its image is loaded, its lasers are brought up, its ropes go from ABSENT to DOWN
(Table 8-7). -/
def startEngine (s : State) (b : Bool) (k : Nat) : State :=
  if bitN (getF s HP_CAP_EFF_OE_ADMITTED) k = 0 then loadComp s (2 + k) b false true
  else if oeCarries s k then
    let s := setFs (loadComp s (2 + k) b true false) [(OE_STS_STATE k, 3), (OE_STS_WREF k, 1)]
    (List.range 3).foldl (fun s i => setF (lightUp s (oeRope k i)) (OE_ROPE_STS_STATE (oeRope k i)) 1) s
  else setF (loadComp s (2 + k) b true false) (OE_STS_STATE k) 1

/-- R244: the interposer ropes whose both ends are admitted. -/
def ipRopes (s : State) : List Nat :=
  let up (d : Nat) : Bool := d == 4 || dieUp s d
  (List.range 10).filter (fun rho => up (ownerOf rho) && up (bankDie (homeBank s rho)))

/-- R29: the bias of the discovery lasers: the λ16 laser of each CDn.I0, at no more than 20 mA, or dark. -/
def discoveryLight (s : State) (on : Bool) : State :=
  (List.range 4).foldl (fun s n =>
    let (w, s) := draw s
    setF s (OE_LAS_BIAS_BIAS (24 + 2 * n) 16) (if on then w.toNat % 2001 else 0)) s

/-- R384, Table 13-6: the end of a stage of the cold start, by HP_BOOT_STS.STAGE. -/
def coldStage (s : State) (io : FlashIO) : State :=
  match getF s HP_BOOT_STS_STAGE with
  | 0 =>
    (match bootStage1 s io with
     | (true, s) => startTest ((List.range 4).foldl (fun s n => setF s (CH_DIE_STS_STATE n) 1) (setF s HP_BOOT_STS_STAGE 1)) 4
     | (false, s) => s)
  | 1 => if testPhase s 4 ≠ 0 then s else setF s HP_BOOT_STS_STAGE 2
  | 2 =>
    let s := checkCerts s
    let b := decide (bState s = 5)
    (match verifySet s b b io with
     | some r => setF (failBoot s r) HP_BOOT_STS_STAGE 0
     | none => discoveryLight (setF s HP_BOOT_STS_STAGE 3) true)
  | 3 =>
    if (List.range 4).any (fun n => getF s (CH_DIE_STS_STATE n) == 1 || getF s (CH_DIE_STS_STATE n) == 2) then s
    else setF (effectiveCaps (discoveryLight s false)) HP_BOOT_STS_STAGE 4
  | 4 =>
    let b := forceB s
    let s := bootMod (loadComp s 0 b true false) (fun x => { x with fwUp := true, awaitOk := true })
    let s := loadComp (setF s HP_BOOT_STS_SLOT (b2n b)) 1 b true false
    let s := (List.range 8).foldl (fun s k => startEngine s b k) s
    let s := (List.range 4).foldl (fun s n => if dieUp s n then trainHbm (loadComp s (10 + n) b true false) n else loadComp s (10 + n) b false true) s
    let s := (ipRopes s).foldl (fun s rho => enterTraining (setF (lightUp s (24 + rho)) (OE_ROPE_STS_STATE (24 + rho)) 1) (24 + rho)) s
    setF s HP_BOOT_STS_STAGE 5
  | 5 =>
    let busy := (List.range 4).any (fun n => dieUp s n && (List.range 2).any (fun k => getF s (CD_HBM_STS_STATE n k) == 1 || getF s (CD_HBM_STS_STATE n k) == 2))
    if busy ∨ (ipRopes s).any (fun rho => ropeState s (24 + rho) == 2) then s
    else setF ((ipRopes s).foldl (fun s rho => steerRope s rho (homeBank s rho)) s) HP_BOOT_STS_STAGE 6
  | 6 =>
    let s := loadPolicy s (forceB s)
    let s := (List.range 4).foldl (fun s n => if getF s (CH_DIE_STS_STATE n) = 3 then setF s (CH_ADM_CTL_EN n) 1 else s) s
    serveHeld (setFs s [(HP_BOOT_STS_STAGE, 9), (HP_BOOT_STS_BOOT_MS, (s.hubTime - s.boot.since) / 1000000)])
  | _ => s

/-- R384: COLD_START_STAGE: the stage in progress has done its work, and the next begins. No stage ends in the safe state, or while the hub is away. -/
def execColdStartStage (io : FlashIO) (s : State) : Out :=
  .next (if !s.boot.pwrok ∨ pkgSafe s ∨ s.hub.down then s else coldStage s io)

/-- R392: BOOT_OK: management firmware writes BOOT_OK. -/
def execBootOk (s : State) : Out :=
  .next (if !s.boot.awaitOk ∨ getF s HP_BOOT_STS_STAGE ≠ 9 then s
    else
      let s := bootMod s (fun b => { b with awaitOk := false })
      if (bRec s).fails = 0 then s else putRec s (fun r => { r with fails := 0 }))

/-- R392: BOOT_WATCHDOG: no BOOT_OK within 2 s of the start of management firmware: the attempt fails and the ROM resets the hub. -/
def execBootWatchdog (io : FlashIO) (s : State) : Out :=
  .next (if !s.boot.awaitOk ∨ pkgSafe s then s else hubReset (failBoot s 15) io)

/-! ## Power (R384, R402-R404) -/

/-- What a loss of the board supplies leaves: the keystone, the fuses and the flash; the host's own memory; the sideband; FC_PKG and FC_GRAVE, and the
registers of the lasers (R403). -/
def powerDown (s : State) : State :=
  let keep (a : Nat) : Bool := a == FC_PKG || a == FC_GRAVE 0 || a == FC_GRAVE 1
    || (List.range 34).any (fun r => (List.range (lamCount r)).any (fun l => a == OE_LAS_BIAS r l))
  { State.reset with
    regs := tabDrop (fun a => !keep a) s.regs
    mem := tabDrop (fun a => decide (a < hostBase)) s.mem
    poisoned := s.poisoned.filter (fun l => decide (hostBase ≤ 64 * l))
    hubTime := s.hubTime
    draws := s.draws
    hub := { HubX.reset with fuses := s.hub.fuses, port := { PortX.reset with perst := s.hub.port.perst } }
    ks := { s.ks with link := false, frames := [], mb := none, resent := false }
    boot := { BootX.reset with flash := s.boot.flash }
    side := { s.side with temps := [], trips := [] }
    pending := s.pending }

/-- R403: PWROK_FALL, for more than 1 µs: lasers at safe low power, everything else abandoned. -/
def execPwrokFall (s : State) : Out :=
  .next (if !s.boot.pwrok then s else powerDown ((List.range 34).foldl safeRope s))

/-- R303, R384, R404: PWROK_RISE: the straps GRP_RANK and RECOVERY_N (true: low) are sampled, and the cold start begins. `cycle` says that the low time was
a power cycle: only then the safe state ends (R353). -/
def execPwrokRise (rank : Fin 16) (recovery : Bool) (cycle : Bool) (s : State) : Out :=
  .next (if s.boot.pwrok then s
    else
      let keep (a : Nat) : Bool := !cycle && (a == FC_PKG || a == FC_GRAVE 0 || a == FC_GRAVE 1)
      let s := { s with regs := tabDrop (fun a => !keep a) s.regs }
      let s := bootMod s (fun b => { b with pwrok := true, recoveryN := recovery, since := s.hubTime, resetAt := s.hubTime })
      let share (h : Nat) : Word := BitVec.ofNat 64 (if rank.val / 8 = h then 0x10 * 2 ^ (8 * (rank.val % 8)) else 0)
      let s := wr (wr s (HP_HOST_SHARE 0) (share 0)) (HP_HOST_SHARE 1) (share 1)
      let s := setFs s [(HP_GRP_STS_RANK, rank), (HP_GRP_STS_PRESENT, 2 ^ rank.val)]
      wr s (HP_GRP_MEMBER rank 0) (BitVec.ofNat 64 s.hub.fuses.uid))

/-- R385: CONFIGURATION_REQUEST: a read of dword `dw` of the function's configuration space; none is Request Retry Status. Table 9-1 gives the IDs and
the class code; the rest is free. -/
def execConfigurationRequest (dw : Fin 1024) (s : State) : Out :=
  .next (if !s.boot.pwrok ∨ !bridgeCapable s ∨ s.hub.port.perst then s
    else if getF s HP_BOOT_STS_STAGE = 0 then bootMod s (fun b => { b with cfgOut := b.cfgOut ++ [none] })
    else
      let (w, s) := draw s
      let v := if dw.val = 0 then 0x55311F3C else if dw.val = 2 then 0x12000000 + w.toNat % 256 else w.toNat % 2 ^ 32
      bootMod s (fun b => { b with cfgOut := b.cfgOut ++ [some v] }))

end Sys2Proof.Machine
end

