-- ==== Sys2Proof/Machine/BrickMem.lean ====
section
/-! DEFINITION. Brick-store access: scalar loads and stores, atomics, vector and tensor loads and stores (R95-R98; Tables 3-11
and 3-12). -/
namespace Sys2Proof.Machine

/-- R96: the checks of a scalar access of `len` bytes at `a`: range first, then alignment. -/
def scalarCheck (a : Word) (len : Nat) (ok : Body) : Body :=
  match outOfStore a len with
  | some x => .trap 2 x false
  | none => if a.toNat % len = 0 then ok else .trap 3 a.toNat false

/-- Table 3-11: the address aA + sext(IMM). -/
def memAddr (s : State) (p : PlyId) (o : IOp) : Word := getA s p o.a + o.immW

/-- A scalar load of `len` bytes into sD, sign- or zero-extended. -/
def loadS (mi len : Nat) (signed : Bool) (p : PlyId) (o : IOp) (s : State) : Out :=
  .next (issue 12 mi p o s (fun s =>
    let a := memAddr s p o
    scalarCheck a len
      (let v := storeLE s p a.toNat len
       .done (setS s p o.d (if signed then BitVec.ofInt 64 (sextN v (8 * len)) else BitVec.ofNat 64 v)))))

/-- A scalar store of the low `len` bytes of a register value. -/
def storeS (mi len : Nat) (val : State → Word) (p : PlyId) (o : IOp) (s : State) : Out :=
  .next (issue 13 mi p o s (fun s =>
    let a := memAddr s p o
    scalarCheck a len (.done (storePut s p a.toNat len (val s).toNat))))

/-- Table 3-11: sD := sign-extended byte. -/
def execLdB (p : PlyId) (o : IOp) (s : State) : Out := loadS 0 1 true p o s
/-- Table 3-11: sD := zero-extended byte. -/
def execLdBu (p : PlyId) (o : IOp) (s : State) : Out := loadS 1 1 false p o s
/-- Table 3-11: sD := sign-extended 16 bits. -/
def execLdH (p : PlyId) (o : IOp) (s : State) : Out := loadS 2 2 true p o s
/-- Table 3-11: sD := zero-extended 16 bits. -/
def execLdHu (p : PlyId) (o : IOp) (s : State) : Out := loadS 3 2 false p o s
/-- Table 3-11: sD := sign-extended 32 bits. -/
def execLdW (p : PlyId) (o : IOp) (s : State) : Out := loadS 4 4 true p o s
/-- Table 3-11: sD := zero-extended 32 bits. -/
def execLdWu (p : PlyId) (o : IOp) (s : State) : Out := loadS 5 4 false p o s
/-- Table 3-11: sD := 64 bits. -/
def execLdD (p : PlyId) (o : IOp) (s : State) : Out := loadS 6 8 false p o s
/-- Table 3-11: aD := 64 bits. -/
def execLdA (p : PlyId) (o : IOp) (s : State) : Out :=
  .next (issue 12 7 p o s (fun s =>
    let a := memAddr s p o
    scalarCheck a 8 (.done (setA s p o.d (BitVec.ofNat 64 (storeLE s p a.toNat 8))))))

/-- Table 3-11: stores the low 8 bits of sB. -/
def execStB (p : PlyId) (o : IOp) (s : State) : Out := storeS 0 1 (fun s => getS s p o.b) p o s
/-- Table 3-11: stores the low 16 bits of sB. -/
def execStH (p : PlyId) (o : IOp) (s : State) : Out := storeS 1 2 (fun s => getS s p o.b) p o s
/-- Table 3-11: stores the low 32 bits of sB. -/
def execStW (p : PlyId) (o : IOp) (s : State) : Out := storeS 2 4 (fun s => getS s p o.b) p o s
/-- Table 3-11: stores sB. -/
def execStD (p : PlyId) (o : IOp) (s : State) : Out := storeS 3 8 (fun s => getS s p o.b) p o s
/-- Table 3-11: stores aB. -/
def execStA (p : PlyId) (o : IOp) (s : State) : Out := storeS 4 8 (fun s => getA s p o.b) p o s

/-- A 64-bit atomic: memory takes `f old sB sD`, sD takes the old value. -/
def atomic (mi : Nat) (f : Word → Word → Word → Word) (p : PlyId) (o : IOp) (s : State) : Out :=
  .next (issue 15 mi p o s (fun s =>
    let a := memAddr s p o
    scalarCheck a 8
      (let t := BitVec.ofNat 64 (storeLE s p a.toNat 8)
       .done (setS (storePut s p a.toNat 8 (f t (getS s p o.b) (getS s p o.d)).toNat) p o.d t))))

/-- Table 3-11: t := m; m := t + sB; sD := t. -/
def execAmoaddD (p : PlyId) (o : IOp) (s : State) : Out := atomic 0 (fun t b _ => t + b) p o s
/-- Table 3-11: t := m; m := sB; sD := t. -/
def execAmoswapD (p : PlyId) (o : IOp) (s : State) : Out := atomic 1 (fun _ b _ => b) p o s
/-- Table 3-11: t := m; if t = sD: m := sB; sD := t. -/
def execAmocasD (p : PlyId) (o : IOp) (s : State) : Out := atomic 2 (fun t b d => if t = d then b else t) p o s

/-! ## Vector and tensor load and store -/

/-- R97: element, scale and flag addresses of a tensor access. -/
def tensorAddrs (s : State) (p : PlyId) (o : IOp) (f : Fmt) : Word × Word × Word :=
  (getA s p o.a + BitVec.ofInt 64 (o.tBlk * f.blockBytes),
   getA s p (o.a + 1) + BitVec.ofInt 64 o.tBlk, getA s p (o.a + 2) + BitVec.ofInt 64 o.tBlk)

/-- R96: the ranges a tensor access touches. -/
def tensorRanges (s : State) (p : PlyId) (o : IOp) (f : Fmt) : List (Word × Nat) :=
  let (ea, sa, fa) := tensorAddrs s p o f
  [(ea, o.tNb * f.blockBytes)] ++ (if f.narrow then [(sa, o.tNb)] else []) ++ (if o.tF then [(fa, o.tNb)] else [])

/-- R97: the post-increment of a tensor access. -/
def tensorBump (s : State) (p : PlyId) (o : IOp) (f : Fmt) : State :=
  if o.tP then
    let s := setA s p o.a (getA s p o.a + BitVec.ofNat 64 (o.tNb * f.blockBytes))
    let s := if f.narrow then setA s p (o.a + 1) (getA s p (o.a + 1) + BitVec.ofNat 64 o.tNb) else s
    if o.tF then setA s p (o.a + 2) (getA s p (o.a + 2) + BitVec.ofNat 64 o.tNb) else s
  else s

/-- R97: block `j` of a load. -/
def loadBlock (s : State) (p : PlyId) (o : IOp) (f : Fmt) (v : VReg) (j : Nat) : VReg :=
  let (ea, sa, fa) := tensorAddrs s p o f
  let raw := storeLE s p (ea.toNat + j * f.blockBytes) f.blockBytes
  let x := if f = .n3 then packElems 4 ((unpackElems 3 16 raw).map widenN3) else raw
  let v := v.putData f j x
  let sc := storeLE s p (sa.toNat + j) 1
  let v := if f.narrow then v.putScale j sc else v
  let fl := if o.tF then storeLE s p (fa.toNat + j) 1 else 0
  let nan := match f with
    | .n8 | .f16 | .f32 => ((v.codes f j).map (decElem f)).any V.isNan
    | _ => false
  v.putFlags j (bitN fl 0 == 1) (bitN fl 1 == 1) (bitN fl 2 == 1 || (f.narrow && sc == 0xFF) || nan)

/-- R97: load blocks `j` onward, `k` of them. -/
def loadBlocks (s : State) (p : PlyId) (o : IOp) (f : Fmt) : VReg → Nat → Nat → VReg
  | v, _, 0 => v
  | v, j, k + 1 => loadBlocks s p o f (loadBlock s p o f v j) (j + 1) k

/-- R97: one 64-byte line at aA + 64 × BLK, checked for range and alignment. -/
def lineCheck (s : State) (p : PlyId) (o : IOp) (len : Nat) (ok : Nat → Body) : Body :=
  let a := getA s p o.a + BitVec.ofInt 64 (64 * o.tBlk)
  match outOfStore a len with
  | some x => .trap 2 x false
  | none => if a.toNat % 64 = 0 then ok a.toNat else .trap 3 a.toNat false

/-- R97: P = 1 advances aA by 64. -/
def lineBump (s : State) (p : PlyId) (o : IOp) : State :=
  if o.tP then setA s p o.a (getA s p o.a + 64) else s

/-- R97: vld. -/
def execVld (p : PlyId) (o : IOp) (s : State) : Out :=
  .next (issue 14 0 p o s (fun s =>
    match o.tFmt with
    | some .raw => lineCheck s p o 64 (fun a =>
        .done (lineBump (setV s p.n p.b o.d ⟨storeLE s p a 64, scaleOnes, 0, 0, 0⟩) p o))
    | some f =>
      match rangeTrap (tensorRanges s p o f) with
      | some x => .trap 2 x false
      | none => .done (tensorBump (setV s p.n p.b o.d (loadBlocks s p o f (getV s p.n p.b o.d) 0 o.tNb)) p o f)
    | none => .hold))

/-- R98: block `j` of a store: element bytes, scale byte, flag byte. -/
def storeBlock (s : State) (p : PlyId) (o : IOp) (f : Fmt) (v : VReg) (j : Nat) : State :=
  let (ea, sa, fa) := tensorAddrs s p o f
  let pz := bitN v.poison j == 1
  let n3 := (v.codes f j).map storeN3
  let x := match f with
    | .n3 => packElems 3 (n3.map (·.1))
    | .f16 | .f32 => if pz then packElems f.bits (List.replicate 16 (poisonNan f)) else v.blockData f j
    | _ => v.blockData f j
  let s := storePut s p (ea.toNat + j * f.blockBytes) f.blockBytes x
  let s := if f.narrow then storePut s p (sa.toNat + j) 1 (if pz then 0xFF else v.scaleOf j) else s
  let sat := bitN v.sat j == 1 || (f == .n3 && n3.any (·.2))
  if o.tF then storePut s p (fa.toNat + j) 1 (b2n sat + 2 * bitN v.esc j + 4 * b2n pz) else s

/-- R98: store blocks `j` onward, `k` of them. -/
def storeBlocks (p : PlyId) (o : IOp) (f : Fmt) (v : VReg) : State → Nat → Nat → State
  | s, _, 0 => s
  | s, j, k + 1 => storeBlocks p o f v (storeBlock s p o f v j) (j + 1) k

/-- R97, R98: vst. The addresses are those at issue: no store changes an address register. -/
def execVst (p : PlyId) (o : IOp) (s : State) : Out :=
  .next (issue 14 1 p o s (fun s =>
    let v := getV s p.n p.b o.b
    match o.tFmt with
    | some .raw => lineCheck s p o 64 (fun a => .done (lineBump (storePut s p a 64 v.data) p o))
    | some f =>
      match rangeTrap (tensorRanges s p o f) with
      | some x => .trap 2 x false
      | none => .done (tensorBump (storeBlocks p o f v s 0 o.tNb) p o f)
    | none => .hold))

/-- R98: the 24 side-band bytes of Table 2-9 into vD; its data stay. -/
def execVsbld (p : PlyId) (o : IOp) (s : State) : Out :=
  .next (issue 14 2 p o s (fun s => lineCheck s p o 64 (fun a =>
    .done (putWords s (CD_BK_VREG p.n p.b o.d 8) 3 (storeLE s p a 22)))))

/-- R98: the 24 side-band bytes of vB; the other 40 bytes of the line stay. -/
def execVsbst (p : PlyId) (o : IOp) (s : State) : Out :=
  .next (issue 14 3 p o s (fun s => lineCheck s p o 64 (fun a =>
    .done (storePut s p a 24 (wordsAt s (CD_BK_VREG p.n p.b o.b 8) 3)))))

end Sys2Proof.Machine
end

