-- ==== Sys2Proof/Machine/BrickScalar.lean ====
section
/-! DEFINITION. Scalar, compare, predicate, address-register and branch instructions (R93, R94; Tables 3-7 to 3-10). -/
namespace Sys2Proof.Machine

/-- A register-register instruction: sD := f sA sB. -/
def scalarRR (maj mi : Nat) (f : Word → Word → Word) (p : PlyId) (o : IOp) (s : State) : Out :=
  .next (issue maj mi p o s (fun s => .done (setS s p o.d (f (getS s p o.a) (getS s p o.b)))))

/-- A register-immediate instruction: sD := f sA sext(IMM). -/
def scalarRI (mi : Nat) (f : Word → Word → Word) (p : PlyId) (o : IOp) (s : State) : Out :=
  .next (issue 1 mi p o s (fun s => .done (setS s p o.d (f (getS s p o.a) o.immW))))

/-- A compare: pD := f sA sB. -/
def scalarCmp (mi : Nat) (f : Word → Word → Bool) (p : PlyId) (o : IOp) (s : State) : Out :=
  .next (issue 2 mi p o s (fun s => .done (setP s p o.d (f (getS s p o.a) (getS s p o.b)))))

/-- A compare with an immediate: pD := f sA sext(IMM). -/
def scalarCmpI (mi : Nat) (f : Word → Word → Bool) (p : PlyId) (o : IOp) (s : State) : Out :=
  .next (issue 2 mi p o s (fun s => .done (setP s p o.d (f (getS s p o.a) o.immW))))

/-- A predicate operation: pD := f pA pB. -/
def predRR (mi : Nat) (f : Bool → Bool → Bool) (p : PlyId) (o : IOp) (s : State) : Out :=
  .next (issue 3 mi p o s (fun s => .done (setP s p o.d (f (getP s p o.a) (getP s p o.b)))))

/-- The shift amount of a shift: bits [5:0] (R93). -/
def shAmt (w : Word) : Nat := w.toNat % 64

/-- High 64 bits of the signed product. -/
def mulHighS (a b : Word) : Word := BitVec.ofInt 64 (a.toInt * b.toInt / 2 ^ 64)
/-- High 64 bits of the unsigned product. -/
def mulHighU (a b : Word) : Word := BitVec.ofNat 64 (a.toNat * b.toNat / 2 ^ 64)
/-- Leading zeros; 64 of zero. -/
def leadZeros (a : Word) : Nat := if a = 0 then 64 else 63 - Nat.log2 a.toNat

/-- R94: a target that a branch may take: a multiple of 8 from 0 to 0xF_FFF8. -/
def branchTo (s : State) (target : Word) : Body :=
  if target.toNat % 8 = 0 ∧ target.toNat ≤ 0xFFFF8 then .jump s target.toNat else .trap 4 target.toNat false

/-- R94: pc + 8 × OFF as a 64-bit value. -/
def relTarget (s : State) (p : PlyId) (o : IOp) : Word := BitVec.ofNat 64 (getPc s p) + o.immW * 8

/-- A branch whose other effect, `f`, happens only when the target may be taken (R94, R114). -/
def branchWith (s : State) (f : State → State) (target : Word) : Body :=
  match branchTo s target with
  | .jump s t => .jump (f s) t
  | b => b

/-- Table 3-7: sD := sA + sB. -/
def execAdd (p : PlyId) (o : IOp) (s : State) : Out := scalarRR 0 0 (fun a b => a + b) p o s

/-- Table 3-7: sD := sA − sB. -/
def execSub (p : PlyId) (o : IOp) (s : State) : Out := scalarRR 0 1 (fun a b => a - b) p o s

/-- Table 3-7: sD := sA and sB. -/
def execAnd (p : PlyId) (o : IOp) (s : State) : Out := scalarRR 0 2 (fun a b => a &&& b) p o s

/-- Table 3-7: sD := sA or sB. -/
def execOr (p : PlyId) (o : IOp) (s : State) : Out := scalarRR 0 3 (fun a b => a ||| b) p o s

/-- Table 3-7: sD := sA xor sB. -/
def execXor (p : PlyId) (o : IOp) (s : State) : Out := scalarRR 0 4 (fun a b => a ^^^ b) p o s

/-- Table 3-7: sD := sA << sB[5:0]. -/
def execShl (p : PlyId) (o : IOp) (s : State) : Out := scalarRR 0 5 (fun a b => a <<< shAmt b) p o s

/-- Table 3-7: sD := sA >> sB[5:0], zero fill. -/
def execShr (p : PlyId) (o : IOp) (s : State) : Out := scalarRR 0 6 (fun a b => a >>> shAmt b) p o s

/-- Table 3-7: sD := sA >> sB[5:0], sign fill. -/
def execSra (p : PlyId) (o : IOp) (s : State) : Out := scalarRR 0 7 (fun a b => a.sshiftRight (shAmt b)) p o s

/-- Table 3-7: sD := low 64 bits of sA × sB. -/
def execMul (p : PlyId) (o : IOp) (s : State) : Out := scalarRR 0 8 (fun a b => a * b) p o s

/-- Table 3-7: sD := high 64 bits of the unsigned product. -/
def execMulhu (p : PlyId) (o : IOp) (s : State) : Out := scalarRR 0 9 (mulHighU) p o s

/-- Table 3-7: sD := high 64 bits of the signed product. -/
def execMulh (p : PlyId) (o : IOp) (s : State) : Out := scalarRR 0 10 (mulHighS) p o s

/-- Table 3-7: sD := signed minimum. -/
def execMin (p : PlyId) (o : IOp) (s : State) : Out := scalarRR 0 11 (fun a b => if a.toInt ≤ b.toInt then a else b) p o s

/-- Table 3-7: sD := signed maximum. -/
def execMax (p : PlyId) (o : IOp) (s : State) : Out := scalarRR 0 12 (fun a b => if a.toInt ≤ b.toInt then b else a) p o s

/-- Table 3-7: sD := unsigned minimum. -/
def execMinu (p : PlyId) (o : IOp) (s : State) : Out := scalarRR 0 13 (fun a b => if a.toNat ≤ b.toNat then a else b) p o s

/-- Table 3-7: sD := unsigned maximum. -/
def execMaxu (p : PlyId) (o : IOp) (s : State) : Out := scalarRR 0 14 (fun a b => if a.toNat ≤ b.toNat then b else a) p o s

/-- Table 3-7: sD := number of 1 bits of sA. -/
def execPopc (p : PlyId) (o : IOp) (s : State) : Out := scalarRR 0 15 (fun a _ => BitVec.ofNat 64 (popN 64 a.toNat)) p o s

/-- Table 3-7: sD := leading zeros of sA. -/
def execClz (p : PlyId) (o : IOp) (s : State) : Out := scalarRR 0 16 (fun a _ => BitVec.ofNat 64 (leadZeros a)) p o s

/-- Table 3-8: sD := sA + sext(IMM). -/
def execAddi (p : PlyId) (o : IOp) (s : State) : Out := scalarRI 0 (fun a b => a + b) p o s

/-- Table 3-8: sD := sA and sext(IMM). -/
def execAndi (p : PlyId) (o : IOp) (s : State) : Out := scalarRI 1 (fun a b => a &&& b) p o s

/-- Table 3-8: sD := sA or sext(IMM). -/
def execOri (p : PlyId) (o : IOp) (s : State) : Out := scalarRI 2 (fun a b => a ||| b) p o s

/-- Table 3-8: sD := sA xor sext(IMM). -/
def execXori (p : PlyId) (o : IOp) (s : State) : Out := scalarRI 3 (fun a b => a ^^^ b) p o s

/-- Table 3-8: sD := sA << IMM[5:0]. -/
def execShli (p : PlyId) (o : IOp) (s : State) : Out := scalarRI 4 (fun a b => a <<< shAmt b) p o s

/-- Table 3-8: sD := sA >> IMM[5:0], zero fill. -/
def execShri (p : PlyId) (o : IOp) (s : State) : Out := scalarRI 5 (fun a b => a >>> shAmt b) p o s

/-- Table 3-8: sD := sA >> IMM[5:0], sign fill. -/
def execSrai (p : PlyId) (o : IOp) (s : State) : Out := scalarRI 6 (fun a b => a.sshiftRight (shAmt b)) p o s

/-- Table 3-8: sD := low 64 bits of sA × sext(IMM). -/
def execMuli (p : PlyId) (o : IOp) (s : State) : Out := scalarRI 7 (fun a b => a * b) p o s

/-- Table 3-8: sD := sext(IMM). -/
def execLi (p : PlyId) (o : IOp) (s : State) : Out := scalarRI 8 (fun _ b => b) p o s

/-- Table 3-8: sD := (IMM[30:0] << 33) or sD[32:0]. -/
def execLih (p : PlyId) (o : IOp) (s : State) : Out :=
  .next (issue 1 9 p o s (fun s => .done (setS s p o.d
    (BitVec.ofNat 64 (o.bits 30 0 * 2 ^ 33 + (getS s p o.d).toNat % 2 ^ 33)))))

/-- Table 3-9: pD := sA eq sB. -/
def execCmpEq (p : PlyId) (o : IOp) (s : State) : Out := scalarCmp 0 (fun a b => a == b) p o s

/-- Table 3-9: pD := sA ne sB. -/
def execCmpNe (p : PlyId) (o : IOp) (s : State) : Out := scalarCmp 1 (fun a b => a != b) p o s

/-- Table 3-9: pD := sA lt sB. -/
def execCmpLt (p : PlyId) (o : IOp) (s : State) : Out := scalarCmp 2 (fun a b => decide (a.toInt < b.toInt)) p o s

/-- Table 3-9: pD := sA ltu sB. -/
def execCmpLtu (p : PlyId) (o : IOp) (s : State) : Out := scalarCmp 3 (fun a b => decide (a.toNat < b.toNat)) p o s

/-- Table 3-9: pD := sA ge sB. -/
def execCmpGe (p : PlyId) (o : IOp) (s : State) : Out := scalarCmp 4 (fun a b => decide (b.toInt ≤ a.toInt)) p o s

/-- Table 3-9: pD := sA geu sB. -/
def execCmpGeu (p : PlyId) (o : IOp) (s : State) : Out := scalarCmp 5 (fun a b => decide (b.toNat ≤ a.toNat)) p o s

/-- Table 3-9: pD := sA eq sext(IMM). -/
def execCmpiEq (p : PlyId) (o : IOp) (s : State) : Out := scalarCmpI 8 (fun a b => a == b) p o s

/-- Table 3-9: pD := sA ne sext(IMM). -/
def execCmpiNe (p : PlyId) (o : IOp) (s : State) : Out := scalarCmpI 9 (fun a b => a != b) p o s

/-- Table 3-9: pD := sA lt sext(IMM). -/
def execCmpiLt (p : PlyId) (o : IOp) (s : State) : Out := scalarCmpI 10 (fun a b => decide (a.toInt < b.toInt)) p o s

/-- Table 3-9: pD := sA ltu sext(IMM). -/
def execCmpiLtu (p : PlyId) (o : IOp) (s : State) : Out := scalarCmpI 11 (fun a b => decide (a.toNat < b.toNat)) p o s

/-- Table 3-9: pD := sA ge sext(IMM). -/
def execCmpiGe (p : PlyId) (o : IOp) (s : State) : Out := scalarCmpI 12 (fun a b => decide (b.toInt ≤ a.toInt)) p o s

/-- Table 3-9: pD := sA geu sext(IMM). -/
def execCmpiGeu (p : PlyId) (o : IOp) (s : State) : Out := scalarCmpI 13 (fun a b => decide (b.toNat ≤ a.toNat)) p o s

/-- Table 3-9: pD := pA and pB. -/
def execPand (p : PlyId) (o : IOp) (s : State) : Out := predRR 0 (fun a b => a && b) p o s

/-- Table 3-9: pD := pA or pB. -/
def execPor (p : PlyId) (o : IOp) (s : State) : Out := predRR 1 (fun a b => a || b) p o s

/-- Table 3-9: pD := pA xor pB. -/
def execPxor (p : PlyId) (o : IOp) (s : State) : Out := predRR 2 (fun a b => a != b) p o s

/-- Table 3-9: pD := pA and not pB. -/
def execPandn (p : PlyId) (o : IOp) (s : State) : Out := predRR 3 (fun a b => a && !b) p o s

/-- Table 3-9: pD := IMM[0]. -/
def execPset (p : PlyId) (o : IOp) (s : State) : Out :=
  .next (issue 3 4 p o s (fun s => .done (setP s p o.d (o.bits 0 0 == 1))))

/-- Table 3-9: sD := p7…p0, bit 0 = 1. -/
def execPget (p : PlyId) (o : IOp) (s : State) : Out :=
  .next (issue 3 5 p o s (fun s => .done (setS s p o.d
    (BitVec.ofNat 64 (1 + 2 * getF s (CD_PLY_PRED_P p.n p.b p.q))))))

/-- Table 3-9: p7…p1 := sA[7:1]. -/
def execPput (p : PlyId) (o : IOp) (s : State) : Out :=
  .next (issue 3 6 p o s (fun s => .done (setF s (CD_PLY_PRED_P p.n p.b p.q) (bitsOf (getS s p o.a) 7 1))))

/-- Table 3-9: aD := sA. -/
def execAmov (p : PlyId) (o : IOp) (s : State) : Out :=
  .next (issue 4 0 p o s (fun s => .done (setA s p o.d (getS s p o.a))))

/-- Table 3-9: sD := aA. -/
def execSmov (p : PlyId) (o : IOp) (s : State) : Out :=
  .next (issue 4 1 p o s (fun s => .done (setS s p o.d (getA s p o.a))))

/-- Table 3-9: aD := aA + sB. -/
def execAadd (p : PlyId) (o : IOp) (s : State) : Out :=
  .next (issue 4 2 p o s (fun s => .done (setA s p o.d (getA s p o.a + getS s p o.b))))

/-- Table 3-9: aD := aA + sext(IMM). -/
def execAaddi (p : PlyId) (o : IOp) (s : State) : Out :=
  .next (issue 4 3 p o s (fun s => .done (setA s p o.d (getA s p o.a + o.immW))))

/-- Table 3-10: pc := pc + 8 × OFF. -/
def execBr (p : PlyId) (o : IOp) (s : State) : Out :=
  .next (issue 8 0 p o s (fun s => branchTo s (relTarget s p o)))

/-- Table 3-10: sD := pc + 8; pc := pc + 8 × OFF. -/
def execCall (p : PlyId) (o : IOp) (s : State) : Out :=
  .next (issue 8 1 p o s (fun s =>
    branchWith s (fun s => setS s p o.d (BitVec.ofNat 64 (getPc s p + 8))) (relTarget s p o)))

/-- Table 3-10: pc := sA. -/
def execJr (p : PlyId) (o : IOp) (s : State) : Out :=
  .next (issue 9 0 p o s (fun s => branchTo s (getS s p o.a)))

/-- Table 3-10: t := sA; sD := pc + 8; pc := t. -/
def execJalr (p : PlyId) (o : IOp) (s : State) : Out :=
  .next (issue 9 1 p o s (fun s =>
    branchWith s (fun s => setS s p o.d (BitVec.ofNat 64 (getPc s p + 8))) (getS s p o.a)))

/-- Table 3-10, R94: sD := sD − 1; taken when sD − 1 ≠ 0. The value tested is sD − 1, also for s0. -/
def execLoop (p : PlyId) (o : IOp) (s : State) : Out :=
  .next (issue 10 0 p o s (fun s =>
    let v := getS s p o.d - 1
    if v ≠ 0 then branchWith s (fun s => setS s p o.d v) (relTarget s p o) else .done (setS s p o.d v)))

/-- Table 3-10: taken when sA = 0. -/
def execBz (p : PlyId) (o : IOp) (s : State) : Out :=
  .next (issue 10 1 p o s (fun s => if getS s p o.a = 0 then branchTo s (relTarget s p o) else .done s))

/-- Table 3-10: taken when sA ≠ 0. -/
def execBnz (p : PlyId) (o : IOp) (s : State) : Out :=
  .next (issue 10 2 p o s (fun s => if getS s p o.a ≠ 0 then branchTo s (relTarget s p o) else .done s))

/-- Table 3-10: no operation. -/
def execNop (p : PlyId) (o : IOp) (s : State) : Out := .next (issue 11 0 p o s .done)

end Sys2Proof.Machine
end

