-- ==== Sys2Proof/Machine/Mgmt.lean ====
section
/-! DEFINITION. Management-space accesses (R6-R14, R321-R324): reads, writes, what each discards and counts, and the commands that writes
start. -/
namespace Sys2Proof.Machine

/-- Whether the hub serves accesses: it has power and its clock. -/
def served (s : State) : Bool := s.boot.pwrok && !s.hub.down

/-- R324: a discarded access to the unit that an address names, with its cause. -/
def discardAt (s : State) (a : Nat) (write : Bool) (cause : Nat) : State :=
  let u := adrUnit a % 16
  setFs (addF s (SN_DISC_COUNT u) 1) [(SN_DISC_LAST_ADDR u, a), (SN_DISC_LAST_WRITE u, b2n write), (SN_DISC_LAST_CAUSE u, cause)]

/-- R305: whether an address lies in the queue page of block 0x060. -/
def queuePage (a : Nat) : Bool :=
  let o := adrOff a
  a - o == adr 0 0x60 0
  && !(decide (o < 0x1000) || decide (0x40000 ≤ o ∧ o < 0x41000) || o == tagOff || decide (0x80000 ≤ o ∧ o < 0x84000))

/-- R393: whether recovery mode hides an address. -/
def hidden (s : State) (a : Nat) : Bool := getF s HP_BOOT_STS_STAGE == 8 && a - adrOff a != adr 0 0x80 0

/-- R323: whether an address is in a block of a compute die that is not ACTIVE or REJOINED. -/
def dieAway (s : State) (a : Nat) : Bool := decide (1 ≤ adrUnit a ∧ adrUnit a ≤ 4 ∧ adrBlk a < 0x800) && !dieUp s (adrUnit a - 1)

/-! ## Reads (R8, R10, R321-R324) -/

/-- A management read of `len` bytes: its status as Table 9-4 codes it (0 performed, 1 discarded, 2 poisoned) and its data. -/
def mgmtRead (s : State) (a len : Nat) : Nat × Word × State :=
  let bad (c : Nat) : Nat × Word × State := (1, 0, discardAt s a false c)
  if !((len = 8 ∧ a % 8 = 0) ∨ (len = 4 ∧ a % 4 = 0)) then bad 1
  else if hidden s a then bad 2
  else if dieAway s a then (2, 0, s)
  else
    let b := a - a % 8
    match placeOf b with
    | .none => bad 2
    | _ =>
      if queuePage b ∧ roleOf s ≠ 2 then (0, 0, s)
      else
        let w := readReg s b
        (0, (if len = 8 then w else if a % 8 = 0 then w &&& 0xFFFFFFFF else w >>> 32), s)

/-! ## Writes (R8, R10-R14) -/

/-- R13: whether the lock of an RWL register is set: the guest firewall's registers share GS_CTL.LOCK (R41). -/
def locked (s : State) : Bool := getF s GS_CTL_LOCK == 1

/-- R12: the bits of a register that a write may change. -/
def writable (s : State) (c : Card) : Nat := c.rw ||| c.w1c ||| c.cmd ||| (if locked s then 0 else c.rwl)

/-- R12, Table 0-7: what a write of `v` makes of the word `w`. -/
def written (s : State) (c : Card) (w v : Word) : Word :=
  let m := BitVec.ofNat 64 (c.rw ||| c.cmd ||| (if locked s then 0 else c.rwl))
  ((w &&& ~~~m) ||| (v &&& m)) &&& ~~~(v &&& BitVec.ofNat 64 c.w1c)

/-- R118: whether management may write a ply's state. -/
def plyStill (s : State) (n b q : Nat) : Bool := plyState s n b q == 0 || plyState s n b q == 3 || plyState s n b q == 4
/-- R118: whether management may write the vector registers, the accumulators and the weight planes of a brick. -/
def brickStill (s : State) (n b : Nat) : Bool :=
  (List.range 4).all (plyStill s n b) && sbCount s n b (fun e => arrayMaj (getF s (CD_BK_SB_OPC n b e) / 64)) == 0 && (brickGet s n b).shq.isEmpty

/-- R397: a firmware or certificate command in progress. -/
def inProgress (s : State) (f : Fld) : Bool := getF s f == 1

/-- R320: whether a write to the registers of an enabled queue is performed. -/
def queueWrite (s : State) (q w : Nat) (v : Word) : Bool :=
  if getF s (HP_HQ_EN q) = 0 ∨ 2 ≤ w then true
  else
    let old := rd s (HP_HQ q w)
    if w = 0 then bitsOf v 4 4 == 0 && bitsOf v 3 0 == bitsOf old 3 0 && bitsOf v 50 12 == bitsOf old 50 12
    else (v ^^^ old) &&& BitVec.ofNat 64 ((((findCard (HP_HQ q 1)).map (fun x => x.1.rw)).getD 0) &&& (2 ^ 64 - 1 - 16)) == 0

/-- The sum of the 16 host shares of two words (R320). -/
def shareSum (a b : Word) : Nat := (List.range 8).foldl (fun m i => m + bitsOf a (8 * i + 7) (8 * i) + bitsOf b (8 * i + 7) (8 * i)) 0

/-- The state rules of the chapters: whether a write to a register is discarded. -/
def forbidden (s : State) (x : RegIdx) (v : Word) : Bool :=
  let n := x.u - 1
  match x.name with
  | .CD_PLY_PC | .CD_PLY_STS | .CD_PLY_CAUSE | .CD_PLY_TINFO | .CD_PLY_TVEC | .CD_PLY_EPC | .CD_PLY_S | .CD_PLY_A | .CD_PLY_PRED =>
    !plyStill s n x.k x.i
  | .CD_BK_VREG | .CD_BK_ACC | .CD_BK_WPL | .CD_BK_WPLS => !brickStill s n x.k
  | .HP_SKNOT =>
    (getF s (HP_SKNOT_ARMED x.i) == 1 || getF s (HP_SKNOT_DIES x.i) != 0) && bitsOf v 53 52 != getF s (HP_SKNOT_SPAN x.i)
  | .CH_PIN_POOL => poolBusy s n x.i
  | .PI_STEER_CFG =>
    s.opt.steerQ.any (fun q => q.cfg == some x.i)
    || (List.range 16).any (fun t => getF s (PI_STEER_TRIG_EN t) == 1 && getF s (PI_STEER_TRIG_CFG t) == x.i)
  | .OE_CAL_CTL => (List.range 8).any (fun k => (calGet s k).isSome)
  | .PI_CAL_CTL => (calGet s 8).isSome
  | .CH_ADM_PRQ => liveCount s n != 0
  | .CH_FQ => getF s (CH_FQ_PTR_TAIL n) != getF s (CH_FQ_PTR_HEAD n) || (List.range 68).any (fun e => getF s (CD_DMA_ENG_STATE n e) == 3)
  | .HP_HQ => !queueWrite s x.i x.j v
  | .HP_LEASE_CFG | .HP_CKPT_AREA => roleOf s != 0
  | .HP_HOST_SHARE => decide (16 < shareSum v (rd s (HP_HOST_SHARE (1 - x.i))))
  | .HP_KS_MBBUF | .HP_KS_MBAUX => inProgress s HP_KS_MB_STATE
  | .HP_FW_ARG0 | .HP_FW_ARG1 => inProgress s HP_FW_CMD_STATUS
  | .HP_CERT_ADDR => inProgress s HP_CERT_CMD_STATUS
  | .SN_TRC_RING => getF s SN_TRC_CTL_EN == 1
  | .HP_VCORE => !vcoreAllowed s x.i (bitsOf v 9 0)
  | _ => false

/-- Why a write of `v` to `a` is discarded, as SN_DISC_LAST.CAUSE codes it; none where it is performed. -/
def writeRefusal (s : State) (a len : Nat) (v : Word) : Option Nat :=
  if len ≠ 8 ∨ a % 8 ≠ 0 then some 1
  else if hidden s a then some 2
  else if pkgSafe s ∨ dieAway s a then some 5
  else if adrUnit a = 7 then some 3
  else match placeOf a with
    | .none => some 2
    | .shadow _ | .tag | .occ => some 3
    | .msix => if roleOf s ≠ 2 then some 6 else if adrOff a = 0x21000 then some 3 else none
    | .reg c x =>
      if queuePage a ∧ roleOf s ≠ 2 then some 6
      else if writable s c = 0 then some 3
      else if c.cmd ≠ 0 ∧ bitsOf (rd s a) (c.sts + 1) c.sts = 1 then some 4
      else if forbidden s x v then some 5
      else none

/-- The 16 general forms of CD_BK and CH registers whose write does more than change its fields. -/
def afterWrite (s : State) (x : RegIdx) (old v : Word) : State :=
  let n := x.u - 1
  match x.name with
  | .CD_DIR => { s with bricks := tabModWhere (fun _ => BrickX.reset) (fun k => k / 384 == n) (fun b => { b with dirCache := [] }) s.bricks }
  | .HP_SKNOT => mirrorSk s (0x2000 + x.i)
  | .GS_CTL => if getF s GS_CTL_EN = 0 then setFs s [(GS_STS_TRAINED, 0), (GS_STS_X8, 0)] else s
  | .HP_HQ =>
    if x.j = 0 ∧ bitsOf old 4 4 = 0 ∧ bitsOf v 4 4 = 1 then queueEnable s x.i
    else if x.j = 0 ∧ bitsOf old 4 4 = 1 ∧ bitsOf v 4 4 = 0 then queueDisable s x.i
    else s
  | .SN_TRC_RING => readMod s (fun r => { r with count := 0 })
  | .HP_VCORE => vcoreWrite s x.i (bitsOf v 9 0)
  | _ => s

/-- The command that a write to a CMD register starts; `ok` is what the environment decides of it (whether a mailbox frame arrives, whether a fuse can
be blown). -/
def runCmd (s : State) (a : Nat) (x : RegIdx) (ok : Bool) : State :=
  let n := x.u - 1
  match x.name with
  | .CD_PLY_CMD => plyCmd s ⟨Fin.ofNat 4 n, Fin.ofNat 384 x.k, Fin.ofNat 4 x.i⟩
  | .CH_ADM_SUBMIT => dieMod s n (fun d => { d with admQ := d.admQ ++ [⟨.submit, 64 * getF s (CH_ADM_SUBMIT_ADDR n), none⟩] })
  | .CH_PRE_SUBMIT => dieMod s n (fun d => { d with preQ := d.preQ ++ [⟨.submit, 64 * getF s (CH_PRE_SUBMIT_ADDR n), none⟩] })
  | .CH_XLT_INV => invCmd s n
  | .CH_DMA_CMD => dmaCmd s n
  | .PI_STEER_CMD => steerCmd s
  | .OE_ROPE_CMD => ropeCmd s x.k
  | .PI_ROPE_CMD => ropeCmd s (24 + x.k)
  | .SN_CCLR => cclrCmd s
  | .SN_TRC_MARK => markCmd s
  | .FC_CMD => fcCmd s x.k
  | .FC_INJ => injCmd s (bitN s.boot.debug 0 == 1)
  | _ => runHeld s a ok

/-- R8, R10-R14: a management write of `len` bytes. -/
def mgmtWrite (s : State) (a len : Nat) (v : Word) (ok : Bool) : State :=
  match writeRefusal s a len v with
  | some c => discardAt s a true c
  | none =>
    match placeOf a with
    | .reg c x =>
      let old := rd s a
      let s := wr s a (written s c old v)
      if c.cmd ≠ 0 then runCmd (setF s ⟨a, c.sts + 3, c.sts, 0⟩ 1) a x ok else afterWrite s x old v
    | _ => wr s a v

/-- R12: MGMT_WRITE: a management write of `len` bytes. -/
def execMgmtWrite (a : BitVec 36) (len : Fin 17) (v : Word) (ok : Bool) (s : State) : Out :=
  .next (if served s then mgmtWrite s a.toNat len v ok else s)

/-! ## The ways in: BAR2 (R7, R310), I3C (R412), JTAG (R413) -/

/-- The bytes of an operation of Table 9-4: their number, and where they start in the register. -/
def opLen : MgmtOp → Nat
  | .read64 | .write64 => 8
  | _ => 4
def opOff : MgmtOp → Nat
  | .readHigh => 4
  | _ => 0
def opCode : MgmtOp → Nat
  | .read64 => 1
  | .readLow => 2
  | .readHigh => 3
  | .write64 => 4

/-- R7: BAR2_REMOTE_ACCESS: an access through BAR2 with the rank of its offset bits [39:36]: performed here, forwarded, or completed with
Unsupported Request where the rank is not present. -/
def execBar2RemoteAccess (rank : Fin 16) (a : BitVec 36) (op : MgmtOp) (v : Word) (s : State) : Out :=
  .next (if !s.hub.port.up ∨ !served s then s
    else if rank.val = ownRank s then
      (if op = .write64 then mgmtWrite s a.toNat 8 v true
      else match mgmtRead s (a.toNat + opOff op) (opLen op) with
        | (st, w, s) => barDone s a.toNat (if st = 2 then .poisoned else .done) w.toNat)
    else if !rankPresent s rank then
      let s := reportPkg s 0x011D 0 0x060 rank 0
      if op = .write64 then s else barDone s a.toNat .unsupported 0
    else forwardAccess s rank a.toNat (opCode op) v.toNat)

/-- Perform a forwarded request: status and data of its response. -/
def serveRequest (s : State) (a op v : Nat) : Nat × Word × State :=
  match op with
  | 1 => mgmtRead s a 8
  | 2 => mgmtRead s a 4
  | 3 => mgmtRead s (a + 4) 4
  | _ => (0, 0, mgmtWrite s a 8 (BitVec.ofNat 64 v) true)

/-- R310: MANAGEMENT_REQUEST: the next request from another rank is performed, in order; a read is answered. -/
def execManagementRequest (s : State) : Out :=
  .next (if !served s then s
    else takeOrdered s 6 (fun _ => true) (fun s _ g =>
      let op := fieldLE g.body 2 1
      let (st, w, s) := serveRequest s g.addr op (fieldLE g.body 8 8)
      if op = 4 then s
      else sendSeg s 4 2 7 g.srcRank 4 0 g.addr (leBytes 2 (fieldLE g.body 0 2) ++ leBytes 1 st ++ leBytes 5 0 ++ leBytes 8 w.toNat) none none))

/-- One access as R412 describes: 1 read, 2 write; the data and the status of the response. -/
def sideAccess (s : State) (op a : Nat) (v : Word) : Word × Nat × State :=
  if !served s then (0, 1, s)
  else if op = 1 then
    let (st, w, s) := mgmtRead s a 8
    (w, st, s)
  else
    let st := if (writeRefusal s a 8 v).isSome then 1 else 0
    (0, st, mgmtWrite s a 8 v true)

/-- R412: I3C_PRIVATE_WRITE: 6 bytes for a read, 14 for a write. -/
def execI3cPrivateWrite (bytes : List Byte) (s : State) : Out :=
  .next (
    let op := leVal (bytes.take 1)
    if !sideUp s ∨ !((op = 1 ∧ bytes.length = 6) ∨ (op = 2 ∧ bytes.length = 14)) then s
    else
      let (w, st, s) := sideAccess s op (leVal ((bytes.drop 1).take 5)) (BitVec.ofNat 64 (leVal (bytes.drop 6)))
      sideMod s (fun x => { x with i3c := some (w.toNat, st) }))

/-- R412: I3C_PRIVATE_READ: the data and the status of the last access; with none pending, status 1. -/
def execI3cPrivateRead (s : State) : Out :=
  .next (if !sideUp s then s
    else sideMod s (fun x => { x with
      i3c := none
      i3cOut := x.i3cOut ++ [x.i3c.getD (0, 1)] }))

/-- R413: MGMT_ACC: the 112 bits shifted in make one access; the next Capture-DR loads its result. -/
def execMgmtAcc (dr : BitVec 112) (s : State) : Out :=
  .next (if !sideUp s then s
    else if !jtagPrivate s then selectIr s 0xFF 0 .normal
    else
      let op := dr.toNat % 256
      if op = 1 ∨ op = 2 then
        let (w, st, s) := sideAccess s op (bitsN dr.toNat 47 8) (BitVec.ofNat 64 (bitsN dr.toNat 111 48))
        selectIr s 0x40 (w.toNat + st * 2 ^ 64) .normal
      else selectIr s 0x40 0 .normal)

end Sys2Proof.Machine
end

