-- ==== Sys2Proof/Machine/Rows.lean ====
section
/-! DEFINITION. The rows that are writes of a register which the spec gives an operation of their own: each is the management write
(R12) that makes it. -/
namespace Sys2Proof.Machine

/-- A management write of 8 bytes, where management is served. -/
def writeReg (s : State) (a : Nat) (v : Word) (ok : Bool) : State := if served s then mgmtWrite s a 8 v ok else s

/-- The word that carries the given field values, zero elsewhere. -/
def cmdWord : List (Fld × Nat) → Word
  | [] => 0
  | (f, v) :: t => putBits (cmdWord t) f.hi f.lo v

/-- A management write of a command register whose fields hold the given values. -/
def writeCmd (s : State) (a : Nat) (fields : List (Fld × Nat)) (ok : Bool) : State := writeReg s a (cmdWord fields) ok

/-! ## Dies, plies, knots and spans -/

/-- R42: DIE_RESET: RESET of a compute die. -/
def execDieReset (n : Die) (s : State) : Out :=
  .next (writeCmd s (CH_DIE_CMD n) [(CH_DIE_CMD_OP n, 1)] true)

/-- R44: DIE_RETRY: RETRY of a compute die. -/
def execDieRetry (n : Die) (s : State) : Out :=
  .next (writeCmd s (CH_DIE_CMD n) [(CH_DIE_CMD_OP n, 2)] true)

/-- R117: RESUME: RESUME of a ply. -/
def execResume (p : PlyId) (s : State) : Out :=
  .next (writeCmd s (CD_PLY_CMD p.n p.b p.q) [(CD_PLY_CMD_OP p.n p.b p.q, 1)] true)

/-- R117: ABORT: ABORT of a ply. -/
def execAbort (p : PlyId) (s : State) : Out :=
  .next (writeCmd s (CD_PLY_CMD p.n p.b p.q) [(CD_PLY_CMD_OP p.n p.b p.q, 2)] true)

/-- R141: KNOT_REGISTER_WRITE: a write of a knot word, as one knot operation. -/
def execKnotRegisterWrite (n : Die) (i : Fin 4096) (v : Word) (s : State) : Out :=
  .next (writeReg s (CD_KNOT n i) v true)

/-- R153: SPAN_KNOT_REGISTER_WRITE: a write of a span knot word. -/
def execSpanKnotRegisterWrite (i : Fin 1024) (v : Word) (s : State) : Out :=
  .next (writeReg s (HP_SKNOT i) v true)

/-- R121: DIRECTORY_WRITE: a write of a die's directory register. -/
def execDirectoryWrite (n : Die) (v : Word) (s : State) : Out :=
  .next (writeReg s (CD_DIR n) v true)

/-- R158: SPAN_FORM: FORM of a span. -/
def execSpanForm (span : Fin 4) (s : State) : Out :=
  .next (writeCmd s HP_SPAN_CMD [(HP_SPAN_CMD_OP, 1), (HP_SPAN_CMD_SPAN, span)] true)

/-- R159: SPAN_DISSOLVE: DISSOLVE of a span. -/
def execSpanDissolve (span : Fin 4) (force : Bool) (s : State) : Out :=
  .next (writeCmd s HP_SPAN_CMD [(HP_SPAN_CMD_OP, 2), (HP_SPAN_CMD_SPAN, span), (HP_SPAN_CMD_FORCE, b2n force)] true)

/-! ## DMA and translation -/

/-- R209: DMA_RESUME: RESUME of an engine. -/
def execDmaResume (n : Die) (e : Fin 128) (s : State) : Out :=
  .next (writeCmd s (CH_DMA_CMD n) [(CH_DMA_CMD_OP n, 1), (CH_DMA_CMD_ENGINE n, e)] true)

/-- R209: DMA_ABORT: ABORT of an engine. -/
def execDmaAbort (n : Die) (e : Fin 128) (s : State) : Out :=
  .next (writeCmd s (CH_DMA_CMD n) [(CH_DMA_CMD_OP n, 2), (CH_DMA_CMD_ENGINE n, e)] true)

/-- R194: INV_PAGE: one page of an ASID. -/
def execInvPage (n : Die) (asid : BitVec 8) (va : BitVec 48) (s : State) : Out :=
  .next (writeCmd s (CH_XLT_INV n) [(CH_XLT_INV_OP n, 1), (CH_XLT_INV_ASID n, asid.toNat), (CH_XLT_INV_VA n, va.toNat / 2 ^ 16)] true)

/-- R194: INV_ASID: every non-global entry of an ASID. -/
def execInvAsid (n : Die) (asid : BitVec 8) (s : State) : Out :=
  .next (writeCmd s (CH_XLT_INV n) [(CH_XLT_INV_OP n, 2), (CH_XLT_INV_ASID n, asid.toNat)] true)

/-- R194: INV_GLOBAL: every global entry. -/
def execInvGlobal (n : Die) (s : State) : Out :=
  .next (writeCmd s (CH_XLT_INV n) [(CH_XLT_INV_OP n, 3)] true)

/-- R194: INV_ALL: every entry. -/
def execInvAll (n : Die) (s : State) : Out :=
  .next (writeCmd s (CH_XLT_INV n) [(CH_XLT_INV_OP n, 4)] true)

/-! ## Light and ropes -/

/-- R233: CALIBRATE: CALIBRATE of a rope of an optical engine. -/
def execCalibrate (k : Fin 8) (r : Fin 4) (s : State) : Out :=
  .next (writeCmd s (OE_CMD k) [(OE_CMD_OP k, 1), (OE_CMD_ROPE k, r)] true)

/-- R238: MIGRATE: MIGRATE of a strand of an optical engine. -/
def execMigrate (k : Fin 8) (st : Fin 64) (s : State) : Out :=
  .next (writeCmd s (OE_CMD k) [(OE_CMD_OP k, 2), (OE_CMD_S k, st)] true)

/-- R246: REDIRECT: REDIRECT of the ropes of `mask` to a configuration. -/
def execRedirect (cfg : Fin 8) (mask : Fin 1024) (s : State) : Out :=
  .next (writeCmd s PI_STEER_CMD [(PI_STEER_CMD_OP, 1), (PI_STEER_CMD_CFG, cfg), (PI_STEER_CMD_MASK, mask)] true)

/-- R246: HOME: HOME of the ropes of `mask`. -/
def execHome (mask : Fin 1024) (s : State) : Out :=
  .next (writeCmd s PI_STEER_CMD [(PI_STEER_CMD_OP, 2), (PI_STEER_CMD_MASK, mask)] true)

/-- R251: AOR_OPEN: OPEN of a session whose descriptor is at `addr`. -/
def execAorOpen (i : Fin 16) (addr : BitVec 52) (s : State) : Out :=
  .next (writeCmd s PI_AOR_CMD [(PI_AOR_CMD_OP, 1), (PI_AOR_CMD_SESS, i), (PI_AOR_CMD_ADDR, addr.toNat / 64)] true)

/-- R259: AOR_CLOSE: CLOSE of a session. -/
def execAorClose (i : Fin 16) (s : State) : Out :=
  .next (writeCmd s PI_AOR_CMD [(PI_AOR_CMD_OP, 2), (PI_AOR_CMD_SESS, i)] true)

/-- R278: ROPE_RETRAIN: RETRAIN of a rope. -/
def execRopeRetrain (r : Rope) (s : State) : Out :=
  .next (writeCmd s (OE_ROPE_CMD r) [(OE_ROPE_CMD_OP r, 1)] true)

/-- R278: ROPE_DOWN: DOWN of a rope. -/
def execRopeDown (r : Rope) (s : State) : Out :=
  .next (writeCmd s (OE_ROPE_CMD r) [(OE_ROPE_CMD_OP r, 2)] true)

/-- R278: ROPE_UP: UP of a rope. -/
def execRopeUp (r : Rope) (s : State) : Out :=
  .next (writeCmd s (OE_ROPE_CMD r) [(OE_ROPE_CMD_OP r, 3)] true)

/-! ## The host port -/

/-- R306: QUEUE_ENABLE: a write of a queue pair's register 0 with EN set. -/
def execQueueEnable (q : Fin 32) (v : Word) (s : State) : Out :=
  .next (writeReg s (HP_HQ q 0) (putBits v 4 4 1) true)

/-- R308: QUEUE_DISABLE: EN of a queue pair is cleared. -/
def execQueueDisable (q : Fin 32) (s : State) : Out :=
  .next (writeReg s (HP_HQ q 0) (putBits (rd s (HP_HQ q 0)) 4 4 0) true)

/-- R307: DOORBELL: a write of a queue pair's doorbell. -/
def execDoorbell (q : Fin 32) (v : Word) (s : State) : Out :=
  .next (writeReg s (HP_HQ_DB q) v true)

/-- R312: START: START of the bridge. -/
def execStart (claim : Bool) (s : State) : Out :=
  .next (writeCmd s HP_BRIDGE_CMD [(HP_BRIDGE_CMD_OP, 1), (HP_BRIDGE_CMD_CLAIM, b2n claim)] true)

/-- R317: RELINQUISH: RELINQUISH of the bridge. -/
def execRelinquish (s : State) : Out :=
  .next (writeCmd s HP_BRIDGE_CMD [(HP_BRIDGE_CMD_OP, 2)] true)

/-- R304: FORGET: FORGET of a rank. -/
def execForget (r : Fin 16) (s : State) : Out :=
  .next (writeCmd s HP_BRIDGE_CMD [(HP_BRIDGE_CMD_OP, 3), (HP_BRIDGE_CMD_RANK, r)] true)

/-! ## Snapshots, clears, marks -/

/-- R330: SNAP: a snapshot with identifier `id`. -/
def execSnap (id : BitVec 16) (s : State) : Out :=
  .next (writeCmd s SN_CMD [(SN_CMD_OP, 1), (SN_CMD_ID, id.toNat)] true)

/-- R327: CONDITIONAL_CLEAR: clear bit `bit` of the register at `a` if its occurrence count is `expect`. -/
def execConditionalClear (a : BitVec 36) (bit : Fin 64) (expect : BitVec 16) (s : State) : Out :=
  .next (writeCmd s SN_CCLR [(SN_CCLR_ADDR, a.toNat / 8), (SN_CCLR_BIT, bit), (SN_CCLR_EXPECT, expect.toNat)] true)

/-- R337: TRACE_MARK: a mark in the trace. -/
def execTraceMark (v : BitVec 32) (s : State) : Out :=
  .next (writeCmd s SN_TRC_MARK [(SN_TRC_MARK_VALUE, v.toNat)] true)

/-! ## Faults -/

/-- R345: RESOLVE: RESOLVE of the record `seq` of a collector. -/
def execResolve (c : Fin 5) (seq : BitVec 32) (s : State) : Out :=
  .next (writeCmd s (FC_CMD c) [(FC_CMD_OP c, 1), (FC_CMD_SEQ c, seq.toNat)] true)

/-- R349: RELEASE: RELEASE of a channel's fence. -/
def execRelease (c : Fin 5) (s : State) : Out :=
  .next (writeCmd s (FC_CMD c) [(FC_CMD_OP c, 2)] true)

/-- R356: ARM: ARM of a checker for its next `k` checks. -/
def execArm (kind : BitVec 8) (inst : BitVec 16) (k : BitVec 16) (s : State) : Out :=
  .next (writeCmd s FC_INJ [(FC_INJ_OP, 1), (FC_INJ_KIND, kind.toNat), (FC_INJ_INSTANCE, inst.toNat), (FC_INJ_N, k.toNat)] true)

/-- R356: DISARM: DISARM of a checker. -/
def execDisarm (kind : BitVec 8) (inst : BitVec 16) (s : State) : Out :=
  .next (writeCmd s FC_INJ [(FC_INJ_OP, 2), (FC_INJ_KIND, kind.toNat), (FC_INJ_INSTANCE, inst.toNat)] true)

/-! ## The keystone mailbox -/

/-- R370: SIGN_READING: a signed reading; `ok`: the COMMAND frame arrives. -/
def execSignReading (ok : Bool) (s : State) : Out :=
  .next (writeCmd s HP_KS_MB [(HP_KS_MB_OP, 1)] ok)

/-- R369: SIGN_AUDIT: a signed statement over HP_KS_MBAUX entries from `first`. -/
def execSignAudit (first : BitVec 32) (ok : Bool) (s : State) : Out :=
  .next (writeCmd s HP_KS_MB [(HP_KS_MB_OP, 2), (HP_KS_MB_ARG, first.toNat)] ok)

/-- R375: SELFCAL: a self-calibration. -/
def execSelfcal (ok : Bool) (s : State) : Out :=
  .next (writeCmd s HP_KS_MB [(HP_KS_MB_OP, 3)] ok)

/-- R369: PULSE_SRC: the source of KS_PULSE. -/
def execPulseSrc (src : BitVec 32) (ok : Bool) (s : State) : Out :=
  .next (writeCmd s HP_KS_MB [(HP_KS_MB_OP, 4), (HP_KS_MB_ARG, src.toNat)] ok)

/-- R376: KS_STAGE_BLOCK: the buffer's first `len` bytes go to offset `off` of the staging slot. -/
def execKsStageBlock (off : BitVec 32) (len : Fin 8192) (ok : Bool) (s : State) : Out :=
  .next (writeCmd s HP_KS_MB [(HP_KS_MB_OP, 5), (HP_KS_MB_ARG, off.toNat), (HP_KS_MB_LEN, len)] ok)

/-- R376: STAGE_CLEAR: the staging slot is erased. -/
def execStageClear (ok : Bool) (s : State) : Out :=
  .next (writeCmd s HP_KS_MB [(HP_KS_MB_OP, 6)] ok)

/-! ## Firmware and certificates -/

/-- R387: STAGE_BEGIN: slot B begins to receive an image. -/
def execStageBegin (s : State) : Out :=
  .next (writeCmd s HP_FW_CMD [(HP_FW_CMD_OP, 1)] true)

/-- R387: STAGE_END: the image in slot B is complete. -/
def execStageEnd (s : State) : Out :=
  .next (writeCmd s HP_FW_CMD [(HP_FW_CMD_OP, 3)] true)

/-- R389: ACTIVATE: the staged image is activated. -/
def execActivate (s : State) : Out :=
  .next (writeCmd s HP_FW_CMD [(HP_FW_CMD_OP, 4)] true)

/-- R390: REVERT: the running image is given up. -/
def execRevert (s : State) : Out :=
  .next (writeCmd s HP_FW_CMD [(HP_FW_CMD_OP, 6)] true)

/-- R387: DISCARD: slot B is erased. -/
def execDiscard (s : State) : Out :=
  .next (writeCmd s HP_FW_CMD [(HP_FW_CMD_OP, 7)] true)

/-- R387: STAGE_BLOCK: `len` bytes at HP_FW_ARG0 in host memory, whose contents `found` says, go to slot B. -/
def execStageBlock (len : Fin 131072) (found : HostData) (s : State) : Out :=
  .next (writeCmd (hostPlace s found) HP_FW_CMD [(HP_FW_CMD_OP, 2), (HP_FW_CMD_LEN, len)] true)

/-- R391: COMMIT: the running image becomes permanent; `fuse`: the fuses can be blown. -/
def execCommit (fuse : Bool) (s : State) : Out :=
  .next (writeCmd s HP_FW_CMD [(HP_FW_CMD_OP, 5)] fuse)

/-- R394: INSTALL: the certificate at HP_CERT_ADDR in host memory, whose contents `found` says. -/
def execInstall (found : HostData) (s : State) : Out :=
  .next (writeCmd (hostPlace s found) HP_CERT_CMD [(HP_CERT_CMD_OP, 1)] true)

/-- R400: VCORE_SET: the set-point of a die's core supply, in mV. -/
def execVcoreSet (n : Die) (t : Fin 1024) (s : State) : Out :=
  .next (writeReg s (HP_VCORE n) (putBits 0 9 0 t) true)

end Sys2Proof.Machine
end

