-- ==== Sys2Proof/Machine/Segment.lean ====
section
/-! DEFINITION. Segments as they arrive: acknowledgements, PUT blocks, knot signals; message batches of the package; ksigr (R144, R276,
R289, R290). -/
namespace Sys2Proof.Machine

/-! ## Acknowledgements (R289) -/

/-- Whether an ACK with CUM `cum` and a bitmap names a TSEQ. -/
def ackNames (cum bits q : Nat) : Bool :=
  let d := (q + 2 ^ 32 - cum) % 2 ^ 32
  d == 0 || decide (2 ^ 31 ≤ d) || (decide (d ≤ 64) && bitN bits (d - 1) == 1)

/-- R290: the block of an engine that waits for a segment has been acknowledged. -/
def putAcked (s : State) (t : TxSeg) : State :=
  match t.eng with
  | some (n, e) =>
    match engGet s n e with
    | some x => if x.leg = .toPkg ∧ x.d.dstA + getF s (CD_DMA_ENG_POS n e) = t.seg.addr then blockDone s n e else s
    | none => s
  | none => s

/-- R289: ACK: the acknowledged segments of the connection leave the window; those that wait follow. -/
def execAck (s : State) : Out :=
  .next (takeSeg s 2 false (fun s ep _ g =>
    let i := connIx g.srcRank g.srcEp (g.arg % 4 % 3)
    if g.gen ≠ getF s (CD_TR_TX_GEN ep i) then s
    else
      let cum := bodyF g.body 0 4
      let bits := bodyF g.body 4 8
      let (gone, stay) := (txGet s ep i).unacked.partition (fun t => ackNames cum bits t.seg.tseq)
      let s := setF (txMod s ep i (fun c => { c with unacked := stay })) (CD_TR_TX_ACKED ep i) cum
      pumpWaiting (showOut (gone.foldl putAcked s) ep i) ep i))

/-! ## PUT blocks (R290) -/

/-- A control segment answers the sender of a PUT: the TSEQ it concerns in ARG, its class in ADDR (assumption 24). -/
def putAnswer (s : State) (ep i : Nat) (kind : Nat) (g : Seg) : State :=
  sendSeg s ep 2 kind g.srcRank g.srcEp g.tseq (i % 3) [] none none

/-- R290: PUT: the block is committed and acknowledged, answered with PUT_NAK, or refused. -/
def execPut (s : State) : Out :=
  .next (takeSeg s 3 true (fun s' ep i g =>
    let data := g.body.take (g.body.length - 4)
    if 4 ≤ ep then markRx s' ep i g.tseq
    else if crc32c data ≠ leVal (g.body.drop (g.body.length - 4)) then putAnswer s' ep i 4 g
    else match commitPut s' ep (g.arg % 256) g.addr data false with
      | .done s => markRx s ep i g.tseq
      | .refused => markRx (putAnswer s' ep i 5 g) ep i g.tseq
      | .wait => s))

/-- The engine whose block an unacknowledged segment carries. -/
def putEng (s : State) (ep i q : Nat) : Option (Nat × Nat) :=
  ((txGet s ep i).unacked.find? (fun t => t.seg.tseq == q)).bind (·.eng)

/-- A segment no longer concerns an engine. -/
def dropEng (s : State) (ep i q : Nat) : State :=
  txMod s ep i (fun c => { c with unacked := c.unacked.map (fun t => if t.seg.tseq = q then { t with eng := none } else t) })

/-- R204, R290: PUT_NAK: the engine sends the block again; the eighth mismatch parks it. -/
def execPutNak (s : State) : Out :=
  .next (takeSeg s 4 true (fun s ep i g =>
    let s := markRx s ep i g.tseq
    let j := connIx g.srcRank g.srcEp (g.addr % 3)
    match putEng s ep j g.arg with
    | none => s
    | some (n, e) =>
      let s := blockBad s n e
      if getF s (CD_DMA_ENG_STATE n e) = 1 then resendSegs s ep j (fun t => t.seg.tseq == g.arg) else dropEng s ep j g.arg))

/-- R207, R290: PUT_REFUSE: the engine parks with kind REMOTE. -/
def execPutRefuse (s : State) : Out :=
  .next (takeSeg s 5 true (fun s ep i g =>
    let s := markRx s ep i g.tseq
    let j := connIx g.srcRank g.srcEp (g.addr % 3)
    match putEng s ep j g.arg with
    | none => s
    | some (n, e) =>
      match engGet s n e with
      | some x =>
        let pos := getF s (CD_DMA_ENG_POS n e)
        dropEng (if x.leg = .toPkg then parkEng s n e 7 0 (x.d.dstA + pos) pos 0 true false else s) ep j g.arg
      | none => dropEng s ep j g.arg))

/-! ## Knot signals between packages (R144) -/

/-- R144: whether a handle names a knot of the package. -/
def pkgHandle (s : State) (h : Nat) : Bool :=
  bitN h 12 == 0 && (if isSpanKnot h then knotDie h == 0 && bitsN h 11 10 == 0 else dieUp s (knotDie h))

/-- R144: a signal by ksigr acts as ksig on the named knot of this package, whichever die holds it; an error of the handle is a class C fault
here. -/
def signalIn (s : State) (n h : Nat) : State :=
  if pkgHandle s h then pushKnot s ⟨.engine 4, h, .signal, false, false, 0, 0⟩ else reportCh s 0x0303 (n % 4) 0x070 h h

/-- The endpoint that a knot's signals are sent to: its die's channel, or the hub for a span knot. -/
def knotEp (h : Nat) : Nat := if isSpanKnot h then 4 else knotDie h

/-- R144: KNOT_SIGNAL_SEGMENT. -/
def execKnotSignalSegment (s : State) : Out :=
  .next (takeSeg s 8 true (fun s ep i g => signalIn (markRx s ep i g.tseq) (if ep = 4 then 0 else ep) (g.arg % 2 ^ 16)))

/-- R144: ksigr. -/
def execKsigr (p : PlyId) (o : IOp) (s : State) : Out :=
  .next (issue 47 0 p o s (fun s =>
    let h := handleIn s p o.a
    let r := (getS s p o.b).toNat % 16
    if r = ownRank s then .done (signalIn s p.n h)
    else if !rankPresent s r then .trap 0x17 r false
    else .done (sendSeg s p.n 2 8 r (knotEp h) h 0 [] none none)))

/-! ## Message batches (R276) -/

/-- The first `k` flights from die `a` that wait for its gateway to die `d` stand at the gateway of `d`. -/
def batchTo (a d : Nat) : Nat → List Flight → List Flight
  | _, [] => []
  | k, x :: t =>
    if k ≠ 0 ∧ x.die = a ∧ x.at_ = .outbox ∧ placeDie x.msg.dest = d then { x with at_ := .gateway d } :: batchTo a d (k - 1) t
    else x :: batchTo a d k t

/-- R276: MESSAGE_BATCH: a package segment with `k` messages of die `a` arrives at the gateway of die `d`. -/
def execMessageBatch (a d : Die) (k : Nat) (s : State) : Out :=
  .next (if a = d ∨ k = 0 ∨ pkgSafe s ∨ gatewayHeld s a then s
    else match ipPath s a d with
      | none => s
      | some p =>
        if s.flights.any (fun x => x.die == a.val && x.at_ == .outbox && placeDie x.msg.dest == d.val)
        then countSeg { s with flights := batchTo a d k s.flights } a d p else s)

end Sys2Proof.Machine
end

