-- ==== Sys2Proof/Machine/Sched.lean ====
section
/-! DEFINITION. One step of a brick's scheduler (R90, R149, R150): it reads the words in the fetch buffers, chooses the plies that issue in the
two slots, and issues their instructions. -/
namespace Sys2Proof.Machine

/-- The meaning of an instruction as the scheduler uses it. -/
abbrev BrickFn := PlyId → IOp → State → Out

/-- The instructions by 64 × major + minor opcode, part 0. -/
def brickFns0 : List (Nat × BrickFn) := [
  (0, execAdd), (1, execSub), (2, execAnd), (3, execOr), (4, execXor), (5, execShl),
  (6, execShr), (7, execSra), (8, execMul), (9, execMulhu), (10, execMulh), (11, execMin),
  (12, execMax), (13, execMinu), (14, execMaxu), (15, execPopc), (16, execClz), (64, execAddi),
  (65, execAndi), (66, execOri), (67, execXori), (68, execShli), (69, execShri), (70, execSrai),
  (71, execMuli), (72, execLi), (73, execLih), (128, execCmpEq), (129, execCmpNe), (130, execCmpLt),
  (131, execCmpLtu), (132, execCmpGe), (133, execCmpGeu), (136, execCmpiEq), (137, execCmpiNe), (138, execCmpiLt),
  (139, execCmpiLtu), (140, execCmpiGe), (141, execCmpiGeu), (192, execPand)]

/-- The instructions by 64 × major + minor opcode, part 1. -/
def brickFns1 : List (Nat × BrickFn) := [
  (193, execPor), (194, execPxor), (195, execPandn), (196, execPset), (197, execPget), (198, execPput),
  (256, execAmov), (257, execSmov), (258, execAadd), (259, execAaddi), (512, execBr), (513, execCall),
  (576, execJr), (577, execJalr), (640, execLoop), (641, execBz), (642, execBnz), (704, execNop),
  (768, execLdB), (769, execLdBu), (770, execLdH), (771, execLdHu), (772, execLdW), (773, execLdWu),
  (774, execLdD), (775, execLdA), (832, execStB), (833, execStH), (834, execStW), (835, execStD),
  (836, execStA), (960, execAmoaddD), (961, execAmoswapD), (962, execAmocasD), (896, execVld), (897, execVst),
  (898, execVsbld), (899, execVsbst), (1024, execWld), (1025, execWsel)]

/-- The instructions by 64 × major + minor opcode, part 2. -/
def brickFns2 : List (Nat × BrickFn) := [
  (1088, execStep), (1152, execAclr), (1153, execAdrain), (1154, execAaddFmt), (1536, execVadd), (1537, execVsub),
  (1538, execVmul), (1539, execVmax), (1540, execVmin), (1600, execVfma), (1664, execVabs), (1665, execVneg),
  (1666, execVrelu), (1672, execVrcp), (1673, execVrsqrt), (1674, execVexp2), (1675, execVlog2), (1728, execVcmpEq),
  (1729, execVcmpLt), (1730, execVcmpLe), (1731, execVsel), (1792, execVmov), (1793, execVbcast), (1794, execVins),
  (1795, execVext), (1856, execVperm), (1857, execVredAdd), (1858, execVredMax), (1920, execVand), (1921, execVor),
  (1922, execVxor), (1923, execVnot), (3200, execCvt), (3264, execScl), (3328, execSgctx), (3329, execChk),
  (3330, execEsc), (3392, execSgrd), (3393, execSeed), (3648, execRdsr)]

/-- The instructions by 64 × major + minor opcode, part 3. -/
def brickFns3 : List (Nat × BrickFn) := [
  (3649, execWrsr), (3456, execFence), (3520, execYield), (3521, execEndPly), (3522, execPpt), (3584, execTrap),
  (3585, execTret), (3712, execCkpt), (3776, execBrk), (2048, execMsend), (2049, execMsendg), (2112, execMgath),
  (2113, execMgathg), (2176, execScadd), (2177, execScaddg), (2240, execMaor), (2304, execMrecv), (2305, execMpoll),
  (2306, execMtag), (2368, execVtset), (2369, execVtget), (2432, execMtadd), (2433, execMtrd), (2560, execDmaq),
  (2624, execDmat), (2816, execKarr), (2817, execKsig), (2880, execKwait), (2881, execKtest), (2944, execKarm),
  (2945, execKrst), (3008, execKsigr), (3072, execLarmPly), (3073, execLarmKnot), (3074, execLdis), (3136, execLwait),
  (3137, execLwaitr)]

/-- Every instruction of the Brick Instruction Set by its opcodes. -/
def brickFns : List (Nat × BrickFn) := brickFns0 ++ brickFns1 ++ brickFns2 ++ brickFns3

/-- The meaning of an opcode. -/
def brickFn (maj mi : Nat) : Option BrickFn := (brickFns.find? (fun e => e.1 == 64 * maj + mi)).map (·.2)

/-! ## Heads (R83, R89, R90) -/

/-- R83: the word that a ply issues next, when it is in its fetch buffer. -/
def headWord (s : State) (p : PlyId) : Option Word :=
  ((plyGet s p.n p.b p.q).fbuf.find? (fun e => e.1 == getPc s p)).map (·.2)

/-- R90: whether a major opcode issues in the array slot. -/
def arraySlot (maj : Nat) : Bool := decide (16 ≤ maj ∧ maj ≤ 30) || maj == 50 || maj == 51

/-- Issue of a word by a ply; a word that is no instruction raises the illegal-instruction trap (R89). -/
def issueWord (s : State) (p : PlyId) (w : Word) : State :=
  let (maj, mi, o) := fieldsOf w
  match brickFn maj mi with
  | some f =>
    (match f p o s with
     | .next s' => s'
     | _ => s)
  | none => if mayIssue s p then raiseTrap s p 1 (getPc s p) w.toNat else s

/-- A ply's head is issued, if it can be. -/
def runHead (s : State) (p : PlyId) : State :=
  match headWord s p with
  | some w => issueWord s p w
  | none => s

/-- Whether the step from `s` to `t` issued an instruction of the ply, or raised its trap. -/
def didIssue (s t : State) (p : PlyId) : Bool :=
  let x := plyGet s p.n p.b p.q
  let y := plyGet t p.n p.b p.q
  mayIssue s p && (x.issued != y.issued || y.trap.isSome)

/-- R149: whether a ply's head may issue in a slot. -/
def okHead (s : State) (p : PlyId) (arr : Bool) : Bool :=
  match headWord s p with
  | some w => arraySlot (fieldsOf w).1 == arr && didIssue s (issueWord s p w) p
  | none => false

/-! ## Pairs (R90) -/

/-- Majors after which no second instruction pairs: the branch group, the system group, 0x34. -/
def noPair (maj : Nat) : Bool := decide (8 ≤ maj ∧ maj ≤ 10) || decide (54 ≤ maj ∧ maj ≤ 59) || maj == 52

/-- The registers that a word writes. -/
def writesOf (w : Word) : List (Kind × Nat) :=
  let (maj, mi, o) := fieldsOf w
  match findOp maj mi with
  | some r =>
    (if r.d.kind = .none ∨ r.d.use = .r then [] else [(r.d.kind, o.d.val)])
    ++ (if r.form = .T ∧ r.mi < 2 then [(.a, o.a.val)] else [])
  | none => []

/-- The registers that a word reads. -/
def readsOf (s : State) (p : PlyId) (w : Word) : List (Kind × Nat) :=
  let (maj, mi, o) := fieldsOf w
  match findOp maj mi with
  | some r => (regsOf s p r o).filter (fun x => x != (r.d.kind, o.d.val) || r.d.use != .w || x == (r.a, o.a.val) || x == (r.b, o.b.val) || x == (Kind.p, o.gp.val))
  | none => []

/-- R149: pair(q, slot): the head issues in the other slot and the next instruction in this one. -/
def okPair (s : State) (p : PlyId) (arr : Bool) : Bool :=
  okHead s p (!arr) &&
  match headWord s p with
  | some w =>
    let t := issueWord s p w
    !noPair (fieldsOf w).1 && okHead t p arr &&
      (match headWord t p with
       | some v => !(readsOf t p v).any (fun x => (writesOf w).contains x && !(x.1 == .s && x.2 == 0) && !(x.1 == .p && x.2 == 0))
       | none => false)
  | none => false

/-! ## The choice (R149, R150) -/

/-- The plies of a brick. -/
def pliesAt (k : BrickId) : List PlyId := [⟨k.n, k.b, 0⟩, ⟨k.n, k.b, 1⟩, ⟨k.n, k.b, 2⟩, ⟨k.n, k.b, 3⟩]

/-- R149, R150: the order of a slot whose last ply was `last`: high priority or aged plies, the others, those that yielded in the step before. -/
def slotOrder (s : State) (k : BrickId) (last : Nat) : List PlyId :=
  let rot := (List.range 4).map (fun i => (⟨k.n, k.b, Fin.ofNat 4 (last + 1 + i)⟩ : PlyId))
  let y := (brickGet s k.n k.b).yielded
  let high (p : PlyId) : Bool := bitN (getF s (CD_BK_SCHED_PRIO k.n k.b)) p.q == 1 || (plyGet s p.n p.b p.q).aged
  let free := rot.filter (fun p => !y.contains p.q.val)
  free.filter high ++ free.filter (fun p => !high p) ++ rot.filter (fun p => y.contains p.q.val)

/-- R149: the plies chosen: for the array slot, with whether by a pair; for the scalar slot. -/
def choose (s : State) (k : BrickId) : Option (PlyId × Bool) × Option PlyId :=
  let x := brickGet s k.n k.b
  let a := (slotOrder s k x.lastA).find? (fun p => okHead s p true || okPair s p true)
  match a with
  | some a =>
    if okHead s a true then
      (some (a, false), (slotOrder s k x.lastS).find? (fun p => if p = a then okPair s a false else okHead s p false))
    else (some (a, true), some a)
  | none => (none, (slotOrder s k x.lastS).find? (fun p => okHead s p false))

/-- What the step does to a ply that does not issue: its held head is counted (R417, R148), and it ages (R150). -/
def passPly (s : State) (p : PlyId) : State :=
  let t := runHead s p
  let can := didIssue s t p
  let t := if can then s else t
  plyMod t p.n p.b p.q (fun x => { x with age := if can then min 64 (x.age + 1) else 0, aged := false })

/-- R149: SCHEDULE_STEP: one step of the scheduler of a brick. -/
def execScheduleStep (k : BrickId) (s : State) : Out :=
  .next (
    let c := choose s k
    let as_ := (c.1.map (·.1)).toList
    let ss := c.2.toList
    let s := ((pliesAt k).filter (fun p => !as_.contains p && !ss.contains p)).foldl passPly s
    let s := brickMod s k.n k.b (fun x => { x with yielded := [] })
    let s := (as_ ++ ss).foldl runHead s
    let s := (as_ ++ ss).foldl (fun s p => plyMod s p.n p.b p.q (fun x => { x with aged := false })) s
    brickMod s k.n k.b (fun x =>
      let x := { x with
        lastA := match as_ with
          | p :: _ => p.q.val
          | [] => x.lastA
        lastS := match ss with
          | p :: _ => p.q.val
          | [] => x.lastS }
      match x.yielded with
      | q :: _ => { x with lastA := q, lastS := q }
      | [] => x))

end Sys2Proof.Machine
end

