-- ==== Sys2Proof/Machine/Dispatch.lean ====
section
/-! DEFINITION. One arm per command: a direct call of its meaning. -/
namespace Sys2Proof.Machine

def exec (i : Instr) (s : State) : Host.Outcome State Fault Refusal :=
  match i with
  | .mgmtWrite a len v ok => Sys2Proof.Machine.execMgmtWrite a len v ok s
  | .bar2RemoteAccess rank a op v => Sys2Proof.Machine.execBar2RemoteAccess rank a op v s
  | .managementRequest => Sys2Proof.Machine.execManagementRequest s
  | .managementResponse => Sys2Proof.Machine.execManagementResponse s
  | .forwardedReadTimeout tag => Sys2Proof.Machine.execForwardedReadTimeout tag s
  | .clockLoss d => Sys2Proof.Machine.execClockLoss d s
  | .clockReturn d => Sys2Proof.Machine.execClockReturn d s
  | .bondFrame l n dir f err => Sys2Proof.Machine.execBondFrame l n dir f err s
  | .nak l j dir q => Sys2Proof.Machine.execNak l j dir q s
  | .creditAckTimer l j dir => Sys2Proof.Machine.execCreditAckTimer l j dir s
  | .keepalive n => Sys2Proof.Machine.execKeepalive n s
  | .keepaliveTimeout n => Sys2Proof.Machine.execKeepaliveTimeout n s
  | .hubResetNotice n => Sys2Proof.Machine.execHubResetNotice n s
  | .hubKeepaliveTimeout n => Sys2Proof.Machine.execHubKeepaliveTimeout n s
  | .hubWaitExpired n w => Sys2Proof.Machine.execHubWaitExpired n w s
  | .hubReset recovery io => Sys2Proof.Machine.execHubReset recovery io s
  | .reattach => Sys2Proof.Machine.execReattach s
  | .interconnectTest id bad => Sys2Proof.Machine.execInterconnectTest id bad s
  | .prbs31Complete id errs => Sys2Proof.Machine.execPrbs31Complete id errs s
  | .identityCapsule d c copy => Sys2Proof.Machine.execIdentityCapsule d c copy s
  | .discoveryTimeout d => Sys2Proof.Machine.execDiscoveryTimeout d s
  | .guestLinkTraining ok x8 => Sys2Proof.Machine.execGuestLinkTraining ok x8 s
  | .guestRead tag lines pa => Sys2Proof.Machine.execGuestRead tag lines pa s
  | .guestWrite tag pa data => Sys2Proof.Machine.execGuestWrite tag pa data s
  | .guestAtomicAdd tag pa v => Sys2Proof.Machine.execGuestAtomicAdd tag pa v s
  | .dieReset n => Sys2Proof.Machine.execDieReset n s
  | .dieRetry n => Sys2Proof.Machine.execDieRetry n s
  | .dieResetRelease n => Sys2Proof.Machine.execDieResetRelease n s
  | .speedMonitorWindow n j count => Sys2Proof.Machine.execSpeedMonitorWindow n j count s
  | .tempSensorReading k t => Sys2Proof.Machine.execTempSensorReading k t s
  | .tempSensorTrim n j runs => Sys2Proof.Machine.execTempSensorTrim n j runs s
  | .shadowCheck k => Sys2Proof.Machine.execShadowCheck k s
  | .scheduleStep k => Sys2Proof.Machine.execScheduleStep k s
  | .ageing p => Sys2Proof.Machine.execAgeing p s
  | .fetch p => Sys2Proof.Machine.execFetch p s
  | .instructionComplete k e => Sys2Proof.Machine.execInstructionComplete k e s
  | .trapEntry p => Sys2Proof.Machine.execTrapEntry p s
  | .add p o => Sys2Proof.Machine.execAdd p o s
  | .sub p o => Sys2Proof.Machine.execSub p o s
  | .and p o => Sys2Proof.Machine.execAnd p o s
  | .or p o => Sys2Proof.Machine.execOr p o s
  | .xor p o => Sys2Proof.Machine.execXor p o s
  | .shl p o => Sys2Proof.Machine.execShl p o s
  | .shr p o => Sys2Proof.Machine.execShr p o s
  | .sra p o => Sys2Proof.Machine.execSra p o s
  | .mul p o => Sys2Proof.Machine.execMul p o s
  | .mulhu p o => Sys2Proof.Machine.execMulhu p o s
  | .mulh p o => Sys2Proof.Machine.execMulh p o s
  | .min p o => Sys2Proof.Machine.execMin p o s
  | .max p o => Sys2Proof.Machine.execMax p o s
  | .minu p o => Sys2Proof.Machine.execMinu p o s
  | .maxu p o => Sys2Proof.Machine.execMaxu p o s
  | .popc p o => Sys2Proof.Machine.execPopc p o s
  | .clz p o => Sys2Proof.Machine.execClz p o s
  | .addi p o => Sys2Proof.Machine.execAddi p o s
  | .andi p o => Sys2Proof.Machine.execAndi p o s
  | .ori p o => Sys2Proof.Machine.execOri p o s
  | .xori p o => Sys2Proof.Machine.execXori p o s
  | .shli p o => Sys2Proof.Machine.execShli p o s
  | .shri p o => Sys2Proof.Machine.execShri p o s
  | .srai p o => Sys2Proof.Machine.execSrai p o s
  | .muli p o => Sys2Proof.Machine.execMuli p o s
  | .li p o => Sys2Proof.Machine.execLi p o s
  | .lih p o => Sys2Proof.Machine.execLih p o s
  | .cmpEq p o => Sys2Proof.Machine.execCmpEq p o s
  | .cmpNe p o => Sys2Proof.Machine.execCmpNe p o s
  | .cmpLt p o => Sys2Proof.Machine.execCmpLt p o s
  | .cmpLtu p o => Sys2Proof.Machine.execCmpLtu p o s
  | .cmpGe p o => Sys2Proof.Machine.execCmpGe p o s
  | .cmpGeu p o => Sys2Proof.Machine.execCmpGeu p o s
  | .cmpiEq p o => Sys2Proof.Machine.execCmpiEq p o s
  | .cmpiNe p o => Sys2Proof.Machine.execCmpiNe p o s
  | .cmpiLt p o => Sys2Proof.Machine.execCmpiLt p o s
  | .cmpiLtu p o => Sys2Proof.Machine.execCmpiLtu p o s
  | .cmpiGe p o => Sys2Proof.Machine.execCmpiGe p o s
  | .cmpiGeu p o => Sys2Proof.Machine.execCmpiGeu p o s
  | .pand p o => Sys2Proof.Machine.execPand p o s
  | .por p o => Sys2Proof.Machine.execPor p o s
  | .pxor p o => Sys2Proof.Machine.execPxor p o s
  | .pandn p o => Sys2Proof.Machine.execPandn p o s
  | .pset p o => Sys2Proof.Machine.execPset p o s
  | .pget p o => Sys2Proof.Machine.execPget p o s
  | .pput p o => Sys2Proof.Machine.execPput p o s
  | .amov p o => Sys2Proof.Machine.execAmov p o s
  | .smov p o => Sys2Proof.Machine.execSmov p o s
  | .aadd p o => Sys2Proof.Machine.execAadd p o s
  | .aaddi p o => Sys2Proof.Machine.execAaddi p o s
  | .br p o => Sys2Proof.Machine.execBr p o s
  | .call p o => Sys2Proof.Machine.execCall p o s
  | .jr p o => Sys2Proof.Machine.execJr p o s
  | .jalr p o => Sys2Proof.Machine.execJalr p o s
  | .loop p o => Sys2Proof.Machine.execLoop p o s
  | .bz p o => Sys2Proof.Machine.execBz p o s
  | .bnz p o => Sys2Proof.Machine.execBnz p o s
  | .nop p o => Sys2Proof.Machine.execNop p o s
  | .ldB p o => Sys2Proof.Machine.execLdB p o s
  | .ldBu p o => Sys2Proof.Machine.execLdBu p o s
  | .ldH p o => Sys2Proof.Machine.execLdH p o s
  | .ldHu p o => Sys2Proof.Machine.execLdHu p o s
  | .ldW p o => Sys2Proof.Machine.execLdW p o s
  | .ldWu p o => Sys2Proof.Machine.execLdWu p o s
  | .ldD p o => Sys2Proof.Machine.execLdD p o s
  | .ldA p o => Sys2Proof.Machine.execLdA p o s
  | .stB p o => Sys2Proof.Machine.execStB p o s
  | .stH p o => Sys2Proof.Machine.execStH p o s
  | .stW p o => Sys2Proof.Machine.execStW p o s
  | .stD p o => Sys2Proof.Machine.execStD p o s
  | .stA p o => Sys2Proof.Machine.execStA p o s
  | .amoaddD p o => Sys2Proof.Machine.execAmoaddD p o s
  | .amoswapD p o => Sys2Proof.Machine.execAmoswapD p o s
  | .amocasD p o => Sys2Proof.Machine.execAmocasD p o s
  | .vld p o => Sys2Proof.Machine.execVld p o s
  | .vst p o => Sys2Proof.Machine.execVst p o s
  | .vsbld p o => Sys2Proof.Machine.execVsbld p o s
  | .vsbst p o => Sys2Proof.Machine.execVsbst p o s
  | .wld p o => Sys2Proof.Machine.execWld p o s
  | .wsel p o => Sys2Proof.Machine.execWsel p o s
  | .step p o => Sys2Proof.Machine.execStep p o s
  | .aclr p o => Sys2Proof.Machine.execAclr p o s
  | .adrain p o => Sys2Proof.Machine.execAdrain p o s
  | .aaddFmt p o => Sys2Proof.Machine.execAaddFmt p o s
  | .vadd p o => Sys2Proof.Machine.execVadd p o s
  | .vsub p o => Sys2Proof.Machine.execVsub p o s
  | .vmul p o => Sys2Proof.Machine.execVmul p o s
  | .vmax p o => Sys2Proof.Machine.execVmax p o s
  | .vmin p o => Sys2Proof.Machine.execVmin p o s
  | .vfma p o => Sys2Proof.Machine.execVfma p o s
  | .vabs p o => Sys2Proof.Machine.execVabs p o s
  | .vneg p o => Sys2Proof.Machine.execVneg p o s
  | .vrelu p o => Sys2Proof.Machine.execVrelu p o s
  | .vrcp p o => Sys2Proof.Machine.execVrcp p o s
  | .vrsqrt p o => Sys2Proof.Machine.execVrsqrt p o s
  | .vexp2 p o => Sys2Proof.Machine.execVexp2 p o s
  | .vlog2 p o => Sys2Proof.Machine.execVlog2 p o s
  | .vcmpEq p o => Sys2Proof.Machine.execVcmpEq p o s
  | .vcmpLt p o => Sys2Proof.Machine.execVcmpLt p o s
  | .vcmpLe p o => Sys2Proof.Machine.execVcmpLe p o s
  | .vsel p o => Sys2Proof.Machine.execVsel p o s
  | .vmov p o => Sys2Proof.Machine.execVmov p o s
  | .vbcast p o => Sys2Proof.Machine.execVbcast p o s
  | .vins p o => Sys2Proof.Machine.execVins p o s
  | .vext p o => Sys2Proof.Machine.execVext p o s
  | .vperm p o => Sys2Proof.Machine.execVperm p o s
  | .vredAdd p o => Sys2Proof.Machine.execVredAdd p o s
  | .vredMax p o => Sys2Proof.Machine.execVredMax p o s
  | .vand p o => Sys2Proof.Machine.execVand p o s
  | .vor p o => Sys2Proof.Machine.execVor p o s
  | .vxor p o => Sys2Proof.Machine.execVxor p o s
  | .vnot p o => Sys2Proof.Machine.execVnot p o s
  | .cvt p o => Sys2Proof.Machine.execCvt p o s
  | .scl p o => Sys2Proof.Machine.execScl p o s
  | .sgctx p o => Sys2Proof.Machine.execSgctx p o s
  | .chk p o => Sys2Proof.Machine.execChk p o s
  | .esc p o => Sys2Proof.Machine.execEsc p o s
  | .sgrd p o => Sys2Proof.Machine.execSgrd p o s
  | .seed p o => Sys2Proof.Machine.execSeed p o s
  | .rdsr p o => Sys2Proof.Machine.execRdsr p o s
  | .wrsr p o => Sys2Proof.Machine.execWrsr p o s
  | .fence p o => Sys2Proof.Machine.execFence p o s
  | .yield p o => Sys2Proof.Machine.execYield p o s
  | .endPly p o => Sys2Proof.Machine.execEndPly p o s
  | .endComplete p => Sys2Proof.Machine.execEndComplete p s
  | .ppt p o => Sys2Proof.Machine.execPpt p o s
  | .trap p o => Sys2Proof.Machine.execTrap p o s
  | .tret p o => Sys2Proof.Machine.execTret p o s
  | .ckpt p o => Sys2Proof.Machine.execCkpt p o s
  | .brk p o => Sys2Proof.Machine.execBrk p o s
  | .resume p => Sys2Proof.Machine.execResume p s
  | .abort p => Sys2Proof.Machine.execAbort p s
  | .msend p o => Sys2Proof.Machine.execMsend p o s
  | .msendg p o => Sys2Proof.Machine.execMsendg p o s
  | .mgath p o => Sys2Proof.Machine.execMgath p o s
  | .mgathg p o => Sys2Proof.Machine.execMgathg p o s
  | .scadd p o => Sys2Proof.Machine.execScadd p o s
  | .scaddg p o => Sys2Proof.Machine.execScaddg p o s
  | .maor p o => Sys2Proof.Machine.execMaor p o s
  | .mrecv p o => Sys2Proof.Machine.execMrecv p o s
  | .mpoll p o => Sys2Proof.Machine.execMpoll p o s
  | .mtag p o => Sys2Proof.Machine.execMtag p o s
  | .vtset p o => Sys2Proof.Machine.execVtset p o s
  | .vtget p o => Sys2Proof.Machine.execVtget p o s
  | .mtadd p o => Sys2Proof.Machine.execMtadd p o s
  | .mtrd p o => Sys2Proof.Machine.execMtrd p o s
  | .dmaq p o => Sys2Proof.Machine.execDmaq p o s
  | .dmat p o => Sys2Proof.Machine.execDmat p o s
  | .karr p o => Sys2Proof.Machine.execKarr p o s
  | .ksig p o => Sys2Proof.Machine.execKsig p o s
  | .kwait p o => Sys2Proof.Machine.execKwait p o s
  | .ktest p o => Sys2Proof.Machine.execKtest p o s
  | .karm p o => Sys2Proof.Machine.execKarm p o s
  | .krst p o => Sys2Proof.Machine.execKrst p o s
  | .ksigr p o => Sys2Proof.Machine.execKsigr p o s
  | .larmPly p o => Sys2Proof.Machine.execLarmPly p o s
  | .larmKnot p o => Sys2Proof.Machine.execLarmKnot p o s
  | .ldis p o => Sys2Proof.Machine.execLdis p o s
  | .lwait p o => Sys2Proof.Machine.execLwait p o s
  | .lwaitr p o => Sys2Proof.Machine.execLwaitr p o s
  | .lwaitWake p => Sys2Proof.Machine.execLwaitWake p s
  | .sendPerformed k => Sys2Proof.Machine.execSendPerformed k s
  | .gatherRequest k => Sys2Proof.Machine.execGatherRequest k s
  | .gatherReply k => Sys2Proof.Machine.execGatherReply k s
  | .scatterAdd k => Sys2Proof.Machine.execScatterAdd k s
  | .knotArrive j => Sys2Proof.Machine.execKnotArrive j s
  | .knotSignal j => Sys2Proof.Machine.execKnotSignal j s
  | .knotTest j => Sys2Proof.Machine.execKnotTest j s
  | .knotArm j => Sys2Proof.Machine.execKnotArm j s
  | .knotReset j => Sys2Proof.Machine.execKnotReset j s
  | .knotWatch j => Sys2Proof.Machine.execKnotWatch j s
  | .knotNoticeFire j => Sys2Proof.Machine.execKnotNoticeFire j s
  | .knotNoticeReset j => Sys2Proof.Machine.execKnotNoticeReset j s
  | .knotNoticeReply j => Sys2Proof.Machine.execKnotNoticeReply j s
  | .kwaitTimeout p => Sys2Proof.Machine.execKwaitTimeout p s
  | .inboxStall k => Sys2Proof.Machine.execInboxStall k s
  | .knotRegisterWrite n j v => Sys2Proof.Machine.execKnotRegisterWrite n j v s
  | .spanKnotRegisterWrite j v => Sys2Proof.Machine.execSpanKnotRegisterWrite j v s
  | .directoryWrite n v => Sys2Proof.Machine.execDirectoryWrite n v s
  | .launchSlotAct k q => Sys2Proof.Machine.execLaunchSlotAct k q s
  | .knotSlotAct k j => Sys2Proof.Machine.execKnotSlotAct k j s
  | .spanForm span => Sys2Proof.Machine.execSpanForm span s
  | .spanDissolve span force => Sys2Proof.Machine.execSpanDissolve span force s
  | .admissionLaunch n => Sys2Proof.Machine.execAdmissionLaunch n s
  | .admissionDmaTransfer n => Sys2Proof.Machine.execAdmissionDmaTransfer n s
  | .admissionRopeTransfer n => Sys2Proof.Machine.execAdmissionRopeTransfer n s
  | .pin n => Sys2Proof.Machine.execPin n s
  | .unpin n => Sys2Proof.Machine.execUnpin n s
  | .withdraw n => Sys2Proof.Machine.execWithdraw n s
  | .pinPageMove n h => Sys2Proof.Machine.execPinPageMove n h s
  | .pinComplete n h => Sys2Proof.Machine.execPinComplete n h s
  | .pinAbandoned n h => Sys2Proof.Machine.execPinAbandoned n h s
  | .unpinComplete n h => Sys2Proof.Machine.execUnpinComplete n h s
  | .slewEstimate n w => Sys2Proof.Machine.execSlewEstimate n w s
  | .slewDeferredLaunch n j => Sys2Proof.Machine.execSlewDeferredLaunch n j s
  | .successorLaunch n j => Sys2Proof.Machine.execSuccessorLaunch n j s
  | .deadlineExpiry n j => Sys2Proof.Machine.execDeadlineExpiry n j s
  | .promiseRecord n j => Sys2Proof.Machine.execPromiseRecord n j s
  | .dmaDescriptorStart n e => Sys2Proof.Machine.execDmaDescriptorStart n e s
  | .descriptorFetch n e => Sys2Proof.Machine.execDescriptorFetch n e s
  | .translationWalk n e => Sys2Proof.Machine.execTranslationWalk n e s
  | .dmaBlockSend n e err => Sys2Proof.Machine.execDmaBlockSend n e err s
  | .dmaBlockCommit n e crcOk err => Sys2Proof.Machine.execDmaBlockCommit n e crcOk err s
  | .dmaResume n e => Sys2Proof.Machine.execDmaResume n e s
  | .dmaAbort n e => Sys2Proof.Machine.execDmaAbort n e s
  | .faultQueueRecord n => Sys2Proof.Machine.execFaultQueueRecord n s
  | .invPage n asid va => Sys2Proof.Machine.execInvPage n asid va s
  | .invAsid n asid => Sys2Proof.Machine.execInvAsid n asid s
  | .invGlobal n => Sys2Proof.Machine.execInvGlobal n s
  | .invAll n => Sys2Proof.Machine.execInvAll n s
  | .invComplete n => Sys2Proof.Machine.execInvComplete n s
  | .hbmTraining n k ok => Sys2Proof.Machine.execHbmTraining n k ok s
  | .preemptSave n => Sys2Proof.Machine.execPreemptSave n s
  | .preemptRestore n => Sys2Proof.Machine.execPreemptRestore n s
  | .preemptCancel n => Sys2Proof.Machine.execPreemptCancel n s
  | .preemptForceLimit n k => Sys2Proof.Machine.execPreemptForceLimit n k s
  | .saveStart n k => Sys2Proof.Machine.execSaveStart n k s
  | .saveComplete n k => Sys2Proof.Machine.execSaveComplete n k s
  | .saveFault n k kind => Sys2Proof.Machine.execSaveFault n k kind s
  | .restoreComplete n k kind => Sys2Proof.Machine.execRestoreComplete n k kind s
  | .laserApc r l need bfm => Sys2Proof.Machine.execLaserApc r l need bfm s
  | .openFibre r => Sys2Proof.Machine.execOpenFibre r s
  | .openFibreProbe r => Sys2Proof.Machine.execOpenFibreProbe r s
  | .lightReturn r => Sys2Proof.Machine.execLightReturn r s
  | .ringControl g => Sys2Proof.Machine.execRingControl g s
  | .ringFailure g => Sys2Proof.Machine.execRingFailure g s
  | .ringTrack g track move => Sys2Proof.Machine.execRingTrack g track move s
  | .calibration r => Sys2Proof.Machine.execCalibration r s
  | .calibrationComplete u parts => Sys2Proof.Machine.execCalibrationComplete u parts s
  | .driftTrigger g => Sys2Proof.Machine.execDriftTrigger g s
  | .calibrate k r => Sys2Proof.Machine.execCalibrate k r s
  | .migrate k st => Sys2Proof.Machine.execMigrate k st s
  | .strandReport r => Sys2Proof.Machine.execStrandReport r s
  | .marginEstimate r ms => Sys2Proof.Machine.execMarginEstimate r ms s
  | .laserDeath r l => Sys2Proof.Machine.execLaserDeath r l s
  | .spareBringupPhase r => Sys2Proof.Machine.execSpareBringupPhase r s
  | .sparePhaseTimeout r => Sys2Proof.Machine.execSparePhaseTimeout r s
  | .openLoopLimit k => Sys2Proof.Machine.execOpenLoopLimit k s
  | .redirect cfg mask => Sys2Proof.Machine.execRedirect cfg mask s
  | .home mask => Sys2Proof.Machine.execHome mask s
  | .steerTrigger t => Sys2Proof.Machine.execSteerTrigger t s
  | .redirectionStart => Sys2Proof.Machine.execRedirectionStart s
  | .redirectionComplete => Sys2Proof.Machine.execRedirectionComplete s
  | .aorOpen j addr => Sys2Proof.Machine.execAorOpen j addr s
  | .aorOpenComplete j cal => Sys2Proof.Machine.execAorOpenComplete j cal s
  | .aorClose j => Sys2Proof.Machine.execAorClose j s
  | .aorCloseComplete j => Sys2Proof.Machine.execAorCloseComplete j s
  | .aorReady k j => Sys2Proof.Machine.execAorReady k j s
  | .aorSlot j adc off => Sys2Proof.Machine.execAorSlot j adc off s
  | .aorGainCalibration j gains => Sys2Proof.Machine.execAorGainCalibration j gains s
  | .flitData r f => Sys2Proof.Machine.execFlitData r f s
  | .flitLctl r f => Sys2Proof.Machine.execFlitLctl r f s
  | .flitIdle r f => Sys2Proof.Machine.execFlitIdle r f s
  | .flitAlign r f => Sys2Proof.Machine.execFlitAlign r f s
  | .ackRefresh r => Sys2Proof.Machine.execAckRefresh r s
  | .linkReplay r => Sys2Proof.Machine.execLinkReplay r s
  | .returnFrame rho => Sys2Proof.Machine.execReturnFrame rho s
  | .hello r => Sys2Proof.Machine.execHello r s
  | .changeReq r => Sys2Proof.Machine.execChangeReq r s
  | .changeRsp r cw => Sys2Proof.Machine.execChangeRsp r cw s
  | .spliceStart r => Sys2Proof.Machine.execSpliceStart r s
  | .spliceReady r cw => Sys2Proof.Machine.execSpliceReady r cw s
  | .switch r => Sys2Proof.Machine.execSwitch r s
  | .switchApply r => Sys2Proof.Machine.execSwitchApply r s
  | .widthRestoreCheck r bad cw => Sys2Proof.Machine.execWidthRestoreCheck r bad cw s
  | .spliceRequest r => Sys2Proof.Machine.execSpliceRequest r s
  | .spliceTimeout r => Sys2Proof.Machine.execSpliceTimeout r s
  | .widthDropDetect r strand => Sys2Proof.Machine.execWidthDropDetect r strand s
  | .retrainTrigger r ask => Sys2Proof.Machine.execRetrainTrigger r ask s
  | .trainingPhase r => Sys2Proof.Machine.execTrainingPhase r s
  | .trainingAttemptTimeout r => Sys2Proof.Machine.execTrainingAttemptTimeout r s
  | .lightDetected r => Sys2Proof.Machine.execLightDetected r s
  | .ropeRetrain r => Sys2Proof.Machine.execRopeRetrain r s
  | .ropeDown r => Sys2Proof.Machine.execRopeDown r s
  | .ropeUp r => Sys2Proof.Machine.execRopeUp r s
  | .openConn => Sys2Proof.Machine.execOpenConn s
  | .ack => Sys2Proof.Machine.execAck s
  | .put => Sys2Proof.Machine.execPut s
  | .putNak => Sys2Proof.Machine.execPutNak s
  | .putRefuse => Sys2Proof.Machine.execPutRefuse s
  | .knotSignalSegment => Sys2Proof.Machine.execKnotSignalSegment s
  | .heartbeat => Sys2Proof.Machine.execHeartbeat s
  | .checkpointChunk => Sys2Proof.Machine.execCheckpointChunk s
  | .hostWrite => Sys2Proof.Machine.execHostWrite s
  | .hostReadRequest st found => Sys2Proof.Machine.execHostReadRequest st found s
  | .hostReadCompletion => Sys2Proof.Machine.execHostReadCompletion s
  | .hostInterrupt => Sys2Proof.Machine.execHostInterrupt s
  | .hostRedirect => Sys2Proof.Machine.execHostRedirect s
  | .messageBatch a d k => Sys2Proof.Machine.execMessageBatch a d k s
  | .dmaBlockSegment n e => Sys2Proof.Machine.execDmaBlockSegment n e s
  | .transportAckTimer ep j => Sys2Proof.Machine.execTransportAckTimer ep j s
  | .transportTimeout ep j => Sys2Proof.Machine.execTransportTimeout ep j s
  | .rankUnreachable n r => Sys2Proof.Machine.execRankUnreachable n r s
  | .pcieLinkUp => Sys2Proof.Machine.execPcieLinkUp s
  | .pcieLinkDown => Sys2Proof.Machine.execPcieLinkDown s
  | .perst asserted => Sys2Proof.Machine.execPerst asserted s
  | .configurationRequest dw => Sys2Proof.Machine.execConfigurationRequest dw s
  | .queueEnable q v => Sys2Proof.Machine.execQueueEnable q v s
  | .queueDisable q => Sys2Proof.Machine.execQueueDisable q s
  | .doorbell q v => Sys2Proof.Machine.execDoorbell q v s
  | .sqAdmissionRequest q entry => Sys2Proof.Machine.execSqAdmissionRequest q entry s
  | .sqPreemptionRequest q entry => Sys2Proof.Machine.execSqPreemptionRequest q entry s
  | .sqDmaDescriptor q entry => Sys2Proof.Machine.execSqDmaDescriptor q entry s
  | .sqNoop q entry => Sys2Proof.Machine.execSqNoop q entry s
  | .completionWrite ext => Sys2Proof.Machine.execCompletionWrite ext s
  | .start claim => Sys2Proof.Machine.execStart claim s
  | .relinquish => Sys2Proof.Machine.execRelinquish s
  | .relinquishEnd => Sys2Proof.Machine.execRelinquishEnd s
  | .forget r => Sys2Proof.Machine.execForget r s
  | .checkpoint => Sys2Proof.Machine.execCheckpoint s
  | .heartbeatSend => Sys2Proof.Machine.execHeartbeatSend s
  | .heartbeatEdge => Sys2Proof.Machine.execHeartbeatEdge s
  | .heartbeatWindow => Sys2Proof.Machine.execHeartbeatWindow s
  | .announcement => Sys2Proof.Machine.execAnnouncement s
  | .leaseRenewal => Sys2Proof.Machine.execLeaseRenewal s
  | .leaseCasComplete found => Sys2Proof.Machine.execLeaseCasComplete found s
  | .leaseRenewalTimeout => Sys2Proof.Machine.execLeaseRenewalTimeout s
  | .leaseRead found => Sys2Proof.Machine.execLeaseRead found s
  | .takeover found => Sys2Proof.Machine.execTakeover found s
  | .snap id => Sys2Proof.Machine.execSnap id s
  | .snapshotMarker u => Sys2Proof.Machine.execSnapshotMarker u s
  | .snapshotConfirm n => Sys2Proof.Machine.execSnapshotConfirm n s
  | .snapshotRelease n => Sys2Proof.Machine.execSnapshotRelease n s
  | .snapshotHoldLimit n => Sys2Proof.Machine.execSnapshotHoldLimit n s
  | .conditionalClear a bit expect => Sys2Proof.Machine.execConditionalClear a bit expect s
  | .traceRecord t => Sys2Proof.Machine.execTraceRecord t s
  | .traceMark v => Sys2Proof.Machine.execTraceMark v s
  | .faultReport => Sys2Proof.Machine.execFaultReport s
  | .fenceComplete n => Sys2Proof.Machine.execFenceComplete n s
  | .windowExpiry c j => Sys2Proof.Machine.execWindowExpiry c j s
  | .hardwareClear c j => Sys2Proof.Machine.execHardwareClear c j s
  | .resolve c seq => Sys2Proof.Machine.execResolve c seq s
  | .release c => Sys2Proof.Machine.execRelease c s
  | .collectorMismatch c => Sys2Proof.Machine.execCollectorMismatch c s
  | .arm kind inst k => Sys2Proof.Machine.execArm kind inst k s
  | .disarm kind inst => Sys2Proof.Machine.execDisarm kind inst s
  | .accountingInterval rails => Sys2Proof.Machine.execAccountingInterval rails s
  | .activity cnt crcOk => Sys2Proof.Machine.execActivity cnt crcOk s
  | .activityTimeout => Sys2Proof.Machine.execActivityTimeout s
  | .mirror ok => Sys2Proof.Machine.execMirror ok s
  | .signReading ok => Sys2Proof.Machine.execSignReading ok s
  | .signAudit first ok => Sys2Proof.Machine.execSignAudit first ok s
  | .selfcal ok => Sys2Proof.Machine.execSelfcal ok s
  | .pulseSrc src ok => Sys2Proof.Machine.execPulseSrc src ok s
  | .ksStageBlock off len ok => Sys2Proof.Machine.execKsStageBlock off len ok s
  | .stageClear ok => Sys2Proof.Machine.execStageClear ok s
  | .response ok => Sys2Proof.Machine.execResponse ok s
  | .mailboxResend ok => Sys2Proof.Machine.execMailboxResend ok s
  | .mailboxTimeout => Sys2Proof.Machine.execMailboxTimeout s
  | .audit ok => Sys2Proof.Machine.execAudit ok s
  | .identity ok => Sys2Proof.Machine.execIdentity ok s
  | .pubkey ok => Sys2Proof.Machine.execPubkey ok s
  | .ksLinkUp => Sys2Proof.Machine.execKsLinkUp s
  | .ksLinkDown => Sys2Proof.Machine.execKsLinkDown s
  | .pairCompare => Sys2Proof.Machine.execPairCompare s
  | .clockCheck differ => Sys2Proof.Machine.execClockCheck differ s
  | .powerLoss => Sys2Proof.Machine.execPowerLoss s
  | .ksPeriodicCommit => Sys2Proof.Machine.execKsPeriodicCommit s
  | .powerOn above => Sys2Proof.Machine.execPowerOn above s
  | .ksImageCheck h => Sys2Proof.Machine.execKsImageCheck h s
  | .calibrationCycle r => Sys2Proof.Machine.execCalibrationCycle r s
  | .ksPulse => Sys2Proof.Machine.execKsPulse s
  | .stageBegin => Sys2Proof.Machine.execStageBegin s
  | .stageBlock len found => Sys2Proof.Machine.execStageBlock len found s
  | .stageEnd => Sys2Proof.Machine.execStageEnd s
  | .activate => Sys2Proof.Machine.execActivate s
  | .commit fuse => Sys2Proof.Machine.execCommit fuse s
  | .revert => Sys2Proof.Machine.execRevert s
  | .discard => Sys2Proof.Machine.execDiscard s
  | .hitchPhase recOk io => Sys2Proof.Machine.execHitchPhase recOk io s
  | .unitReady j => Sys2Proof.Machine.execUnitReady j s
  | .hitchUnitTimeout => Sys2Proof.Machine.execHitchUnitTimeout s
  | .promotionComplete => Sys2Proof.Machine.execPromotionComplete s
  | .bootOk => Sys2Proof.Machine.execBootOk s
  | .bootWatchdog io => Sys2Proof.Machine.execBootWatchdog io s
  | .install found => Sys2Proof.Machine.execInstall found s
  | .recoveryFrame seq op off crc data crcOk => Sys2Proof.Machine.execRecoveryFrame seq op off crc data crcOk s
  | .pwrokRise rank recovery cycle => Sys2Proof.Machine.execPwrokRise rank recovery cycle s
  | .coldStartStage io => Sys2Proof.Machine.execColdStartStage io s
  | .pwrokFall => Sys2Proof.Machine.execPwrokFall s
  | .vcoreSet n t => Sys2Proof.Machine.execVcoreSet n t s
  | .avsTransaction n ok mv => Sys2Proof.Machine.execAvsTransaction n ok mv s
  | .supplyFault e => Sys2Proof.Machine.execSupplyFault e s
  | .thermalTrip k => Sys2Proof.Machine.execThermalTrip k s
  | .i3cPrivateWrite bytes => Sys2Proof.Machine.execI3cPrivateWrite bytes s
  | .i3cPrivateRead => Sys2Proof.Machine.execI3cPrivateRead s
  | .extest pins => Sys2Proof.Machine.execExtest pins s
  | .samplePreload pins preload => Sys2Proof.Machine.execSamplePreload pins preload s
  | .idcode => Sys2Proof.Machine.execIdcode s
  | .clamp => Sys2Proof.Machine.execClamp s
  | .highz => Sys2Proof.Machine.execHighz s
  | .bypass => Sys2Proof.Machine.execBypass s
  | .mgmtAcc dr => Sys2Proof.Machine.execMgmtAcc dr s
  | .traceTap => Sys2Proof.Machine.execTraceTap s
  | .dieSel d => Sys2Proof.Machine.execDieSel d s
  | .tapReset => Sys2Proof.Machine.execTapReset s
  | .creditAndAckFrame l j dir f err => Sys2Proof.Machine.execCreditAndAckFrame l j dir f err s
  | .flitCrcFail r f => Sys2Proof.Machine.execFlitCrcFail r f s
  | .uncorrectableCodeword r flits => Sys2Proof.Machine.execUncorrectableCodeword r flits s
  | .codewordAlignment r => Sys2Proof.Machine.execCodewordAlignment r s
  | .mirroringStart r => Sys2Proof.Machine.execMirroringStart r s
  | .newWavelengthGood r cw => Sys2Proof.Machine.execNewWavelengthGood r cw s
  | .openFibreProbeEnd r => Sys2Proof.Machine.execOpenFibreProbeEnd r s
  | .aorHeadReread j => Sys2Proof.Machine.execAorHeadReread j s
  | .finalCheckpoint => Sys2Proof.Machine.execFinalCheckpoint s
  | .senseOutOfRange e => Sys2Proof.Machine.execSenseOutOfRange e s
  | .ksSigningComplete => Sys2Proof.Machine.execKsSigningComplete s

end Sys2Proof.Machine
end

