-- ==== Sys2Proof/Machine/Tick.lean ====
section
/-! DEFINITION. What one nanosecond does when no command waits (assumption 5): the clocks that the model holds count, and what was waiting
for something is tried again. -/
namespace Sys2Proof.Machine

/-- R155: the epoch counter of channel n counts, unless its clock is lost or its die is not up. -/
def tickEpoch (s : State) (n : Nat) : State :=
  if dieUp s n ∧ getF s (CD_EPOCH_STALE n) = 0 then addF s (CD_EPOCH_EPOCH n) 1 else s

/-- R298: a rope on 15 strands for more than 5.1 ms puts its promises at risk with cause SPLICE. -/
def tickRope (s : State) (r : Nat × RopeX) : State :=
  match r.2.narrow with
  | some t => if t + 5100000 < s.hubTime then riskRope s r.1 0 else s
  | none => s

/-- One nanosecond passes: the time, the epochs, the narrow ropes, host traffic that waits for its bridge, commands that wait. -/
def tick (s : State) : State :=
  let s := { s with hubTime := s.hubTime + 1 }
  let s := [0, 1, 2, 3].foldl tickEpoch s
  let s := s.ropes.foldl tickRope s
  serveHeld (flushHost s)

end Sys2Proof.Machine
end

