-- ==== Sys2Proof/Safety.lean ====
section
/-! DEFINITION. What counts as a safe run, and the terms in which claims say what a command changes and what it leaves alone. -/
namespace Sys2Proof.Machine

/-- A step is safe when the machine goes on: it neither faults nor refuses. -/
def Safe (s : State) : Prop := ∃ t, step s = .next t

/-- The outcome is a next state of which `P` holds. -/
def Goes (o : Out) (P : State → Prop) : Prop := ∃ t, o = .next t ∧ P t

/-- Register file and memory are in canonical form. -/
def Canonical (s : State) : Prop := Memory.wf s.mem = true ∧ tabWf resetWord s.regs = true

/-- No register changes but those listed. -/
def SameRegs (s t : State) (but : List Nat) : Prop := ∀ a, a ∉ but → rd t a = rd s a

/-- No register changes but those whose address satisfies `A`. -/
def SameRegsBut (s t : State) (A : Nat → Prop) : Prop := ∀ a, ¬ A a → rd t a = rd s a

/-- No byte of memory changes but those whose address satisfies `A`. -/
def SameMem (s t : State) (A : Nat → Prop) : Prop := ∀ pa, ¬ A pa → memGet t pa = memGet s pa

/-- No address. -/
def nowhere : Nat → Prop := fun _ => False

/-- The `n` addresses from `a`. -/
def within (a n : Nat) : Nat → Prop := fun x => a ≤ x ∧ x < a + n

/-- The records of the other plies are as they were. -/
def OtherPlies (s t : State) (p : PlyId) : Prop :=
  ∀ n b q, plyKey n b q ≠ plyKey p.n p.b p.q → plyGet t n b q = plyGet s n b q

/-- The records of the other bricks are as they were. -/
def OtherBricks (s t : State) (n b : Nat) : Prop :=
  ∀ n' b', brickKey n' b' ≠ brickKey n b → brickGet t n' b' = brickGet s n' b'

/-! ## Instructions of a brick -/

/-- R84-R91, R116, R148: the ply may issue, the word is legal, its guard is on, nothing earlier holds it and an entry is free where it needs one. -/
def Issues (s : State) (p : PlyId) (o : IOp) (maj mi : Nat) : Prop :=
  mayIssue s p = true ∧ legal (n3Avail s p.n) maj mi o = true ∧ guardOn s p o = true ∧
  ∀ r, findOp maj mi = some r → hazard s p r o = false ∧ (r.cls.holds o.d.val = true → sbAvail s p.n p.b p.q = true)

/-- The ply has moved on: one more instruction has issued and `next` is its PC; a PC beyond the store has raised the address trap. -/
def Moved (s t : State) (p : PlyId) (next : Nat) : Prop :=
  getPc t p = next % 2 ^ 20 ∧ (plyGet t p.n p.b p.q).issued = (plyGet s p.n p.b p.q).issued + 1
  ∧ (plyGet t p.n p.b p.q).trap = if next < 2 ^ 20 then none else some ⟨4, getPc s p, next⟩

/-- The registers that the issue of an instruction itself may write: PC, status and, where it needs one, a scoreboard entry. -/
def issueRegs (s : State) (p : PlyId) (maj mi : Nat) (o : IOp) : List Nat :=
  [CD_PLY_PC p.n p.b p.q, CD_PLY_STS p.n p.b p.q]
  ++ (if ((findOp maj mi).map (fun r => r.cls.holds o.d.val)).getD false then [CD_BK_SB p.n p.b (sbFree s p.n p.b)] else [])

end Sys2Proof.Machine
end

