-- ==== Sys2Proof/Certificates/Slice0/Obligations.lean ====
section
/-! DEFINITION. The statements for the provers, and the terms they share. -/

namespace Sys2Proof.Claims
open Machine

/-! ## Instructions of a brick -/

/-- Only registers, memory, the records of plies and those of bricks change; the other plies and bricks stay. -/
def BrickOnly (s t : State) (p : PlyId) : Prop :=
  OtherPlies s t p ∧ OtherBricks s t p.n p.b
  ∧ t = { s with
    regs := t.regs
    mem := t.mem
    plies := t.plies
    bricks := t.bricks }

/-- An instruction runs: when it issues, a next state follows in which `P` holds, the ply has moved to `next`, and nothing changes but the registers
listed, those of the issue, the memory that `A` names, and the record of the ply (the record of its brick stays). -/
def Runs (s : State) (p : PlyId) (o : IOp) (maj mi : Nat) (c : PlyId → IOp → Instr) (regs : List Nat) (A : Nat → Prop) (next : Nat)
    (P : State → Prop) : Prop :=
  Issues s p o maj mi → Goes (exec (c p o) s) (fun t => P t ∧ Moved s t p next ∧ SameRegs s t (regs ++ issueRegs s p maj mi o)
    ∧ SameMem s t A ∧ BrickOnly s t p ∧ t.bricks = s.bricks)

/-- Table 3-1: the register that a write to scalar register `i` changes; s0 discards writes. -/
def sDest (p : PlyId) (i : Nat) : List Nat := if i = 0 then [] else [CD_PLY_S p.n p.b p.q i]

/-- A scalar result. -/
def Gives (s : State) (p : PlyId) (o : IOp) (maj mi : Nat) (c : PlyId → IOp → Instr) (v : Word) : Prop :=
  Runs s p o maj mi c (sDest p o.d) nowhere (getPc s p + 8) (fun t => getS t p o.d = if o.d.val = 0 then 0 else v)

/-- A predicate result: p0 reads 1 and discards writes; the other predicates stay. -/
def Decides (s : State) (p : PlyId) (o : IOp) (maj mi : Nat) (c : PlyId → IOp → Instr) (v : Bool) : Prop :=
  Runs s p o maj mi c (if o.d.val = 0 then [] else [CD_PLY_PRED p.n p.b p.q]) nowhere (getPc s p + 8) (fun t =>
    getP t p o.d = (o.d.val == 0 || v) ∧ ∀ i, i < 8 → i ≠ o.d.val → getP t p i = getP s p i)

end Sys2Proof.Claims

open Sys2Proof Sys2Proof.Machine Sys2Proof.Claims

/-- Table 3-7 (R93): the register arithmetic instructions, each with its result, PC and frame. -/
def Sys2Proof.Claims.ScalarArithmetic : Prop :=
  ∀ (s : State) (p : PlyId) (o : IOp),
    let a := getS s p o.a
    let b := getS s p o.b
    let g (mi : Nat) (c : PlyId → IOp → Instr) (v : Word) : Prop := Gives s p o 0 mi c v
    g 0 .add (a + b) ∧ g 1 .sub (a - b) ∧ g 2 .and (a &&& b) ∧ g 3 .or (a ||| b) ∧ g 4 .xor (a ^^^ b)
    ∧ g 5 .shl (a <<< (b.toNat % 64)) ∧ g 6 .shr (a >>> (b.toNat % 64)) ∧ g 7 .sra (a.sshiftRight (b.toNat % 64))
    ∧ g 8 .mul (a * b) ∧ g 9 .mulhu (BitVec.ofNat 64 (a.toNat * b.toNat / 2 ^ 64))
    ∧ g 10 .mulh (BitVec.ofInt 64 (a.toInt * b.toInt / 2 ^ 64))
    ∧ g 11 .min (if a.slt b then a else b) ∧ g 12 .max (if a.slt b then b else a)
    ∧ g 13 .minu (if a < b then a else b) ∧ g 14 .maxu (if a < b then b else a)
    ∧ g 15 .popc (BitVec.ofNat 64 ((List.range 64).filter (fun i => a.getLsbD i)).length)
    ∧ Runs s p o 0 16 .clz (sDest p o.d) nowhere (getPc s p + 8) (fun t => o.d.val ≠ 0 →
        (a = 0 → getS t p o.d = 64) ∧ (a ≠ 0 → (getS t p o.d).toNat < 64 ∧ 2 ^ (63 - (getS t p o.d).toNat) ≤ a.toNat
          ∧ a.toNat < 2 ^ (64 - (getS t p o.d).toNat)))

/-- Table 3-8 (R93): the instructions with an immediate. -/
def Sys2Proof.Claims.ScalarImmediates : Prop :=
  ∀ (s : State) (p : PlyId) (o : IOp),
    let a := getS s p o.a
    let k : Word := o.x.signExtend 64
    let h := k.toNat % 64
    let g (mi : Nat) (c : PlyId → IOp → Instr) (v : Word) : Prop := Gives s p o 1 mi c v
    g 0 .addi (a + k) ∧ g 1 .andi (a &&& k) ∧ g 2 .ori (a ||| k) ∧ g 3 .xori (a ^^^ k)
    ∧ g 4 .shli (a <<< h) ∧ g 5 .shri (a >>> h) ∧ g 6 .srai (a.sshiftRight h) ∧ g 7 .muli (a * k) ∧ g 8 .li k
    ∧ g 9 .lih ((o.x.zeroExtend 64 <<< 33) ||| (getS s p o.d &&& 0x1FFFFFFFF))

/-- Tables 3-7 and 3-8: scalar arithmetic, on registers and with an immediate. -/
def Obligations.ScalarInstructions : Prop := Sys2Proof.Claims.ScalarArithmetic ∧ Sys2Proof.Claims.ScalarImmediates

/-- Table 3-9: the compares, signed and unsigned, of registers and with an immediate. -/
def Sys2Proof.Claims.Compares : Prop :=
  ∀ (s : State) (p : PlyId) (o : IOp),
    let a := getS s p o.a
    let b := getS s p o.b
    let k : Word := o.x.signExtend 64
    let g (mi : Nat) (c : PlyId → IOp → Instr) (v : Bool) : Prop := Decides s p o 2 mi c v
    g 0 .cmpEq (a == b) ∧ g 1 .cmpNe (a != b) ∧ g 2 .cmpLt (a.slt b) ∧ g 3 .cmpLtu (a.ult b)
    ∧ g 4 .cmpGe (!a.slt b) ∧ g 5 .cmpGeu (!a.ult b)
    ∧ g 8 .cmpiEq (a == k) ∧ g 9 .cmpiNe (a != k) ∧ g 10 .cmpiLt (a.slt k) ∧ g 11 .cmpiLtu (a.ult k)
    ∧ g 12 .cmpiGe (!a.slt k) ∧ g 13 .cmpiGeu (!a.ult k)

/-- Table 3-9: predicate operations, moves between the register files, and address arithmetic. -/
def Sys2Proof.Claims.PredicatesAndAddresses : Prop :=
  ∀ (s : State) (p : PlyId) (o : IOp),
    let x := getP s p o.a
    let y := getP s p o.b
    let next := getPc s p + 8
    let g (mi : Nat) (c : PlyId → IOp → Instr) (v : Bool) : Prop := Decides s p o 3 mi c v
    let adr (mi : Nat) (c : PlyId → IOp → Instr) (v : Word) : Prop :=
      Runs s p o 4 mi c [CD_PLY_A p.n p.b p.q o.d] nowhere next (fun t => getA t p o.d = v)
    g 0 .pand (x && y) ∧ g 1 .por (x || y) ∧ g 2 .pxor (x ^^ y) ∧ g 3 .pandn (x && !y) ∧ g 4 .pset (o.x.getLsbD 0)
    ∧ Runs s p o 3 5 .pget (sDest p o.d) nowhere next (fun t => o.d.val ≠ 0 →
        ∀ i, i < 64 → (getS t p o.d).getLsbD i = (decide (i < 8) && getP s p i))
    ∧ Runs s p o 3 6 .pput [CD_PLY_PRED p.n p.b p.q] nowhere next (fun t =>
        ∀ i, i < 8 → getP t p i = (i == 0 || (getS s p o.a).getLsbD i))
    ∧ adr 0 .amov (getS s p o.a) ∧ Gives s p o 4 1 .smov (getA s p o.a)
    ∧ adr 2 .aadd (getA s p o.a + getS s p o.b) ∧ adr 3 .aaddi (getA s p o.a + o.x.signExtend 64)

/-- Table 3-9: compares, predicate operations, moves between the register files, and address arithmetic. -/
def Obligations.ComparesPredicatesAddresses : Prop := Sys2Proof.Claims.Compares ∧ Sys2Proof.Claims.PredicatesAndAddresses

/-- Table 3-10 (R94): branches to a legal target, calls and loops; the branches not taken; nop. A target outside the store or not a multiple of 8
raises trap 4 with the target in TINFO, and nothing else happens: the PC and the link register stay. The target of a branch not taken is not checked, and a branch whose guard is off is
not taken. -/
def Obligations.Branches : Prop :=
  ∀ (s : State) (p : PlyId) (o : IOp),
    let pc := getPc s p
    let rel : Word := BitVec.ofNat 64 pc + o.x.signExtend 64 * 8
    let ra := getS s p o.a
    let link (t : State) : Prop := getS t p o.d = if o.d.val = 0 then 0 else BitVec.ofNat 64 (pc + 8)
    let dec := getS s p o.d - 1
    let can (w : Word) : Prop := w.toNat % 8 = 0 ∧ w.toNat < 2 ^ 20
    let run (maj mi : Nat) (c : PlyId → IOp → Instr) (regs : List Nat) (next : Nat) (P : State → Prop) : Prop :=
      Runs s p o maj mi c regs nowhere next P
    let bad (maj mi : Nat) (c : PlyId → IOp → Instr) (w : Word) : Prop := Issues s p o maj mi →
      exec (c p o) s = .next (plyMod s p.n p.b p.q (fun x => { x with trap := some ⟨4, pc, w.toNat⟩ }))
    (can rel → run 8 0 .br [] rel.toNat (fun _ => True)) ∧ (¬ can rel → bad 8 0 .br rel)
    ∧ (can rel → run 8 1 .call (sDest p o.d) rel.toNat link) ∧ (¬ can rel → bad 8 1 .call rel)
    ∧ (can ra → run 9 0 .jr [] ra.toNat (fun _ => True)) ∧ (¬ can ra → bad 9 0 .jr ra)
    ∧ (can ra → run 9 1 .jalr (sDest p o.d) ra.toNat link) ∧ (¬ can ra → bad 9 1 .jalr ra)
    ∧ (dec ≠ 0 → can rel → run 10 0 .loop (sDest p o.d) rel.toNat (fun t => getS t p o.d = if o.d.val = 0 then 0 else dec))
    ∧ (dec ≠ 0 → ¬ can rel → bad 10 0 .loop rel)
    ∧ (dec = 0 → run 10 0 .loop (sDest p o.d) (pc + 8) (fun t => getS t p o.d = 0))
    ∧ (ra = 0 → can rel → run 10 1 .bz [] rel.toNat (fun _ => True)) ∧ (ra = 0 → ¬ can rel → bad 10 1 .bz rel)
    ∧ (ra ≠ 0 → run 10 1 .bz [] (pc + 8) (fun _ => True))
    ∧ (ra ≠ 0 → can rel → run 10 2 .bnz [] rel.toNat (fun _ => True)) ∧ (ra ≠ 0 → ¬ can rel → bad 10 2 .bnz rel)
    ∧ (ra = 0 → run 10 2 .bnz [] (pc + 8) (fun _ => True))
    ∧ run 11 0 .nop [] (pc + 8) (fun _ => True)
    ∧ (∀ r : Nat × Nat × (PlyId → IOp → Instr), r ∈ [(8, 0, .br), (8, 1, .call), (9, 0, .jr), (9, 1, .jalr), (10, 0, .loop), (10, 1, .bz), (10, 2, .bnz)] →
        mayIssue s p = true → legal (n3Avail s p.n) r.1 r.2.1 o = true → guardOn s p o = false →
        Goes (exec (r.2.2 p o) s) (fun t => Moved s t p (pc + 8) ∧ ∀ i : Fin 32, getS t p i = getS s p i))

/-- Table 3-11 (R95, R96): scalar loads and stores at an address inside the store and aligned, and the atomics; sign and zero extension; only the bytes of the store change. -/
def Sys2Proof.Claims.LoadsAndStores : Prop :=
  ∀ (s : State) (p : PlyId) (o : IOp),
    let a : Word := getA s p o.a + o.x.signExtend 64
    let at_ := storePa p.n p.b a.toNat
    let next := getPc s p + 8
    let fits (len : Nat) : Prop := a.toNat + len ≤ 2 ^ 20 ∧ a.toNat % len = 0
    let old (len : Nat) : Nat := leVal (readBytes s at_ len)
    let load (mi len : Nat) (c : PlyId → IOp → Instr) (v : Word) : Prop := fits len → Gives s p o 12 mi c v
    let store (mi len : Nat) (c : PlyId → IOp → Instr) (v : Word) : Prop := fits len →
      Runs s p o 13 mi c [] (within at_ len) next (fun t => readBytes t at_ len = leBytes len v.toNat)
    let swap (mi : Nat) (c : PlyId → IOp → Instr) (v : Word) : Prop := fits 8 →
      Runs s p o 15 mi c (sDest p o.d) (within at_ 8) next (fun t =>
        (getS t p o.d = if o.d.val = 0 then 0 else BitVec.ofNat 64 (old 8)) ∧ readBytes t at_ 8 = leBytes 8 v.toNat)
    load 0 1 .ldB ((BitVec.ofNat 8 (old 1)).signExtend 64) ∧ load 1 1 .ldBu (BitVec.ofNat 64 (old 1))
    ∧ load 2 2 .ldH ((BitVec.ofNat 16 (old 2)).signExtend 64) ∧ load 3 2 .ldHu (BitVec.ofNat 64 (old 2))
    ∧ load 4 4 .ldW ((BitVec.ofNat 32 (old 4)).signExtend 64) ∧ load 5 4 .ldWu (BitVec.ofNat 64 (old 4))
    ∧ load 6 8 .ldD (BitVec.ofNat 64 (old 8))
    ∧ (fits 8 → Runs s p o 12 7 .ldA [CD_PLY_A p.n p.b p.q o.d] nowhere next (fun t => getA t p o.d = BitVec.ofNat 64 (old 8)))
    ∧ store 0 1 .stB (getS s p o.b) ∧ store 1 2 .stH (getS s p o.b) ∧ store 2 4 .stW (getS s p o.b)
    ∧ store 3 8 .stD (getS s p o.b) ∧ store 4 8 .stA (getA s p o.b)
    ∧ swap 0 .amoaddD (BitVec.ofNat 64 (old 8) + getS s p o.b) ∧ swap 1 .amoswapD (getS s p o.b)
    ∧ swap 2 .amocasD (if BitVec.ofNat 64 (old 8) = getS s p o.d then getS s p o.b else BitVec.ofNat 64 (old 8))

/-- R96, R114: an access outside the store raises trap 2 with the first address outside it, one inside that is not aligned trap 3 with its address; EPC is the
instruction's own address and nothing else happens. -/
def Sys2Proof.Claims.AddressTraps : Prop :=
  ∀ (s : State) (p : PlyId) (o : IOp),
    let a : Word := getA s p o.a + o.x.signExtend 64
    let traps (maj mi len : Nat) (c : PlyId → IOp → Instr) : Prop := Issues s p o maj mi →
      let raised (cause info : Nat) : Prop := exec (c p o) s = .next (plyMod s p.n p.b p.q (fun x => { x with trap := some ⟨cause, getPc s p, info⟩ }))
      (2 ^ 20 < a.toNat + len → raised 2 (max a.toNat (2 ^ 20))) ∧ (a.toNat + len ≤ 2 ^ 20 → a.toNat % len ≠ 0 → raised 3 a.toNat)
    traps 12 0 1 .ldB ∧ traps 12 1 1 .ldBu ∧ traps 12 2 2 .ldH ∧ traps 12 3 2 .ldHu ∧ traps 12 4 4 .ldW ∧ traps 12 5 4 .ldWu ∧ traps 12 6 8 .ldD
    ∧ traps 12 7 8 .ldA ∧ traps 13 0 1 .stB ∧ traps 13 1 2 .stH ∧ traps 13 2 4 .stW ∧ traps 13 3 8 .stD ∧ traps 13 4 8 .stA
    ∧ traps 15 0 8 .amoaddD ∧ traps 15 1 8 .amoswapD ∧ traps 15 2 8 .amocasD

/-- Table 3-11 (R95, R96): scalar loads, stores and atomics, and the traps of every access to the store. -/
def Obligations.ScalarStoreAccesses : Prop := Sys2Proof.Claims.LoadsAndStores ∧ Sys2Proof.Claims.AddressTraps

namespace Sys2Proof.Claims
open Machine

/-- The words of a vector register, of a bank and of a weight plane. -/
def vWords (p : PlyId) (i : Nat) : List Nat := (List.range 11).map (CD_BK_VREG p.n p.b i)
def bankWords (p : PlyId) (k : Nat) : List Nat := (List.range 33).map (CD_BK_ACC p.n p.b k)
def planeWords (p : PlyId) : List Nat := (List.range 4).flatMap (fun j => (List.range 161).map (CD_BK_WPL p.n p.b j))
/-- The registers of a brick that arithmetic counts and flags in. -/
def mathRegs (p : PlyId) : List Nat :=
  [CD_BK_SEED p.n p.b, CD_BK_ARITH p.n p.b, CD_BK_SGCNT0 p.n p.b, CD_BK_SGCNT2 p.n p.b, CD_BK_SGCNT3 p.n p.b, CD_BK_SGSTS p.n p.b,
    occAdr (CD_BK_SGSTS p.n p.b) 0]

/-- Like `Runs`, where the record of the brick may change too. -/
def RunsIn (s : State) (p : PlyId) (o : IOp) (maj mi : Nat) (c : PlyId → IOp → Instr) (regs : List Nat) (A : Nat → Prop) (next : Nat)
    (P : State → Prop) : Prop :=
  Issues s p o maj mi → Goes (exec (c p o) s) (fun t => P t ∧ Moved s t p next ∧ SameRegs s t (regs ++ issueRegs s p maj mi o)
    ∧ SameMem s t A ∧ BrickOnly s t p)

/-- Element `i` of a register as 32 bits. -/
def el32 (v : VReg) (i : Nat) : BitVec 32 := BitVec.ofNat 32 (v.data / 2 ^ (32 * i))

/-- Bytes of a brick's store as a number. -/
def storeVal (s : State) (p : PlyId) (off n : Nat) : Nat := leVal (readBytes s (storePa p.n p.b off) n)

end Sys2Proof.Claims


/-- R97, R98 (Table 3-12): vld and vst of a RAW line and of tensors, vsbld and vsbst: the bytes that move, the post-increments, and that no
other byte or register changes. -/
def Obligations.TensorAccess : Prop :=
  ∀ (s : State) (p : PlyId) (o : IOp),
    let next := getPc s p + 8
    let blk : Int := (o.x.setWidth 21).toInt
    let a : Word := getA s p o.a + BitVec.ofInt 64 (64 * blk)
    let line : Prop := a.toNat + 64 ≤ 2 ^ 20 ∧ a.toNat % 64 = 0
    let bump (t : State) (i k : Nat) : Prop := getA t p i = getA s p i + (if o.tP then BitVec.ofNat 64 k else 0)
    let aRegs (k : Nat) : List Nat := if o.tP then (List.range k).map (fun j => CD_PLY_A p.n p.b p.q (o.a + j)) else []
    let V := getV s p.n p.b o.b
    (o.tFmt = some .raw → line →
      Runs s p o 14 0 .vld (vWords p o.d ++ aRegs 1) nowhere next (fun t =>
        getV t p.n p.b o.d = ⟨storeVal s p a.toNat 64, scaleOnes, 0, 0, 0⟩ ∧ bump t o.a 64)
      ∧ Runs s p o 14 1 .vst (aRegs 1) (within (storePa p.n p.b a.toNat) 64) next (fun t =>
        readBytes t (storePa p.n p.b a.toNat) 64 = leBytes 64 V.data ∧ bump t o.a 64))
    ∧ (∀ f, o.tFmt = some f → f ≠ .raw → rangeTrap (tensorRanges s p o f) = none →
      let ea := (getA s p o.a + BitVec.ofInt 64 (blk * f.blockBytes)).toNat
      let sa := (getA s p (o.a + 1) + BitVec.ofInt 64 blk).toNat
      let fa := (getA s p (o.a + 2) + BitVec.ofInt 64 blk).toNat
      Runs s p o 14 0 .vld (vWords p o.d ++ aRegs 3) nowhere next (fun t =>
        (∀ j, j < o.tNb → (f ≠ .n3 → (getV t p.n p.b o.d).blockData f j = storeVal s p (ea + j * f.blockBytes) f.blockBytes)
          ∧ (f.narrow = true → (getV t p.n p.b o.d).scaleOf j = storeVal s p (sa + j) 1)
          ∧ (o.tF = true → bitN (getV t p.n p.b o.d).sat j = bitN (storeVal s p (fa + j) 1) 0))
        ∧ bump t o.a (o.tNb * f.blockBytes))
      ∧ Runs s p o 14 1 .vst (aRegs 3) (fun pa => within (storePa p.n p.b ea) (o.tNb * f.blockBytes) pa
          ∨ (f.narrow = true ∧ within (storePa p.n p.b sa) o.tNb pa) ∨ (o.tF = true ∧ within (storePa p.n p.b fa) o.tNb pa)) next (fun t =>
        ((f = .f16 ∨ f = .f32) → o.tF = false → V.poison = 0 →
          readBytes t (storePa p.n p.b ea) (o.tNb * f.blockBytes) = leBytes (o.tNb * f.blockBytes) V.data)
        ∧ bump t o.a (o.tNb * f.blockBytes)))
    ∧ (line → Runs s p o 14 2 .vsbld (vWords p o.d) nowhere next (fun t =>
        getV t p.n p.b o.d = ⟨(getV s p.n p.b o.d).data, storeVal s p a.toNat 16, storeVal s p (a.toNat + 16) 2,
          storeVal s p (a.toNat + 18) 2, storeVal s p (a.toNat + 20) 2⟩))
    ∧ (line → Runs s p o 14 3 .vsbst [] (within (storePa p.n p.b a.toNat) 24) next (fun t =>
        storeVal t p a.toNat 16 = V.scale ∧ storeVal t p (a.toNat + 16) 2 = V.sat ∧ storeVal t p (a.toNat + 18) 2 = V.esc
        ∧ storeVal t p (a.toNat + 20) 2 = V.poison))

/-- R99-R103: wld fills a plane and sets its mode, wsel selects one; a step uses up the pending chk and esc, counts its blocks where its mode carries
safeguards, and changes the bank it names alone. -/
def Obligations.WeightPlanesAndSteps : Prop :=
  ∀ (s : State) (p : PlyId) (o : IOp) (f : Fmt),
    let next := getPc s p + 8
    let a : Word := getA s p o.a + BitVec.ofNat 64 (64 * o.xOff)
    let d (i : Nat) : Nat := storeVal s p (a.toNat + 8 * i) 8
    let fl := storeVal s p (a.toNat + 32) 1 % 2 = 1
    let blocks := (if o.xC then 32 else planeRows f) / 16 * 64
    let j := getF s (CD_BK_ARRST_WACT p.n p.b)
    let b : Word := getA s p o.b + BitVec.ofNat 64 (64 * o.xOff)
    let used (t : State) : Prop := getF t (CD_PLY_STS_CHK_PEND p.n p.b p.q) = 0 ∧ getF t (CD_PLY_STS_ESC_PEND p.n p.b p.q) = 0
    (o.xFmt = some f → a.toNat + 64 ≤ 2 ^ 20 → a.toNat % 64 = 0 →
      (f = .f16 → d 0 + 1024 ≤ 2 ^ 20) →
      (f ≠ .f16 → d 0 + blocks * f.blockBytes ≤ 2 ^ 20 ∧ d 1 + blocks ≤ 2 ^ 20 ∧ (fl → d 2 + blocks ≤ 2 ^ 20) ∧ d 3 % 64 = 0) →
      RunsIn s p o 16 0 .wld (CD_BK_SGCNT2 p.n p.b :: planeWords p) nowhere next (fun t =>
        planeMode t p.n p.b o.d = (if o.xC || f = .n3 then Fmt.n4.code else f.code)
        ∧ (f = .t2 → o.xC = false → planeMode t p.n p.b ((o.d + 1) % 4) = 0xE)
        ∧ (f ≠ .f16 → getF t (CD_BK_WPL_SHADOW p.n p.b o.d) = d 3 / 64 % 2 ^ 14)))
    ∧ Runs s p o 16 1 .wsel [CD_BK_ARRST p.n p.b] nowhere next (fun t => getF t (CD_BK_ARRST_WACT p.n p.b) = o.d.val)
    ∧ (o.xFmt = some f → guardedMode f = true → b.toNat + 17 * (planeRows f / 16) ≤ 2 ^ 20 → b.toNat % 64 = 0 → planeMode s p.n p.b j = f.code →
      shadowBase s p.n p.b j + 64 * planeRows f + 64 * (planeRows f / 16) ≤ 2 ^ 20 →
      (brickGet s p.n p.b).shq.length + planeRows f / 16 ≤ 4 →
      RunsIn s p o 17 0 .step (bankWords p o.d ++ mathRegs p) nowhere next (fun t => used t
        ∧ getF t (CD_BK_SGCNT3_BLOCKS p.n p.b) = (getF s (CD_BK_SGCNT3_BLOCKS p.n p.b) + planeRows f / 16) % 2 ^ 32))
    ∧ (o.xFmt = some f → (f = .n8 ∨ f = .f16 ∧ bankF32 s p.n p.b o.d = true) → planeMode s p.n p.b j = f.code →
      Runs s p o 17 0 .step (bankWords p o.d ++ mathRegs p) nowhere next (fun t => used t
        ∧ getF t (CD_BK_SGCNT3_BLOCKS p.n p.b) = getF s (CD_BK_SGCNT3_BLOCKS p.n p.b)))

/-- R104-R106: aclr clears a bank and sets its kind and exponent; adrain writes a vector register and keeps or clears the bank; aadd adds a register, in the raw form
with saturation, into the part of the bank that the instruction names. -/
def Obligations.Accumulators : Prop :=
  ∀ (s : State) (p : PlyId) (o : IOp) (f : Fmt),
    let next := getPc s p + 8
    let n := p.n.val
    let b := p.b.val
    let es (t : State) (k : Nat) := bankEntries t n b k
    (bankBusy s n b o.d = false → Runs s p o 18 0 .aclr (CD_BK_ARITH n b :: bankWords p o.d) nowhere next (fun t =>
        es t o.d = List.replicate 64 (0, false) ∧ bankF32 t n b o.d = o.x.getLsbD 8
        ∧ bitsN (getF t (CD_BK_ARITH_BANK_EXP n b)) (8 * o.d + 7) (8 * o.d) = (o.x.toNat % 256 + 127) % 256
        ∧ bitN (getF t (CD_BK_ARITH_BANK_SATF n b)) o.d = 0 ∧ bitN (getF t (CD_BK_ARITH_BANK_ESCF n b)) o.d = 0))
    ∧ (o.xFmt = some f → bankBusy s n b o.a = false → (f = .i32 → bankF32 s n b o.a = false) →
      Runs s p o 18 1 .adrain (vWords p o.d ++ bankWords p o.a ++ mathRegs p) nowhere next (fun t =>
        es t o.a = (if o.xC then List.replicate 64 (0, false) else es s o.a)
        ∧ (f = .i32 → ∀ i, i < 16 → ∃ e, (es s o.a)[16 * o.xPart + i]? = some e ∧ (el32 (getV t n b o.d) i).toNat = if e.2 then 2 ^ 31 else e.1)))
    ∧ (o.xFmt = some f → bankBusy s n b o.d = false → bankF32 s n b o.d ≠ (f == .i32) →
      Runs s p o 18 2 .aaddFmt (bankWords p o.d ++ mathRegs p) nowhere next (fun t =>
        ∀ i e, (es s o.d)[i]? = some e →
          let len := 16 * f.blocks
          (i < o.xPart * len ∨ o.xPart * len + len ≤ i → (es t o.d)[i]? = some e)
          ∧ (f = .i32 → o.xPart * 16 ≤ i → i < o.xPart * 16 + 16 → e.2 = false → (getV s n b o.a).blockPoison .i32 0 = false →
            (es t o.d)[i]? = some (wrapN (max (-2 ^ 31) (min (2 ^ 31 - 1)
              (sextN e.1 32 + (el32 (getV s n b o.a) (i - o.xPart * 16)).toInt))) 32, false))))

/-- R107 (Table 3-16): elementwise instructions. In I32 every element is the wrapped result; in every format the output's SCALE bytes are 0x7F and its SAT and
ESC flags are those of its sources together. -/
def Sys2Proof.Claims.VectorArithmetic : Prop :=
  ∀ (s : State) (p : PlyId) (o : IOp) (f : Fmt), o.xFmt = some f →
    let A := getV s p.n p.b o.a
    let B := getV s p.n p.b o.b
    let D := getV s p.n p.b o.d
    let m := 2 ^ f.blocks
    let op (maj mi : Nat) (c : PlyId → IOp → Instr) (sat esc : Nat) (r : Nat → BitVec 32) : Prop :=
      Runs s p o maj mi c (vWords p o.d ++ [CD_BK_SEED p.n p.b]) nowhere (getPc s p + 8) (fun t =>
        let R := getV t p.n p.b o.d
        R.scale = scaleOnes ∧ R.sat = sat % m ∧ R.esc = esc % m ∧ (f = .i32 → ∀ i, i < 16 → el32 R i = r i))
    let two (mi : Nat) (c : PlyId → IOp → Instr) (g : BitVec 32 → BitVec 32 → BitVec 32) : Prop :=
      op 24 mi c (A.sat ||| B.sat) (A.esc ||| B.esc) (fun i => g (el32 A i) (el32 B i))
    let one (mi : Nat) (c : PlyId → IOp → Instr) (g : BitVec 32 → BitVec 32) : Prop := op 26 mi c A.sat A.esc (fun i => g (el32 A i))
    two 0 .vadd (fun x y => x + y) ∧ two 1 .vsub (fun x y => x - y) ∧ two 2 .vmul (fun x y => x * y)
    ∧ two 3 .vmax (fun x y => if x.slt y then y else x) ∧ two 4 .vmin (fun x y => if x.slt y then x else y)
    ∧ op 25 0 .vfma (D.sat ||| A.sat ||| B.sat) (D.esc ||| A.esc ||| B.esc) (fun i => el32 D i + el32 A i * el32 B i)
    ∧ one 0 .vabs (fun x => if x.slt 0 then -x else x) ∧ one 1 .vneg (fun x => -x) ∧ one 2 .vrelu (fun x => if x.slt 0 then 0 else x)

/-- R107: the transcendental instructions run on every operand; their results lie within the error the spec allows, which the model leaves free (assumption 4): each
element takes one free value, and the exact results of special operands are kept. -/
def Sys2Proof.Claims.VectorTranscendentals : Prop :=
  ∀ (s : State) (p : PlyId) (o : IOp) (f : Fmt), o.xFmt = some f →
    let A := getV s p.n p.b o.a
    let el (v : VReg) (i : Nat) : Nat := v.data / 2 ^ (f.bits * i) % 2 ^ f.bits
    let k := 512 / f.bits
    let run (mi : Nat) (c : PlyId → IOp → Instr) (g : V → V) : Prop := Issues s p o 26 mi → Goes (exec (c p o) s) (fun t =>
      let R := getV t p.n p.b o.d
      Moved s t p (getPc s p + 8) ∧ SameRegs s t (vWords p o.d ++ CD_BK_SEED p.n p.b :: issueRegs s p 26 mi o) ∧ SameMem s t nowhere ∧ OtherPlies s t p
      ∧ t = { s with
        regs := t.regs
        plies := t.plies
        draws := s.draws + k }
      ∧ R.scale = scaleOnes ∧ R.sat = A.sat % 2 ^ f.blocks ∧ R.esc = A.esc % 2 ^ f.blocks
      ∧ ∀ i, i < k → match g (decElem f (el A i)) with
        | .num .. => True
        | v => el R i = encFloat f v)
    run 8 .vrcp vRcp ∧ run 9 .vrsqrt vRsqrt ∧ run 10 .vexp2 vExp2 ∧ run 11 .vlog2 vLog2

/-- Table 3-16 (R107): vector arithmetic, the transcendental functions and the reductions. -/
def Obligations.VectorOperations : Prop := Sys2Proof.Claims.VectorArithmetic ∧ Sys2Proof.Claims.VectorTranscendentals

/-- R107 (Table 3-16): compares, selection, moves between registers, permutation, reductions and bitwise operations. -/
def Obligations.VectorMoves : Prop :=
  ∀ (s : State) (p : PlyId) (o : IOp) (f : Fmt), o.xFmt = some f →
    let next := getPc s p + 8
    let n := p.n.val
    let b := p.b.val
    let A := getV s n b o.a
    let B := getV s n b o.b
    let D := getV s n b o.d
    let el (v : VReg) (i : Nat) : Nat := v.data / 2 ^ (f.bits * i) % 2 ^ f.bits
    let k := 512 / f.bits
    let run (maj mi : Nat) (c : PlyId → IOp → Instr) (P : VReg → Prop) : Prop :=
      Runs s p o maj mi c (vWords p o.d) nowhere next (fun t => P (getV t n b o.d))
    let cmp (mi : Nat) (c : PlyId → IOp → Instr) (g : Int → Int → Bool) : Prop := run 27 mi c (fun R =>
      R.scale = scaleOnes ∧ ∀ i, i < k → (el R i = 0 ∨ el R i = 2 ^ f.bits - 1)
        ∧ (f = .i32 → A.blockPoison .i32 0 = false → B.blockPoison .i32 0 = false →
          (el R i = 2 ^ f.bits - 1 ↔ g (el32 A i).toInt (el32 B i).toInt = true)))
    let bits (mi : Nat) (c : PlyId → IOp → Instr) (g : Bool → Bool → Bool) : Prop := run 30 mi c (fun R =>
      (∀ i, i < 512 → R.data.testBit i = g (A.data.testBit i) (B.data.testBit i)) ∧ R.scale = A.scale ∧ R.sat = A.sat ∧ R.esc = A.esc ∧ R.poison = A.poison)
    let red (mi : Nat) (c : PlyId → IOp → Instr) (w : BitVec 32 → BitVec 32 → BitVec 32) : Prop :=
      Runs s p o 29 mi c (sDest p o.d) nowhere next (fun t => o.d.val ≠ 0 → f = .i32 →
        getS t p o.d = (((List.range 15).foldl (fun x i => w x (el32 A (i + 1))) (el32 A 0)).signExtend 64))
    cmp 0 .vcmpEq (fun x y => x == y) ∧ cmp 1 .vcmpLt (fun x y => decide (x < y)) ∧ cmp 2 .vcmpLe (fun x y => decide (x ≤ y))
    ∧ run 27 3 .vsel (fun R => R.scale = scaleOnes ∧ ∀ i, i < k → el R i = if (decElem f (el B i)).isZero then el D i else el A i)
    ∧ run 28 0 .vmov (fun R => R = A)
    ∧ run 28 1 .vbcast (fun R => (∀ i, i < k → el R i = (getS s p o.a).toNat % 2 ^ f.bits) ∧ R.scale = scaleOnes ∧ R.sat = 0 ∧ R.esc = 0)
    ∧ run 28 2 .vins (fun R => ∀ i, i < k → el R i = if i = o.vIdx then (getS s p o.a).toNat % 2 ^ f.bits else el D i)
    ∧ Gives s p o 28 3 .vext (if f = .i32 then (el32 A o.vIdx).signExtend 64 else BitVec.ofNat 64 (el A o.vIdx))
    ∧ run 29 0 .vperm (fun R => R.scale = scaleOnes ∧ ∀ i, i < k → el R i = el A (el B i % k))
    ∧ red 1 .vredAdd (fun x y => x + y) ∧ red 2 .vredMax (fun x y => if x.slt y then y else x)
    ∧ bits 0 .vand (fun x y => x && y) ∧ bits 1 .vor (fun x y => x || y) ∧ bits 2 .vxor (fun x y => x ^^ y) ∧ bits 3 .vnot (fun x _ => !x)

/-- R108, R109: cvt changes the destination register, the rounding state and the counters alone, and keeps the blocks of the destination that the
part does not name; scl adjusts the scale byte of each selected block that is not poisoned, held to 0 to 0xFE, and no element. -/
def Obligations.Precision : Prop :=
  ∀ (s : State) (p : PlyId) (o : IOp),
    let next := getPc s p + 8
    let n := p.n.val
    let b := p.b.val
    let D := getV s n b o.d
    (∀ d f, o.cD = some d → o.cS = some f →
      Runs s p o 50 0 .cvt (vWords p o.d ++ [CD_BK_SEED n b, CD_BK_SGCNT0 n b, CD_BK_SGCNT2 n b]) nowhere next (fun t =>
        ∀ j, j < d.blocks → f.blocks < d.blocks → (j < o.cPart * f.blocks ∨ o.cPart * f.blocks + f.blocks ≤ j) →
          (getV t n b o.d).blockData d j = D.blockData d j ∧ (getV t n b o.d).scaleOf j = D.scaleOf j))
    ∧ (∀ f, o.xFmt = some f → Runs s p o 51 0 .scl (vWords p o.d ++ [CD_BK_SGCNT0 n b]) nowhere next (fun t =>
        (getV t n b o.d).data = D.data ∧
        ∀ j, j < f.blocks → ((getV t n b o.d).scaleOf j : Int) =
          if bitN (o.bits 23 8) j = 1 ∧ D.blockPoison f j = false then max 0 (min 0xFE ((D.scaleOf j : Int) + (BitVec.ofNat 8 o.x.toNat).toInt))
          else D.scaleOf j))

/-- R110-R113, Table 3-18: the safeguard context, pending chk and esc, the counters read, the seed, the system registers read and written. -/
def Obligations.SafeguardAndSystemRegisters : Prop :=
  ∀ (s : State) (p : PlyId) (o : IOp),
    let next := getPc s p + 8
    let n := p.n.val
    let b := p.b.val
    let i := o.x.toNat % 16
    let v := getS s p o.a
    let cnt (k : Nat) : Word := rd s ([CD_BK_SGCNT0 n b, CD_BK_SGCNT1 n b, CD_BK_SGCNT2 n b, CD_BK_SGCNT3 n b, CD_BK_SGSTS n b,
      occAdr (CD_BK_SGSTS n b) 0].getD k 0)
    let sys : Word := ([BitVec.ofNat 64 p.q, BitVec.ofNat 64 p.b, BitVec.ofNat 64 p.n, BitVec.ofNat 64 (getF s (CD_EPOCH_EPOCH n)),
      BitVec.ofNat 64 (plyGet s n b p.q).issued, rd s (CD_PLY_TVEC n b p.q), rd s (CD_PLY_EPC n b p.q), rd s (CD_PLY_CAUSE n b p.q),
      rd s (CD_PLY_TINFO n b p.q)]).getD i 0
    let put (k : Nat) (r mask : Word) (a : Nat) : Prop := i = k → r = v &&& mask → Runs s p o 57 1 .wrsr [a] nowhere next (fun t => rd t a = r)
    Runs s p o 52 0 .sgctx [CD_BK_ARRST n b] nowhere next (fun t => getF t (CD_BK_ARRST_CTX n b) = o.x.toNat % 8)
    ∧ Runs s p o 52 1 .chk [] nowhere next (fun t => getF t (CD_PLY_STS_CHK_PEND n b p.q) = 1)
    ∧ Runs s p o 52 2 .esc [] nowhere next (fun t => getF t (CD_PLY_STS_ESC_PEND n b p.q) = 1)
    ∧ Gives s p o 53 0 .sgrd (cnt (o.x.toNat % 8))
    ∧ Runs s p o 53 1 .seed [CD_BK_SEED n b] nowhere next (fun t =>
        getF t (CD_BK_SEED_STATE n b) = if v.toNat % 2 ^ 32 = 0 then 1 else v.toNat % 2 ^ 32)
    ∧ Gives s p o 57 0 .rdsr sys
    ∧ put 5 (v &&& 0xFFFF9) 0xFFFF9 (CD_PLY_TVEC n b p.q) ∧ put 6 (v &&& 0xFFFF8) 0xFFFF8 (CD_PLY_EPC n b p.q)
    ∧ put 7 (v &&& 0xFF) 0xFF (CD_PLY_CAUSE n b p.q) ∧ put 8 v (BitVec.allOnes 64) (CD_PLY_TINFO n b p.q)

/-- R111-R113, R115, R150: fence, yield, end, ppt, trap, tret, ckpt and brk. -/
def Obligations.SystemInstructions : Prop :=
  ∀ (s : State) (p : PlyId) (o : IOp),
    let next := getPc s p + 8
    let x (t : State) := plyGet t p.n p.b p.q
    let a : Word := getA s p o.a + o.x.signExtend 64 * 64
    let raise (maj mi : Nat) (c : PlyId → IOp → Instr) (cause : Nat) (info : Nat) : Prop := Issues s p o maj mi →
      exec (c p o) s = .next (plyMod s p.n p.b p.q (fun y => { y with trap := some ⟨cause, next, info⟩ }))
    (fenceMet s p o = true → Runs s p o 54 0 .fence [] nowhere next (fun t => o.x.getLsbD 1 = true → (x t).fbuf = []))
    ∧ (fenceMet s p o = false → Issues s p o 54 0 → exec (.fence p o) s = .next s)
    ∧ RunsIn s p o 55 0 .yield [] nowhere next (fun t => (brickGet t p.n p.b).yielded = (brickGet s p.n p.b).yielded.filter (· != p.q.val) ++ [p.q.val])
    ∧ Runs s p o 55 1 .endPly [] nowhere next (fun t => (x t).ending = true ∧ mayIssue t p = false)
    ∧ Runs s p o 55 2 .ppt [] nowhere next (fun t => (x t).saving = (x s).marked)
    ∧ raise 56 0 .trap 5 (o.x.signExtend 64 : Word).toNat
    ∧ Runs s p o 56 1 .tret [] nowhere (8 * getF s (CD_PLY_EPC_EPC p.n p.b p.q)) (fun t => getF t (CD_PLY_STS_TH p.n p.b p.q) = 0)
    ∧ (a.toNat + 448 ≤ 2 ^ 20 → a.toNat % 64 = 0 → Runs s p o 58 0 .ckpt [] (within (storePa p.n p.b a.toNat) 448) next (fun t =>
        (∀ i, i < 32 → storeVal t p (a.toNat + 8 * i) 8 = (getS s p i).toNat)
        ∧ (∀ i, i < 16 → storeVal t p (a.toNat + 256 + 8 * i) 8 = (getA s p i).toNat)
        ∧ (∀ i, i < 8 → bitN (storeVal t p (a.toNat + 384) 8) i = b2n (getP s p i)) ∧ storeVal t p (a.toNat + 392) 8 = next
        ∧ storeVal t p (a.toNat + 400) 8 = (x s).issued % 2 ^ 64))
    ∧ raise 59 0 .brk 8 0

namespace Sys2Proof.Claims
open Machine

/-- An instruction that hands something to an engine: when it issues, `P` holds of the next state, the ply has moved on, and no memory, no other ply and no register but
those listed and those of the issue changes. -/
def Hands (s : State) (p : PlyId) (o : IOp) (maj mi : Nat) (c : PlyId → IOp → Instr) (regs : List Nat) (P : State → Prop) : Prop :=
  Issues s p o maj mi → Goes (exec (c p o) s) (fun t => P t ∧ Moved s t p (getPc s p + 8) ∧ SameRegs s t (regs ++ issueRegs s p maj mi o)
    ∧ t.mem = s.mem ∧ OtherPlies s t p ∧ OtherBricks s t p.n p.b)

/-- One more message stands in the outbox of the ply's brick, one more knot operation in its queue; the rest of the two lists stays. -/
def Sent (s t : State) (p : PlyId) (m : Msg) : Prop := t.flights = s.flights ++ [⟨p.n, p.b, .outbox, m⟩] ∧ t.knotOps = s.knotOps
def Asked (s t : State) (k : KnotOp) : Prop := t.knotOps = s.knotOps ++ [k] ∧ t.flights = s.flights

end Sys2Proof.Claims


/-- R121, R126-R128, R131: msend, scadd and mgath, by place and by global identifier: with room in the outbox, a message with the operation, format, length, tally
and destination of the instruction joins the outbox; a gather request carries the place and offset of its reply. A full outbox holds the ply and counts. -/
def Sys2Proof.Claims.MessagesSent : Prop :=
  ∀ (s : State) (p : PlyId) (o : IOp) (f : Fmt), o.xFmt = some f →
    let w := (getS s p o.a).toNat
    let near := (if o.mH then w / 2 ^ 32 else w % 2 ^ 32)
    let off := (getS s p o.b).toNat
    let room := outboxCount s p.n p.b < 64
    let msg (op fmt : Nat) (d : Nat) (m : Msg) : Prop :=
      m.op = op ∧ m.fmt = fmt ∧ m.len = b2n o.mLen ∧ m.tally = o.mT ∧ m.dest = d % 2 ^ 27
    let body (m : Msg) : Prop := (f = .i32 ∨ f = .raw ∨ f.narrow = true) →
      m.body = (getV s p.n p.b o.b).data / 2 ^ (256 * b2n o.mS) % 2 ^ (256 * (b2n o.mLen + 1))
    let back (m : Msg) : Prop := m.body = off / 32 + p.b * 2 ^ 16 + p.n * 2 ^ 25
    let okOff : Prop := off + 32 * (b2n o.mLen + 1) + 16 ≤ 2 ^ 20 ∧ off % 32 = 0
    let full (maj mi : Nat) (c : PlyId → IOp → Instr) : Prop := Issues s p o maj mi → ¬ room →
      exec (c p o) s = .next (addF s (CD_ME_STS_OB_STALL p.n p.b) 1)
    let go (maj mi : Nat) (c : PlyId → IOp → Instr) (d : Nat) (op fmt : Nat) (x : Msg → Prop) : Prop := room →
      Hands s p o maj mi c [] (fun t => ∃ m, Sent s t p m ∧ msg op fmt d m ∧ x m)
    (placeOk s p.n near = true →
      go 32 0 .msend near 0 f.code body ∧ go 34 0 .scadd near 3 f.code body ∧ full 32 0 .msend ∧ full 34 0 .scadd
      ∧ (okOff → go 33 0 .mgath near 1 0 back ∧ full 33 0 .mgath))
    ∧ (∀ e, dirEntry s p.n p.b (w % 2 ^ 40) = some e → placeOk s p.n e = true →
      go 32 1 .msendg e 0 f.code body ∧ go 34 1 .scaddg e 3 f.code body ∧ full 32 1 .msendg ∧ full 34 1 .scaddg
      ∧ (okOff → go 33 1 .mgathg e 1 0 back ∧ full 33 1 .mgathg))

/-- R127, R129, R133, R135, R136 (Table 4-6): the inbox, the tag, the vertex table, the tallies, a contribution to an AOR session, and DMA from a ply. -/
def Sys2Proof.Claims.MessageEngine : Prop :=
  ∀ (s : State) (p : PlyId) (o : IOp),
    let n := p.n.val
    let b := p.b.val
    let box := (brickGet s n b).inbox
    let e := (getS s p o.a).toNat % 4096
    let i := o.x.toNat % 4
    let sum := getF s (CD_ME_TALLY_COUNT n b i) + (getS s p o.a).toNat % 2 ^ 16
    let every := getF s (CD_ME_TALLY_EVERY n b i)
    let a : Word := getA s p o.a + o.x.signExtend 64 * 64
    let tk := getF s (CD_BK_DMA_NEXT_TICKET n b)
    let sess := o.mSess
    (∀ m rest, box = m :: rest → Hands s p o 36 0 .mrecv (vWords p o.d) (fun t =>
        (brickGet t n b).inbox = rest ∧ (getV t n b o.d).data = m.body % 2 ^ (8 * m.bytes) ∧ (getV t n b o.d).sat = m.sat ∧ (getV t n b o.d).esc = m.esc
        ∧ (plyGet t n b p.q).lastTag = BitVec.ofNat 64 (m.tag / 2 ^ 64) ∧ plyState t n b p.q = 1))
    ∧ (box = [] → Hands s p o 36 0 .mrecv [CD_PLY_WAIT n b p.q] (fun t =>
        plyState t n b p.q = 2 ∧ rd t (CD_PLY_WAIT n b p.q) = 3 ∧ (brickGet t n b).recvQ = (brickGet s n b).recvQ ++ [p.q.val]))
    ∧ Decides s p o 36 1 .mpoll (!box.isEmpty) ∧ Gives s p o 36 2 .mtag (plyGet s n b p.q).lastTag
    ∧ Runs s p o 37 0 .vtset [CD_ME_VT n b e] nowhere (getPc s p + 8) (fun t => rd t (CD_ME_VT n b e) = getS s p o.b &&& 0xFFFFFFFFFFFFF)
    ∧ Gives s p o 37 1 .vtget (rd s (CD_ME_VT n b e))
    ∧ Hands s p o 38 0 .mtadd [CD_ME_TALLY n b i] (fun t =>
        (every ≠ 0 → getF t (CD_ME_TALLY_COUNT n b i) = sum % every
          ∧ t.knotOps = s.knotOps ++ List.replicate (sum / every) ⟨.engine n, getF s (CD_ME_TALLY_KNOT n b i), .arrive, false, false, 0, 0⟩)
        ∧ (every = 0 → getF t (CD_ME_TALLY_COUNT n b i) = sum % 2 ^ 16 ∧ t.knotOps = s.knotOps))
    ∧ Gives s p o 38 1 .mtrd (rd s (CD_ME_TALLY n b i))
    ∧ (∀ x j, sess < 16 → aorGet s sess = some x → (List.range x.sources).find? (fun j => x.srcDie j == n && x.srcBrick j == b) = some j →
        getF s HP_CAP_EFF_CERT_AOR = 1 → (aorState s sess = 2 ∨ aorState s sess = 3) → aorQueue s n < 64 → j < x.contribs.length →
        Issues s p o 35 0 → Goes (exec (.maor p o) s) (fun t => Moved s t p (getPc s p + 8) ∧ t.mem = s.mem ∧
          ∃ y c, aorGet t sess = some y ∧ y.contribs.getD j [] = x.contribs.getD j [] ++ [c]))
    ∧ (a.toNat + 64 ≤ 2 ^ 20 → a.toNat % 64 = 0 → (brickGet s n b).tickets.length < 8 → dmaFull s n = false → Issues s p o 40 0 →
        Goes (exec (.dmaq p o) s) (fun t => Moved s t p (getPc s p + 8) ∧ t.mem = s.mem
          ∧ getS t p o.d = (if o.d.val = 0 then 0 else BitVec.ofNat 64 tk)
          ∧ getF t (CD_BK_DMA_NEXT_TICKET n b) = (tk + 1) % 2 ^ 16 ∧ (brickGet t n b).tickets = (brickGet s n b).tickets ++ [tk]))
    ∧ Decides s p o 41 0 .dmat (!(brickGet s n b).tickets.contains ((getS s p o.a).toNat % 2 ^ 16))

/-- Tables 4-6 and 4-7 (R126-R136): the instructions that send, and those that receive or watch. -/
def Obligations.MessageInstructions : Prop := Sys2Proof.Claims.MessagesSent ∧ Sys2Proof.Claims.MessageEngine

/-- R137-R145 (Tables 4-9 and 4-12): each knot instruction whose handle passes the checks of R142 hands its operation to the knot queue; kwait and the epoch waits
put the ply into WAITING, or go on where the epoch is reached; the launch instructions arm and free slots; ksigr signals a knot of the package or of another rank. -/
def Obligations.KnotInstructions : Prop :=
  ∀ (s : State) (p : PlyId) (o : IOp),
    let n := p.n.val
    let b := p.b.val
    let h := (getS s p o.a).toNat % 2 ^ 16
    let g := (getS s p o.b).toNat % 2 ^ 16
    let e := getF s (CD_EPOCH_EPOCH n)
    let op (k : KOp) (auto reply : Bool) (arg : Nat) : KnotOp := ⟨.ply n b p.q, h, k, auto, reply, arg, sbFree s n b⟩
    let ok (wait : Bool) : Prop := handleOk s n h = true ∧ knotQueue s n b < 8
      ∧ (wait = true → isSpanKnot h = true ∨ knotDie h ≠ n → getF s HP_CAP_EFF_SPAN_KNOT_EXT = 1)
      ∧ (isSpanKnot h = true → (dieGet s n).hubAbsent = false ∧ getF s (HP_SKNOT_SPAN (h % 1024)) = spanOf s n)
    let ask (maj mi : Nat) (c : PlyId → IOp → Instr) (k : KnotOp) : Prop := ok false → Hands s p o maj mi c [] (fun t => Asked s t k)
    let waits (maj mi : Nat) (c : PlyId → IOp → Instr) (w : Nat) (P : State → Prop) : Prop := (plyGet s n b p.q).rewait = none →
      Hands s p o maj mi c [CD_PLY_WAIT n b p.q] (fun t => plyState t n b p.q = 2 ∧ rd t (CD_PLY_WAIT n b p.q) = BitVec.ofNat 64 w ∧ P t)
    let t0 := (getS s p o.a).toNat % 2 ^ 48
    let t1 := (e + o.x.toNat % 2 ^ 32) % 2 ^ 48
    let j := o.x.toNat % 4
    let i := o.x.toNat % 8
    let r := (getS s p o.b).toNat % 16
    ask 44 0 .karr (op .arrive false (o.d.val != 0) 0) ∧ ask 44 1 .ksig (op .signal false false 0)
    ∧ (o.d.val ≠ 0 → ask 45 1 .ktest (op .test false true 0)) ∧ (g ≠ 0 → ask 46 0 .karm (op .arm (o.x.getLsbD 0) false g))
    ∧ ask 46 1 .krst (op .reset false false 0)
    ∧ (ok true → waits 45 0 .kwait (1 + h * 2 ^ 4 + g * 2 ^ 20) (fun t => Asked s t (op .watch false true g)))
    ∧ (epochReached e t0 = false → waits 49 0 .lwait (2 + t0 * 2 ^ 4) (fun _ => True))
    ∧ (epochReached e t0 = true → (plyGet s n b p.q).rewait = none → Runs s p o 49 0 .lwait [] nowhere (getPc s p + 8) (fun _ => True))
    ∧ (epochReached e t1 = false → waits 49 1 .lwaitr (2 + t1 * 2 ^ 4) (fun _ => True))
    ∧ (epochReached e t1 = true → (plyGet s n b p.q).rewait = none → Runs s p o 49 1 .lwaitr [] nowhere (getPc s p + 8) (fun _ => True))
    ∧ (plyState s n b j = 0 → getF s (CD_BK_LSLOT_ARMED n b j) = 0 → (getS s p o.b).toNat % 8 = 0 → epochReached e t0 = false →
        Runs s p o 48 0 .larmPly [CD_BK_LSLOT n b j, CD_BK_LSARG n b j] nowhere (getPc s p + 8) (fun t => getF t (CD_BK_LSLOT_ARMED n b j) = 1
          ∧ getF t (CD_BK_LSLOT_EPOCH n b j) = t0 ∧ getF t (CD_BK_LSARG_ARG n b j) = (getS s p o.b).toNat % 2 ^ 20))
    ∧ (handleOk s n g = true → getF s (CD_BK_LSLOT_ARMED n b 4) = 0 → epochReached e t0 = false →
        Runs s p o 48 1 .larmKnot [CD_BK_LSLOT n b 4, CD_BK_LSARG n b 4] nowhere (getPc s p + 8) (fun t => getF t (CD_BK_LSLOT_ARMED n b 4) = 1
          ∧ getF t (CD_BK_LSLOT_EPOCH n b 4) = t0 ∧ getF t (CD_BK_LSARG_ARG n b 4) = g))
    ∧ Runs s p o 48 2 .ldis [CD_BK_LSLOT n b i] nowhere (getPc s p + 8) (fun t => getF t (CD_BK_LSLOT_ARMED n b i) = 0)
    ∧ (r = ownRank s → Issues s p o 47 0 → Goes (exec (.ksigr p o) s) (fun t => Moved s t p (getPc s p + 8) ∧ t.mem = s.mem
        ∧ (pkgHandle s h = true → t.knotOps = s.knotOps ++ [⟨.engine 4, h, .signal, false, false, 0, 0⟩]) ∧ (pkgHandle s h = false → t.knotOps = s.knotOps)))
    ∧ (r ≠ ownRank s → rankPresent s r = true → Issues s p o 47 0 → Goes (exec (.ksigr p o) s) (fun t => Moved s t p (getPc s p + 8)
        ∧ t.mem = s.mem ∧ t.knotOps = s.knotOps))

/-- R85, R114, R116, R148: what every instruction does where it does not execute: with its guard off it only moves the ply on; an illegal word raises trap 1 with
the word in TINFO and has no effect; and while an earlier instruction holds a register it uses, or the ply may not issue, nothing changes. -/
def Obligations.InstructionsNotExecuted : Prop :=
  ∀ (i : Instr) (f : BrickFields) (s : State), i.fields = some f →
    let p := f.ply
    let lg := legal (n3Avail s p.n) f.maj f.mi f.op
    (mayIssue s p = true → lg = true → guardOn s p f.op = false → Goes (exec i s) (fun t =>
        Moved s t p (getPc s p + 8) ∧ SameRegs s t [CD_PLY_PC p.n p.b p.q, CD_PLY_STS p.n p.b p.q] ∧ BrickOnly s t p ∧ t.bricks = s.bricks ∧ t.mem = s.mem))
    ∧ (mayIssue s p = true → lg = false →
        exec i s = .next (plyMod s p.n p.b p.q (fun x => { x with trap := some ⟨1, getPc s p, (wordOf f.maj f.mi f.op).toNat⟩ })))
    ∧ (mayIssue s p = true → lg = true → guardOn s p f.op = true → (∀ r, findOp f.maj f.mi = some r → hazard s p r f.op = true) → exec i s = .next s)
    ∧ (mayIssue s p = false → exec i s = .next s)

/-- Table 3-2, R84, R116: the encoder and the decoder of the Brick Instruction Set agree: a legal instruction decodes from its own word, for every operand value and
ply; and a word that decodes at all is the word of the instruction it decodes to. -/
def Obligations.DecodeEncode : Prop :=
  (∀ (i : Instr) (f : BrickFields) (n3 : Bool), i.fields = some f → i.wellFormed n3 = true → ∃ w, i.encode = some w ∧ decodeBrick n3 f.ply w = some i)
  ∧ (∀ (w : Word) (p : PlyId) (n3 : Bool) (i : Instr), decodeBrick n3 p w = some i → i.encode = some w ∧ i.wellFormed n3 = true)

/-- R90, R149: the scheduler runs what a word spells: issuing a legal word for a ply is the meaning of the instruction that it decodes to, and an illegal word is the
illegal-instruction trap. -/
def Obligations.SchedulerRunsDecoded : Prop :=
  ∀ (s : State) (p : PlyId) (w : Word),
    (∀ i, decodeBrick (n3Avail s p.n) p w = some i → exec i s = .next (issueWord s p w))
    ∧ (decodeBrick (n3Avail s p.n) p w = none → mayIssue s p = true →
      issueWord s p w = plyMod s p.n p.b p.q (fun x => { x with trap := some ⟨1, getPc s p, w.toNat⟩ }))

namespace Sys2Proof.Claims
open Machine

/-- A command has its effect: a next state follows in which `P` holds, no register changes but those listed, and no byte of memory does. -/
def Does (c : Instr) (s : State) (regs : List Nat) (P : State → Prop) : Prop := Goes (exec c s) (fun t => P t ∧ SameRegs s t regs ∧ t.mem = s.mem)

/-- A command changes nothing at all. -/
def Nothing (c : Instr) (s : State) : Prop := exec c s = .next s

/-- R325: the registers that an occurrence of a one-bit flag changes: its own, and its occurrence alias. -/
def flagRegs (f : Fld) : List Nat := [f.addr, (occFld f 0).addr]

/-- R325: an occurrence of a one-bit flag: it is set and its count has advanced by one. -/
def Flagged (s t : State) (f : Fld) : Prop := getF t f = 1 ∧ getF t (occFld f 0) = (getF s (occFld f 0) + 1) % 2 ^ 16

/-- R343: the reports made since `s` are the one of this cause, channels and detail. -/
def Reported (s t : State) (cause mask : Nat) : Prop := ∃ r, t.reports = s.reports ++ [r] ∧ r.cause = cause ∧ r.mask = mask ∧ r.flags = 0

/-- R133: `k` more events on a tally: its count, and the arrivals that fall due. -/
def Tallied (s t : State) (n b i k : Nat) (before : List KnotOp) : Prop :=
  let every := getF s (CD_ME_TALLY_EVERY n b i)
  let sum := getF s (CD_ME_TALLY_COUNT n b i) + k
  (every ≠ 0 → getF t (CD_ME_TALLY_COUNT n b i) = sum % every
    ∧ t.knotOps = s.knotOps ++ before ++ List.replicate (sum / every) ⟨.engine n, getF s (CD_ME_TALLY_KNOT n b i), .arrive, false, false, 0, 0⟩)
  ∧ (every = 0 → getF t (CD_ME_TALLY_COUNT n b i) = sum % 2 ^ 16 ∧ t.knotOps = s.knotOps ++ before)

/-- R138, R140: the registers of a knot. -/
def knotRegs (h : Nat) : List Nat := if isSpanKnot h then [knotReg h] else [knotReg h, (kCourses h).addr]

/-- R138: the reply that a knot operation asks for. -/
def replyOf (k : KnotOp) (gen word : Nat) : List Notice :=
  match k.src with
  | .ply n b q => [⟨.ply n b q, k.handle, .reply, gen, word, k.seq⟩]
  | .engine _ => []

/-- R138, R140: every course and die that has a watch registered at the knot gets a notice with GEN `g`, and no watch is registered any more. -/
def Notified (s t : State) (h : Nat) (kd : NKind) (g : Nat) (r : List Notice) : Prop :=
  (∃ l, t.notices = s.notices ++ l ++ r ∧ ∀ v, v ∈ l ↔
    ((isSpanKnot h = false ∧ ∃ c, c < 16 ∧ bitN (getF s (kCourses h)) c = 1 ∧ v = ⟨.course (knotDie h) c, h, kd, g, 0, 0⟩)
      ∨ ∃ d, d < 4 ∧ bitN (getF s (kDies h)) d = 1 ∧ v = ⟨.die d, h, kd, g, 0, 0⟩))
  ∧ getF t (kDies h) = 0 ∧ (isSpanKnot h = false → getF t (kCourses h) = 0)

/-- R138: the knot has fired. -/
def Fired (s t : State) (h : Nat) (r : List Notice) : Prop :=
  let g := (getF s (kGen h) + 1) % 2 ^ 16
  getF t (kGen h) = g ∧ Notified s t h .fire g r
  ∧ (getF s (kAuto h) = 1 → getF t (kCount h) = getF s (kTarget h) ∧ getF t (kArmed h) = 1) ∧ (getF s (kAuto h) = 0 → getF t (kArmed h) = 0)

/-- The slot of a ply may act: it is armed, its epoch is reached and launches of the channel are not held. -/
def SlotDue (s : State) (n b i : Nat) : Prop :=
  getF s (CD_BK_LSLOT_ARMED n b i) = 1 ∧ slotsHeld s n = false ∧ epochReached (epochOf s n) (getF s (CD_BK_LSLOT_EPOCH n b i)) = true

/-- R147: the ply of a launch slot has started at byte `pc` of its store. -/
def Started (t : State) (n b q pc : Nat) : Prop :=
  plyState t n b q = 1 ∧ getF t (CD_PLY_PC_PC n b q) = pc % 2 ^ 20 / 8 ∧ getF t (CD_PLY_STS_TH n b q) = 0
  ∧ getF t (CD_PLY_STS_ISSUED n b q) = 0 ∧ (plyGet t n b q).fbuf = []

end Sys2Proof.Claims


/-- R83, R150: FETCH fills the fetch buffer of a ply that may issue: an address keeps the word it was fetched with, every other word is that of the store; an empty
buffer then holds the word at the PC. AGEING raises a low-priority ply that has been eligible for 64 steps. -/
def Sys2Proof.Claims.FetchAndAgeing : Prop :=
  ∀ (s : State) (p : PlyId),
    let x := plyGet s p.n p.b p.q
    (mayIssue s p = true → Does (.fetch p) s [] (fun t =>
      let buf := (plyGet t p.n p.b p.q).fbuf
      (∀ e, e ∈ buf → e ∈ x.fbuf ∨ e.2 = BitVec.ofNat 64 (storeLE s p e.1 8))
      ∧ (∀ e, e ∈ x.fbuf → getPc s p ≤ e.1 → e.1 < getPc s p + 128 → e ∈ buf)
      ∧ (x.fbuf = [] → headWord t p = some (BitVec.ofNat 64 (storeLE s p (getPc s p) 8)))
      ∧ OtherPlies s t p ∧ t = { s with plies := t.plies }))
    ∧ (mayIssue s p = false → Nothing (.fetch p) s)
    ∧ (64 ≤ x.age → bitN (getF s (CD_BK_SCHED_PRIO p.n p.b)) p.q = 0 → Does (.ageing p) s [] (fun t =>
      plyGet t p.n p.b p.q = { x with age := 0, aged := true } ∧ OtherPlies s t p ∧ t = { s with plies := t.plies }))

/-- R149, R150: SCHEDULE_STEP. Where the only ply of the brick that may issue has a head that can issue in the scalar slot and in no pair, exactly that word is issued,
from the registers and memory as they were, and the ply becomes the slot's last; where no ply may issue, no register and no memory changes. -/
def Sys2Proof.Claims.ScheduleStep : Prop :=
  ∀ (s : State) (k : BrickId),
    (∀ p w, p ∈ pliesAt k → (∀ q, q ∈ pliesAt k → q ≠ p → mayIssue s q = false) → choose s k = (none, some p) → headWord s p = some w →
      Goes (exec (.scheduleStep k) s) (fun t => ∃ u, headWord u p = some w ∧ u.regs = s.regs ∧ u.mem = s.mem
        ∧ t.regs = (issueWord u p w).regs ∧ t.mem = (issueWord u p w).mem ∧ t.knotOps = (issueWord u p w).knotOps
        ∧ (brickGet t k.n k.b).lastS = p.q.val))
    ∧ ((∀ q, q ∈ pliesAt k → mayIssue s q = false) → Does (.scheduleStep k) s [] (fun t => t.flights = s.flights ∧ t.knotOps = s.knotOps
        ∧ OtherBricks s t k.n k.b ∧ ∀ q, q ∈ pliesAt k → (plyGet t q.n q.b q.q).age = 0))
    ∧ (∀ p, (choose s k).2 = some p → (choose s k).1 = none → okHead s p false = true ∧ p ∈ pliesAt k)

/-- R83, R90, R148-R151: fetch, ageing, and the choice of the scheduler. -/
def Obligations.Scheduling : Prop := Sys2Proof.Claims.FetchAndAgeing ∧ Sys2Proof.Claims.ScheduleStep

/-- R111, R117, R148: an instruction that awaits nothing completes and frees its scoreboard entry; an ending ply with no outstanding instruction is IDLE, and leaves the
launches that wait for it; an aborting ply settles likewise. -/
def Sys2Proof.Claims.Completions : Prop :=
  ∀ (s : State) (p : PlyId) (k : BrickId) (e : Fin 32),
    let x := plyGet s p.n p.b p.q
    let q : PlyId := ⟨k.n, k.b, Fin.ofNat 4 (getF s (CD_BK_SB_PLY k.n k.b e))⟩
    let due := getF s (CD_BK_SB_VALID k.n k.b e) = 1 ∧ getF s (CD_BK_SB_AWAIT k.n k.b e) = 0
    (due → (plyGet s q.n q.b q.q).aborting = false → Does (.instructionComplete k e) s [CD_BK_SB k.n k.b e] (fun t =>
      getF t (CD_BK_SB_VALID k.n k.b e) = 0 ∧ t = { s with regs := t.regs }))
    ∧ (due → (plyGet s q.n q.b q.q).aborting = true → Goes (exec (.instructionComplete k e) s) (fun t =>
      ∃ u, t = settle u q ∧ getF u (CD_BK_SB_VALID k.n k.b e) = 0 ∧ SameRegs s u [CD_BK_SB k.n k.b e] ∧ u = { s with regs := u.regs }))
    ∧ (¬ due → Nothing (.instructionComplete k e) s)
    ∧ (x.ending = true → sbHeld s p.n p.b p.q = 0 → Goes (exec (.endComplete p) s) (fun t =>
      ∃ u, t = ledPlyEnd p.n (4 * p.b + p.q) u (ledAll u p.n) ∧ plyState u p.n p.b p.q = 0 ∧ SameRegs s u [CD_PLY_STS p.n p.b p.q] ∧ u.mem = s.mem
        ∧ plyGet u p.n p.b p.q = { x with ending := false, aborting := false, saving := false, marked := false } ∧ OtherPlies s u p ∧ u.dies = s.dies
        ∧ ((∀ l, l ∈ ledAll s p.n → l.2.left.contains (4 * p.b.val + p.q.val) = false) → t = u)))
    ∧ (x.ending = false → Nothing (.endComplete p) s)

/-- R115: TRAP_ENTRY, once the ply's earlier instructions have completed: EPC, CAUSE and TINFO take the trap's; with a handler enabled and none running the PC goes to it
and TH is set; otherwise the ply is TRAPPED at its EPC, every cause but a breakpoint is reported (0x0202), and launches that wait for it are at risk. -/
def Sys2Proof.Claims.TrapEntry : Prop :=
  ∀ (s : State) (p : PlyId) (x : TrapReq), (plyGet s p.n p.b p.q).trap = some x → sbHeld s p.n p.b p.q = 0 → plyState s p.n p.b p.q = 1 →
    getF s (CD_PLY_CMD_STATUS p.n p.b p.q) ≠ 1 →
    let n := p.n.val
    let b := p.b.val
    let q := p.q.val
    let regs := [CD_PLY_EPC n b q, CD_PLY_CAUSE n b q, CD_PLY_TINFO n b q, CD_PLY_STS n b q, CD_PLY_PC n b q]
    let saved (t : State) : Prop := getF t (CD_PLY_EPC_EPC n b q) = x.epc / 8 % 2 ^ 17 ∧ getF t (CD_PLY_CAUSE_CAUSE n b q) = x.cause % 256
      ∧ rd t (CD_PLY_TINFO n b q) = BitVec.ofNat 64 x.info ∧ (plyGet t n b q).trap = none
    let handled := getF s (CD_PLY_TVEC_EN n b q) = 1 ∧ getF s (CD_PLY_STS_TH n b q) = 0 ∧ x.cause ≠ 8
    (handled → Does (.trapEntry p) s regs (fun t => saved t ∧ getF t (CD_PLY_STS_TH n b q) = 1 ∧ plyState t n b q = 1
      ∧ getF t (CD_PLY_PC_PC n b q) = getF s (CD_PLY_TVEC_BASE n b q) ∧ OtherPlies s t p ∧ t.reports = s.reports))
    ∧ (¬ handled → Goes (exec (.trapEntry p) s) (fun t => ∃ u, t = riskWhere n 3 (fun l => l.left.contains (4 * b + q)) u (ledAll u n)
      ∧ saved u ∧ plyState u n b q = 3 ∧ getF u (CD_PLY_PC_PC n b q) = x.epc / 8 % 2 ^ 17
      ∧ (getF s (CD_PLY_STS_TH n b q) = 1 → Flagged s u (CD_PLY_STS_DOUBLE n b q))
      ∧ (x.cause = 8 → u.reports = s.reports) ∧ (x.cause ≠ 8 → Reported s u 0x0202 (2 ^ n))
      ∧ SameRegs s u (regs ++ flagRegs (CD_PLY_STS_DOUBLE n b q)) ∧ u.mem = s.mem ∧ OtherPlies s u p))

/-- R77, R115, R148: the completion of an instruction, and the entry of a trap handler. -/
def Obligations.CompletionsAndTraps : Prop := Sys2Proof.Claims.Completions ∧ Sys2Proof.Claims.TrapEntry

/-- R140, R145, R151: LWAIT_WAKE at the awaited epoch and KWAIT_TIMEOUT at the limit of a kwait: the ply is RUNNING, its wait is over; a timed-out kwait gives status 2
with the observed GEN. -/
def Obligations.Wakes : Prop :=
  ∀ (s : State) (p : PlyId),
    let n := p.n.val
    let b := p.b.val
    let q := p.q.val
    let w := rd s (CD_PLY_WAIT n b q)
    let regs := [CD_PLY_STS n b q, CD_PLY_WAIT n b q] ++ ((sbWaitEntry s n b q).map (CD_BK_SB n b)).toList
    let awake (t : State) : Prop := plyState t n b q = 1 ∧ rd t (CD_PLY_WAIT n b q) = 0 ∧ (plyGet t n b q).wait = none ∧ OtherPlies s t p
      ∧ ∀ e, sbWaitEntry s n b q = some e → getF t (CD_BK_SB_VALID n b e) = 0
    (plyState s n b q = 2 → bitsOf w 3 0 = 2 →
      (epochReached (epochOf s n) (bitsOf w 51 4) = true → Does (.lwaitWake p) s regs awake)
      ∧ (epochReached (epochOf s n) (bitsOf w 51 4) = false → Nothing (.lwaitWake p) s))
    ∧ (∀ h g d t0, knotWait s n b q = some (h, g) → (plyGet s n b q).wait = some ⟨d, some t0⟩ → d < 32 →
      (epochReached (epochOf s n) t0 = true → Does (.kwaitTimeout p) s (regs ++ sDest p d) (fun t =>
        awake t ∧ getS t p d = if d = 0 then 0 else BitVec.ofNat 64 (2 + g % 2 ^ 16 * 2 ^ 16)))
      ∧ (epochReached (epochOf s n) t0 = false → Nothing (.kwaitTimeout p) s))

/-- R72-R76: SHADOW_CHECK finishes the oldest entry of the shadow queue: a sampled one counts a check, one that trips or was escalated counts and flags an escalation;
only the entry's bank and the brick's counters change. -/
def Obligations.ShadowCheck : Prop :=
  ∀ (s : State) (k : BrickId),
    let n := k.n.val
    let b := k.b.val
    let p : PlyId := ⟨k.n, k.b, 0⟩
    ((brickGet s n b).shq = [] → Nothing (.shadowCheck k) s)
    ∧ (∀ e rest, (brickGet s n b).shq = e :: rest → e.bank < 4 →
      let ss := (List.range 64).map (shadowSum s n b e)
      let bad := (List.zip e.sums ss).any (fun c => !c.1.isNan && c.2.isNan)
      let trip := e.sampled && !bad && trips e.tol e.sums ss
      Does (.shadowCheck k) s (bankWords p e.bank ++ mathRegs p ++ [CD_BK_SGCNT1 n b]) (fun t =>
        (brickGet t n b).shq = rest ∧ OtherBricks s t n b ∧ t.plies = s.plies
        ∧ getF t (CD_BK_SGCNT1_CHECKS n b) = (getF s (CD_BK_SGCNT1_CHECKS n b) + b2n e.sampled) % 2 ^ 32
        ∧ getF t (CD_BK_SGCNT1_TRIPS n b) = (getF s (CD_BK_SGCNT1_TRIPS n b) + b2n trip) % 2 ^ 32
        ∧ (trip = true → getF t (CD_BK_SGSTS_TRIP n b) = 1)
        ∧ ((e.escalated || trip) = true → getF t (CD_BK_SGSTS_ESC n b) = 1)
        ∧ getF t (CD_BK_SGCNT2_ESC n b) = (getF s (CD_BK_SGCNT2_ESC n b) + b2n (e.escalated || trip)) % 2 ^ 24
        ∧ ((e.escalated || trip || bad) = false → bankEntries t n b e.bank = bankEntries s n b e.bank)))

/-- R124, R125, R129-R132: messages performed at their destination, in their order: a send enters the inbox and counts on its tally; a gather request is answered from the
record it names; a reply is stored at the offset it carries; a scatter-add adds into a record; an invalid destination is flagged and reported (0x0302); a full
inbox that holds a send up is flagged and reported (0x0301). -/
def Obligations.MessagesPerformed : Prop :=
  ∀ (s : State) (k : Nat) (x : Flight),
    let m := x.msg
    let n := placeDie m.dest
    let b := placeBrick m.dest
    let tal := [CD_ME_TALLY n b m.tally]
    let gone (t : State) : Prop := t.flights = listDel s.flights k
    let bad (t : State) : Prop := Flagged s t (CD_ME_STS_BAD_DEST n b) ∧ Reported s t 0x0302 (2 ^ n)
    (∀ op, op < 4 → performable s op k = none →
      Nothing (if op = 0 then .sendPerformed k else if op = 1 then .gatherRequest k else if op = 2 then .gatherReply k else .scatterAdd k) s)
    ∧ (performable s 0 k = some x → b < 384 → (brickGet s n b).swapped = false →
      ((brickGet s n b).inbox.length < 256 → (brickGet s n b).recvQ = [] → Does (.sendPerformed k) s tal (fun t =>
        gone t ∧ (brickGet t n b).inbox = (brickGet s n b).inbox ++ [m] ∧ OtherBricks s t n b ∧ t.plies = s.plies
        ∧ Tallied s t n b m.tally 1 (if getF s (CD_ME_CTL_IBK_EN n b) = 1 then [⟨.engine n, getF s (CD_ME_CTL_IBK n b), .arrive, false, false, 0, 0⟩] else [])))
      ∧ (256 ≤ (brickGet s n b).inbox.length → Nothing (.sendPerformed k) s))
    ∧ (performable s 0 k = some x → b < 384 → (brickGet s n b).swapped = true →
      Does (.sendPerformed k) s (flagRegs (CD_ME_STS_BAD_DEST n b)) (fun t => gone t ∧ bad t ∧ t.bricks = s.bricks))
    ∧ (performable s 1 k = some x →
      (∀ r, recordOf s n b (placeIdx m.dest) = some r → m.bytes ≤ r.bytes → Does (.gatherRequest k) s [] (fun t =>
        ∃ a, t.flights = listDel s.flights k ++ [⟨n, b, .outbox, a⟩] ∧ a.op = 2 ∧ a.fmt = r.fmt.code ∧ a.len = m.len ∧ a.tally = m.tally ∧ a.dest = m.body % 2 ^ 32
          ∧ a.body % 2 ^ (8 * m.bytes) = readLE s (storePa n b r.addr) m.bytes ∧ t.reports = s.reports))
      ∧ ((∀ r, recordOf s n b (placeIdx m.dest) = some r → r.bytes < m.bytes) → Does (.gatherRequest k) s (flagRegs (CD_ME_STS_BAD_DEST n b)) (fun t =>
        bad t ∧ ∃ a, t.flights = listDel s.flights k ++ [⟨n, b, .outbox, a⟩] ∧ a.op = 2 ∧ a.fmt = 15 ∧ a.body = 0)))
    ∧ (performable s 2 k = some x → m.fmt ≠ 15 → Goes (exec (.gatherReply k) s) (fun t =>
        let at_ := storePa n b (32 * placeIdx m.dest)
        gone t ∧ Tallied s t n b m.tally 1 [] ∧ SameRegs s t tal ∧ readLE t at_ m.bytes = m.body % 2 ^ (8 * m.bytes)
        ∧ SameMem s t (within at_ (m.bytes + 32))))
    ∧ (performable s 2 k = some x → m.fmt = 15 → Does (.gatherReply k) s (tal ++ flagRegs (CD_ME_STS_BAD_DEST n b)) (fun t =>
        gone t ∧ Tallied s t n b m.tally 1 [] ∧ Flagged s t (CD_ME_STS_BAD_DEST n b)))
    ∧ (performable s 3 k = some x → Goes (exec (.scatterAdd k) s) (fun t => gone t ∧ Tallied s t n b m.tally 1 []
        ∧ (∀ r f, recordOf s n b (placeIdx m.dest) = some r → fmtOf m.fmt = some f → m.bytes * 8 / f.bits ≤ r.bytes * 8 / r.fmt.bits →
          SameMem s t (fun a => within (storePa n b r.addr) r.bytes a ∨ within (storePa n b r.side) (2 * r.blocks) a)
          ∧ (scaddPair f r.fmt = true → t.reports = s.reports) ∧ (scaddPair f r.fmt = false → Reported s t 0x0302 (2 ^ n)))
        ∧ (recordOf s n b (placeIdx m.dest) = none → t.mem = s.mem ∧ Reported s t 0x0302 (2 ^ n))))
    ∧ (∀ j : BrickId, inboxStuck s j.n j.b = true → Does (.inboxStall j) s (flagRegs (CD_ME_STS_IB_STALL j.n j.b)) (fun t =>
        Flagged s t (CD_ME_STS_IB_STALL j.n j.b) ∧ Reported s t 0x0301 (2 ^ j.n.val)))

/-- R138-R143: a knot operation at its engine: an arrival counts down and fires the knot at zero; a signal fires it; both are strays on a knot that is not armed; test and
arm and reset; a watch registers its waiter, or is answered where GEN has moved on. A fire or reset sends a notice to every registered course and die. -/
def Sys2Proof.Claims.KnotOperations : Prop :=
  ∀ (s : State) (j : Nat) (k : KnotOp), s.knotOps[j]? = some k → knotReady s.knotOps j k = true → pkgSafe s = false →
    (isSpanKnot k.handle && (dieGet s k.die).hubAbsent) = false → handleOk s k.die k.handle = true →
    let h := k.handle
    let g := getF s (kGen h)
    let armed := getF s (kArmed h) = 1
    let gone (t : State) : Prop := t.knotOps = listDel s.knotOps j ∧ t.plies = s.plies ∧ t.bricks = s.bricks ∧ t.flights = s.flights ∧ t.reports = s.reports
    let r := if k.reply then replyOf k g 0 else []
    (k.op = .arrive →
      (¬ armed → Does (.knotArrive j) s (flagRegs (kStray h)) (fun t => gone t ∧ Flagged s t (kStray h) ∧ t.notices = s.notices ++ r))
      ∧ (armed → 1 < getF s (kCount h) → Does (.knotArrive j) s [knotReg h] (fun t =>
        gone t ∧ getF t (kCount h) = getF s (kCount h) - 1 ∧ getF t (kGen h) = g ∧ getF t (kArmed h) = 1 ∧ t.notices = s.notices ++ r))
      ∧ (armed → getF s (kCount h) ≤ 1 → Does (.knotArrive j) s (knotRegs h) (fun t => gone t ∧ Fired s t h r ∧ (getF s (kAuto h) = 0 → getF t (kCount h) = 0))))
    ∧ (k.op = .signal →
      (¬ armed → Does (.knotSignal j) s (flagRegs (kStray h)) (fun t => gone t ∧ Flagged s t (kStray h) ∧ t.notices = s.notices))
      ∧ (armed → Does (.knotSignal j) s (knotRegs h) (fun t => gone t ∧ Fired s t h [])))
    ∧ (k.op = .test → Does (.knotTest j) s [] (fun t => gone t ∧ t.notices = s.notices ++ replyOf k g (rd s (knotReg h)).toNat))
    ∧ (k.op = .arm → Does (.knotArm j) s [knotReg h] (fun t => gone t ∧ getF t (kCount h) = k.arg % 2 ^ 16 ∧ getF t (kTarget h) = k.arg % 2 ^ 16
        ∧ getF t (kArmed h) = 1 ∧ getF t (kAuto h) = b2n k.auto ∧ getF t (kGen h) = g ∧ t.notices = s.notices))
    ∧ (k.op = .reset → Does (.knotReset j) s (knotRegs h) (fun t => gone t ∧ getF t (kArmed h) = 0 ∧ getF t (kCount h) = 0 ∧ getF t (kGen h) = (g + 1) % 2 ^ 16
        ∧ Notified s t h .reset ((g + 1) % 2 ^ 16) []))
    ∧ (∀ n b q, k.op = .watch → k.src = .ply n b q → n < 4 → b < 384 →
      (g ≠ k.arg → Does (.knotWatch j) s [] (fun t => gone t ∧ t.notices = s.notices ++ replyOf k g 0))
      ∧ (g = k.arg → Does (.knotWatch j) s (knotRegs h) (fun t => gone t ∧ t.notices = s.notices
        ∧ (isSpanKnot h = false → knotDie h = n → bitN (getF t (kCourses h)) (b / 24) = 1 ∧ getF t (kDies h) = getF s (kDies h))
        ∧ (isSpanKnot h = true ∨ knotDie h ≠ n → bitN (getF t (kDies h)) n = 1))))

/-- R139, R140, R151: a notice wakes every ply of its course or die that waits on its knot with another GEN, with status 0 for a fire and 1 for a reset; a reply completes
the karr or ktest whose scoreboard entry it names. -/
def Sys2Proof.Claims.KnotNotices : Prop :=
  ∀ (s : State) (j : Nat) (v : Notice), s.notices[j]? = some v →
    (∀ p : PlyId, ∀ r, (plyGet s p.n p.b p.q).wait = some r → r.d < 32) →
    let woken (status : Nat) (t : State) : Prop := t.notices = listDel s.notices j
      ∧ ∀ p : PlyId, p ∈ noticePlies v.dest → ∀ g d dl, knotWait s p.n p.b p.q = some (v.handle, g) → g ≠ v.gen → (plyGet s p.n p.b p.q).wait = some ⟨d, dl⟩ →
        plyState t p.n p.b p.q = 1 ∧ rd t (CD_PLY_WAIT p.n p.b p.q) = 0
        ∧ getS t p d = if d = 0 then 0 else BitVec.ofNat 64 (status + v.gen % 2 ^ 16 * 2 ^ 16)
    (v.kind = .fire → Goes (exec (.knotNoticeFire j) s) (fun t => woken 0 t ∧ t.mem = s.mem))
    ∧ (v.kind = .reset → Goes (exec (.knotNoticeReset j) s) (fun t => woken 1 t ∧ t.mem = s.mem))
    ∧ (∀ p : PlyId, v.kind = .reply → v.dest = .ply p.n p.b p.q → v.seq < 32 → getF s (CD_BK_SB_VALID p.n p.b v.seq) = 1 →
      getF s (CD_BK_SB_PLY p.n p.b v.seq) = p.q.val → (plyGet s p.n p.b p.q).aborting = false →
      let d := getF s (CD_BK_SB_D p.n p.b v.seq)
      let opc := getF s (CD_BK_SB_OPC p.n p.b v.seq)
      (opc = 44 * 64 ∨ opc = 45 * 64 + 1) → Does (.knotNoticeReply j) s (CD_BK_SB p.n p.b v.seq :: sDest p d) (fun t =>
        t.notices = listDel s.notices j ∧ getF t (CD_BK_SB_VALID p.n p.b v.seq) = 0
        ∧ getS t p d = if d = 0 then 0 else BitVec.ofNat 64 (if opc = 44 * 64 then v.gen else v.word)))

/-- R137-R142: knot operations are performed at their engine, and notices delivered. -/
def Obligations.KnotEngines : Prop := Sys2Proof.Claims.KnotOperations ∧ Sys2Proof.Claims.KnotNotices

/-- R145-R147, R168: a launch slot acts at its epoch: its ply, IDLE before, starts at the slot's address; a slot of the admission controller acts with its launch, which
the slew condition may defer; a knot slot signals its knot. LATE says that the epoch had passed. -/
def Sys2Proof.Claims.LaunchSlots : Prop :=
  ∀ (s : State) (k : BrickId) (q i : Fin 4),
    let n := k.n.val
    let b := k.b.val
    let j := 4 + i.val
    let late (c : Nat) := epochOf s n ≠ getF s (CD_BK_LSLOT_EPOCH n b c)
    let arg (c : Nat) := getF s (CD_BK_LSARG_ARG n b c)
    let free (c : Nat) (t : State) : Prop := getF t (CD_BK_LSLOT_ARMED n b c) = 0 ∧ (late c → getF t (CD_BK_LSLOT_LATE n b c) = 1)
    let regs := flagRegs (CD_BK_LSLOT_LATE n b q) ++ [CD_PLY_PC n b q, CD_PLY_STS n b q]
    (SlotDue s n b q → getF s (CD_BK_LSLOT_ADM n b q) = 0 → plyState s n b q = 0 → pkgSafe s = false →
      Does (.launchSlotAct k q) s regs (fun t => free q t ∧ Started t n b q (arg q) ∧ OtherPlies s t ⟨k.n, k.b, q⟩))
    ∧ (SlotDue s n b q → getF s (CD_BK_LSLOT_ADM n b q) = 1 → plyState s n b q = 0 ∨ plyState s n b q = 4 → pkgSafe s = false →
      ∀ l x, launchOf s n (4 * b + q) = some (l, x) → x.acted = false →
        (slewOk s n x = true → Goes (exec (.launchSlotAct k q) s) (fun t => free q t ∧ Started t n b q (arg q) ∧ t.mem = s.mem))
        ∧ (slewOk s n x = false → Goes (exec (.launchSlotAct k q) s) (fun t => t = deferLaunch s n l)))
    ∧ (¬ SlotDue s n b q → Nothing (.launchSlotAct k q) s)
    ∧ (SlotDue s n b j → Does (.knotSlotAct k i) s (flagRegs (CD_BK_LSLOT_LATE n b j)) (fun t => free j t
        ∧ t.knotOps = s.knotOps ++ [⟨.engine n, arg j % 2 ^ 16, .signal, false, false, 0, 0⟩] ∧ t.plies = s.plies))

/-- R168-R170: a launch that the slew condition held back acts once the condition holds, and a successor once its predecessor's work is complete: it counts in the committed
power, its entry is ACTIVE, and its plies that are IDLE or SAVED start at its address; where the condition does not hold it is deferred. The estimate of the
die's power is shown, and a rise above the limit is flagged and reported (0x0401). -/
def Sys2Proof.Claims.SlewGovernor : Prop :=
  ∀ (s : State) (n : Die) (i : Fin 4096) (w : Fin 4096) (x : LedX),
    let acts (t : State) : Prop := t.mem = s.mem
      ∧ (getF s (CH_LEDGER_STATE n i) = 1 → getF t (CH_LEDGER_STATE n i) = 2)
      ∧ (∃ y, ledGet t n i = some y ∧ y.acted = true ∧ y.inE = true)
      ∧ ∀ c, c ∈ x.plies → plyState s n (c / 4) (c % 4) = 0 ∨ plyState s n (c / 4) (c % 4) = 4 → Started t n (c / 4) (c % 4) x.pc
    (ledGet s n i = some x → x.released = false → x.acted = false → x.last < 384 → slotsHeld s n = false →
      (x.deferred = true → x.pred = none ∨ x.predDone = true → slewOk s n x = true → Goes (exec (.slewDeferredLaunch n i) s) acts)
      ∧ (x.deferred = true → slewOk s n x = false → Nothing (.slewDeferredLaunch n i) s)
      ∧ (x.deferred = false → x.pred ≠ none → x.predDone = true → epochReached (epochOf s n) x.start = true →
        (slewOk s n x = true → Goes (exec (.successorLaunch n i) s) acts)
        ∧ (slewOk s n x = false → Does (.successorLaunch n i) s [CH_SLEW_STS n] (fun t =>
          (∃ y, ledGet t n i = some y ∧ y.deferred = true ∧ y.acted = false) ∧ getF t (CH_SLEW_STS_DEFER n) = (getF s (CH_SLEW_STS_DEFER n) + 1) % 2 ^ 16))))
    ∧ Does (.slewEstimate n w) s (flagRegs (CH_SLEW_STS_OVER n)) (fun t => getF t (CH_SLEW_STS_P_EST n) = w
        ∧ (dieGet t n).powerP = (w.val :: (dieGet s n).powerP).take 100
        ∧ ((∃ v, v ∈ (dieGet s n).powerP ∧ v + max 50 (min 2000 (getF s (CH_SLEW_CTL_LIM n))) < w.val) →
          Flagged s t (CH_SLEW_STS_OVER n) ∧ Reported s t 0x0401 (2 ^ n.val))
        ∧ ((∀ v, v ∈ (dieGet s n).powerP → w.val ≤ v + max 50 (min 2000 (getF s (CH_SLEW_CTL_LIM n)))) → t.reports = s.reports))

/-- R145-R147, R170: what happens at an epoch edge: launch slots, and the slew governor. -/
def Obligations.EpochActions : Prop := Sys2Proof.Claims.LaunchSlots ∧ Sys2Proof.Claims.SlewGovernor

namespace Sys2Proof.Claims
open Machine

/-- R8, R10-R14, R389: a management write of 8 bytes is performed: management is served, no rule discards it, and the firmware, where it owns the register, is there. -/
def Takes (s : State) (a : Nat) (v : Word) : Prop := served s = true ∧ writeRefusal s a 8 v = none ∧ (fwOwned a = true → fwAway s = false)

/-- R12: the register holds what its card makes of a write of `v`. -/
def Written (s t : State) (a : Nat) (v : Word) : Prop := ∃ c x, placeOf a = .reg c x ∧ rd t a = written s c (rd s a) v

/-- Memory that can be read at once: populated, not lost with its die, trained, and host memory only at the bridge. -/
def Readable (s : State) (pa : Nat) : Prop := populated pa = true ∧ paLost s pa = false ∧ memReady s pa = true ∧ (pa < hostBase ∨ isBridge s = true)

/-- Memory that is written at once. -/
def Writable (s : State) (pa : Nat) : Prop := populated pa = true ∧ paLost s pa = false ∧ (pa < hostBase ∨ isBridge s = true)

/-- R161: the request at the front of a channel's admission queue has origin `o` and bytes `r`; `u` is the state once they have been read. -/
def Front (s u : State) (n : Nat) (o : Origin) (r : Nat) : Prop :=
  (dieGet s n).hubAbsent = false ∧ (dieGet s n).admBusy = false ∧ restarting s (10 + n) = false ∧ ∃ a rest,
    ((dieGet s n).admQ = ⟨o, a, some r⟩ :: rest ∧ u = s)
    ∨ ((dieGet s n).admQ = ⟨o, a, none⟩ :: rest ∧ Readable s a ∧ r = leVal (readBytes s a 64)
      ∧ u = dieMod s n (fun d => { d with admQ := ⟨o, a, some r⟩ :: rest }))

/-- R161: the registers of a response. -/
def respRegs (n : Nat) : List Nat := [CH_ADM_RESP0 n, CH_ADM_RESP1 n, CH_ADM_SUBMIT n, CH_ADM_STS n]

/-- R161, Table 5-2: the response to a request submitted by register says: accepted or not, and the word's upper halves; the request has left the queue. -/
def Answered (s t : State) (n : Nat) (ok : Bool) (reason short : Nat) : Prop :=
  bitsOf (rd t (CH_ADM_RESP0 n)) 12 12 = b2n ok ∧ (ok = false → bitsOf (rd t (CH_ADM_RESP0 n)) 31 16 = reason)
  ∧ bitsOf (rd t (CH_ADM_RESP0 n)) 63 32 = min short 0xFFFFFFFF ∧ getF t (CH_ADM_SUBMIT_STATUS n) = 2
  ∧ (dieGet t n).admQ = (dieGet s n).admQ.drop 1 ∧ (dieGet t n).admBusy = false

/-- R162: the front request is refused for reason `w.1` with SHORTFALL `w.2`. -/
def Refuses (c : Instr) (s : State) (n : Nat) (w : Nat × Nat) : Prop :=
  Does c s (respRegs n) (fun t => Answered s t n false w.1 w.2 ∧ getF t (CH_ADM_STS_REFUSED n) = min (getF s (CH_ADM_STS_REFUSED n) + 1) (2 ^ 24 - 1))

/-- R164, R171: the request `r` has become an ACCEPTED ledger entry. -/
def Admitted (s t : State) (n r : Nat) : Prop :=
  let i := freeIndex s n
  Answered s t n true 0 (if bitN (byteN r 1 1) 0 = 1 then byteN r 8 4 - modelTime s n r else 0)
  ∧ bitsOf (rd t (CH_ADM_RESP0 n)) 11 0 = i ∧ rd t (CH_ADM_RESP1 n) = BitVec.ofNat 64 (epochOf s n)
  ∧ getF t (CH_LEDGER_STATE n i) = 1 ∧ getF t (CH_LEDGER_P n i) = bitN (byteN r 1 1) 0 ∧ getF t (CH_LEDGER_KIND n i) = byteN r 0 1
  ∧ getF t (CH_LEDGER_TAG n i) = byteN r 4 4 ∧ getF t (CH_LEDGER_EPOCH n i) = epochOf s n
  ∧ (bitN (byteN r 1 1) 0 = 1 → getF t (CH_LEDGER_DEADLINE n i) = (epochOf s n + byteN r 8 4) % 2 ^ 48)
  ∧ ∃ x, ledGet t n i = some x ∧ x.req = r ∧ x.acted = false ∧ x.released = false ∧ x.stopped = none

end Sys2Proof.Claims


/-- R117, R121, R141, R143, R153: RESUME runs a TRAPPED ply on, ABORT ends a ply; management writes of a knot, of a span knot, which the ACTIVE dies mirror, and of a
die's directory, whose cached entries go. -/
def Sys2Proof.Claims.PlyAndKnotCommands : Prop :=
  ∀ (s : State) (p : PlyId) (n : Die) (i : Fin 4096) (k : Fin 1024) (v : Word),
    let cmd := CD_PLY_CMD p.n p.b p.q
    let sts := CD_PLY_STS p.n p.b p.q
    let st (t : State) := getF t (CD_PLY_CMD_STATUS p.n p.b p.q)
    let x := plyGet s p.n p.b p.q
    let st0 := plyState s p.n p.b p.q
    (Takes s cmd 1 → x.trap = none →
      (st0 = 3 → Does (.resume p) s [cmd, sts] (fun t => st t = 2 ∧ plyState t p.n p.b p.q = 1 ∧ getF t (CD_PLY_STS_TH p.n p.b p.q) = 0
        ∧ getF t (CD_PLY_STS_DOUBLE p.n p.b p.q) = 0 ∧ t = { s with regs := t.regs }))
      ∧ (st0 ≠ 3 → Does (.resume p) s [cmd] (fun t => st t = 3 ∧ t = { s with regs := t.regs })))
    ∧ (Takes s cmd 2 → x.trap = none →
      (st0 = 0 → Does (.abort p) s [cmd] (fun t => st t = 3 ∧ t = { s with regs := t.regs }))
      ∧ (st0 ≠ 0 → sbHeld s p.n p.b p.q = 0 → Goes (exec (.abort p) s) (fun t => st t = 2 ∧ plyState t p.n p.b p.q = 0 ∧ t.mem = s.mem
        ∧ (plyGet t p.n p.b p.q).aborting = false))
      ∧ (st0 ≠ 0 → (∃ e, e < 32 ∧ getF s (CD_BK_SB_VALID p.n p.b e) = 1 ∧ getF s (CD_BK_SB_PLY p.n p.b e) = p.q.val ∧ getF s (CD_BK_SB_AWAIT p.n p.b e) ≠ 3) →
        Goes (exec (.abort p) s) (fun t => st t = 1 ∧ (plyGet t p.n p.b p.q).aborting = true ∧ mayIssue t p = false ∧ t.mem = s.mem)))
    ∧ (Takes s cmd 1 → x.trap ≠ none → Does (.resume p) s [cmd] (fun t => st t = 1 ∧ t.boot.held = s.boot.held ++ [(cmd, true)] ∧ t.plies = s.plies))
    ∧ (Takes s (CD_KNOT n i) v → Does (.knotRegisterWrite n i v) s [CD_KNOT n i] (fun t => Written s t (CD_KNOT n i) v ∧ t = { s with regs := t.regs }))
    ∧ (Takes s (HP_SKNOT k) v → Does (.spanKnotRegisterWrite k v) s [HP_SKNOT k] (fun t => Written s t (HP_SKNOT k) v ∧ t = { s with regs := t.regs, dies := t.dies }
        ∧ ∀ d : Die, getF s (CH_DIE_STS_STATE d) = 3 →
          tabGet (fun _ => 0) (dieGet t d).skMirror k = getF t (HP_SKNOT_SPAN k) + 4 * getF t (HP_SKNOT_GEN k)))
    ∧ (Takes s (CD_DIR n) v → Does (.directoryWrite n v) s [CD_DIR n] (fun t => Written s t (CD_DIR n) v ∧ t = { s with regs := t.regs, bricks := t.bricks }
        ∧ ∀ d : Die, ∀ b : Fin 384, brickGet t d b = if d = n then { brickGet s d b with dirCache := [] } else brickGet s d b))

/-- R158, R159, R183: FORM is refused for the first of its conditions that applies, else the span is formed and the caches of its other members are empty; DISSOLVE of a
span that is not formed is refused (5), one with live entries without force too (6); otherwise the span is gone and its span knots are reset and free. -/
def Sys2Proof.Claims.Spans : Prop :=
  ∀ (s : State) (c : Fin 4) (force : Bool),
    let w := cmdWord [(HP_SPAN_CMD_OP, 1), (HP_SPAN_CMD_SPAN, c.val)]
    let w' := cmdWord [(HP_SPAN_CMD_OP, 2), (HP_SPAN_CMD_SPAN, c.val), (HP_SPAN_CMD_FORCE, b2n force)]
    let refused (r : Nat) (t : State) : Prop := getF t HP_SPAN_CMD_STATUS = 3 ∧ getF t HP_SPAN_CMD_REASON = r ∧ t = { s with regs := t.regs }
    let live := ∃ m e, m ∈ spanMembers c ∧ e ∈ ledAll s m ∧ liveLed (getF s (CH_LEDGER_STATE m e.1)) = true
    (Takes s HP_SPAN_CMD w →
      (∀ r, formRefusal s c = some r → Does (.spanForm c) s [HP_SPAN_CMD] (refused r))
      ∧ (formRefusal s c = none → Does (.spanForm c) s [HP_SPAN_CMD, HP_SPAN_STS] (fun t => getF t HP_SPAN_CMD_STATUS = 2 ∧ getF t HP_SPAN_CMD_REASON = 0
        ∧ getF t (spanFld c) = 1 ∧ t = { s with regs := t.regs, dies := t.dies } ∧ ∀ m, m ∈ (spanMembers c).drop 1 → (dieGet t m).hubCache = [] ∧ (dieGet t m).walkCache = [])))
    ∧ (Takes s HP_SPAN_CMD w' →
      (c.val = 0 ∨ getF s (spanFld c) = 0 → Does (.spanDissolve c force) s [HP_SPAN_CMD] (refused 5))
      ∧ (c.val ≠ 0 → getF s (spanFld c) ≠ 0 → force = false → live → Does (.spanDissolve c force) s [HP_SPAN_CMD] (refused 6))
      ∧ (c.val ≠ 0 → getF s (spanFld c) ≠ 0 → ¬ live → Goes (exec (.spanDissolve c force) s) (fun t => getF t (spanFld c) = 0
        ∧ (∀ i : Fin 1024, getF s (HP_SKNOT_SPAN i) = c → getF t (HP_SKNOT_SPAN i) = 0 ∧ getF t (HP_SKNOT_ARMED i) = 0 ∧ getF t (HP_SKNOT_COUNT i) = 0)
        ∧ (∀ m, m ∈ spanMembers c → bitN (getF t HP_SPAN_STS_LOST) m = 0 ∧ (dieGet t m).dieCache = []))))

/-- R36, R117, R144, R160: commands to plies, writes to knots and to the directory, and the forming of spans. -/
def Obligations.PlyKnotSpanCommands : Prop := Sys2Proof.Claims.PlyAndKnotCommands ∧ Sys2Proof.Claims.Spans

/-- R161-R164, R171: a request is refused for the lowest reason that applies, or becomes an ACCEPTED entry: a launch arms the slots of its plies, a transfer puts its
first descriptor, as it stands in memory, on the DMA queue of its channel. -/
def Obligations.AdmissionRequests : Prop :=
  ∀ (s u : State) (n : Die) (r : Nat), Front s u n .submit r →
    let i := freeIndex s n
    let da := byteN r 24 8
    let queued (t : State) : Prop := ∃ d, d ∈ (dieGet t n).dmaQ ∧ d.entry = some i ∧ d.raw = leVal (readBytes s da 64) ∧ d.addr = da ∧ d.src = none
    (∀ w, refusal u n r = some w → (kindFor 1 r = true → Refuses (.admissionLaunch n) s n w) ∧ (kindFor 2 r = true → Refuses (.admissionDmaTransfer n) s n w)
      ∧ (kindFor 3 r = true → Refuses (.admissionRopeTransfer n) s n w) ∧ (kindFor 6 r = true → Refuses (.withdraw n) s n w))
    ∧ (refusal u n r = none → kindFor 1 r = true → Goes (exec (.admissionLaunch n) s) (fun t => Admitted u t n r ∧ t.mem = s.mem
      ∧ (bitN (byteN r 1 1) 1 = 0 → ∀ x k, ledGet t n i = some x → k ∈ x.plies → getF t (CD_BK_LSLOT_ARMED n (k / 4) (k % 4)) = 1
        ∧ getF t (CD_BK_LSLOT_ADM n (k / 4) (k % 4)) = 1 ∧ getF t (CD_BK_LSLOT_EPOCH n (k / 4) (k % 4)) = x.start
        ∧ getF t (CD_BK_LSARG_ARG n (k / 4) (k % 4)) = byteN r 32 4)))
    ∧ (refusal u n r = none → dmaFull s n = false → Readable s da →
      (kindFor 2 r = true → Goes (exec (.admissionDmaTransfer n) s) (fun t => Admitted u t n r ∧ queued t ∧ t.mem = s.mem))
      ∧ (kindFor 3 r = true → Goes (exec (.admissionRopeTransfer n) s) (fun t => Admitted u t n r ∧ queued t ∧ t.mem = s.mem)))
    ∧ (∀ x, refusal u n r = none → kindFor 6 r = true → ledGet s n (byteN r 22 2 % 4096) = some x → x.released = false → Goes (exec (.withdraw n) s) (fun t =>
      Answered u t n true 0 0 ∧ bitsOf (rd t (CH_ADM_RESP0 n)) 11 0 = byteN r 22 2 % 4096 ∧ getF t (CH_LEDGER_STATE n (byteN r 22 2 % 4096)) = 6
      ∧ getF t (CH_LEDGER_END n (byteN r 22 2 % 4096)) = 9 ∧ t.mem = s.mem
      ∧ ∃ y, ledGet t n (byteN r 22 2 % 4096) = some y ∧ y.released = true))

/-- R172, R173: an ACTIVE or AT_RISK promise is BROKEN when its deadline epoch passes, and keeps its resources; a terminal entry whose work has stopped writes its record
into the ring when that has room, makes its knot arrival and is FREE; a full ring is flagged once. -/
def Obligations.PromiseEnds : Prop :=
  ∀ (s : State) (n : Die) (i : Fin 4096) (x : LedX), ledGet s n i = some x →
    let st := getF s (CH_LEDGER_STATE n i)
    let size := ringSize 7 (getF s (CH_ADM_PRQ_SIZE n))
    let tail := getF s (CH_ADM_PRQ_PTR_TAIL n) % size
    let full := (tail + 1) % size = getF s (CH_ADM_PRQ_PTR_HEAD n) % size
    let pa := getF s (CH_ADM_PRQ_BASE n) * 4096 + 32 * tail
    (getF s (CH_LEDGER_P n i) = 1 → st = 2 ∨ st = 4 → x.stopped = none → epochStale s n = false →
      (epochReached (epochOf s n) (getF s (CH_LEDGER_DEADLINE n i)) = true → Does (.deadlineExpiry n i) s [CH_LEDGER n i 0, CH_ADM_STS n] (fun t =>
        getF t (CH_LEDGER_STATE n i) = 5 ∧ getF t (CH_LEDGER_END n i) = 2 ∧ t = { s with regs := t.regs }
        ∧ getF t (CH_ADM_STS_BROKEN n) = min (getF s (CH_ADM_STS_BROKEN n) + 1) (2 ^ 24 - 1)))
      ∧ (epochReached (epochOf s n) (getF s (CH_LEDGER_DEADLINE n i)) = false → Nothing (.deadlineExpiry n i) s))
    ∧ (x.stopped ≠ none → liveLed st = false → (dieGet s n).hubAbsent = false →
      (¬ full → Writable s pa → Goes (exec (.promiseRecord n i) s) (fun t =>
        readBytes t pa 32 = leBytes 32 (promiseRec s n i x) ∧ SameMem s t (within pa 32) ∧ getF t (CH_ADM_PRQ_PTR_TAIL n) = (tail + 1) % size
        ∧ getF t (CH_LEDGER_STATE n i) = 0 ∧ ledGet t n i = none ∧ SameRegs s t [CH_ADM_PRQ_PTR n, CH_LEDGER n i 0]
        ∧ t.knotOps = s.knotOps ++ if x.kn then [⟨.engine n, x.knot, .arrive, false, false, 0, 0⟩] else []))
      ∧ (full → x.noted = false → Does (.promiseRecord n i) s (flagRegs (CH_ADM_STS_PRQ_FULL n)) (fun t => Flagged s t (CH_ADM_STS_PRQ_FULL n)
        ∧ ledGet t n i = some { x with noted := true }))
      ∧ (full → x.noted = true → Nothing (.promiseRecord n i) s))

/-- R176-R178, R196-R199: a pin request that is not refused locks the pages already in its tier and begins to move the others; a page moves by a copy into a pool page,
with its table entry rewritten; the pin is answered once no page is left; an unpin, or a fault, releases the set, and it is gone. -/
def Obligations.PinSets : Prop :=
  ∀ (s : State) (n : Die) (h : Fin 255) (r : Nat),
    let lst := byteN r 24 8
    let set := rangesOf (byteN r 32 4) (leVal (readBytes s lst (16 * byteN r 32 4)))
    let tier := byteN r 37 1
    (∀ u, Front s u n .submit r → (∀ w, refusal u n r = some w →
      (kindFor 4 r = true → Refuses (.pin n) s n w) ∧ (kindFor 5 r = true → Refuses (.unpin n) s n w)))
    ∧ (Front s s n .submit r → refusal s n r = none →
      (∀ v u, kindFor 4 r = true → Readable s lst → set.2 = true → surveyAll n tier s (pagesOf set.1) ⟨[], [], 0, none, false⟩ = (v, u) → v.waits = false → v.fault = none →
        v.stuck + (v.move.length - (if tier = 3 then v.move.length else poolFree u n tier)) = 0 →
        v.move.length + (v.place.filter (fun e => e.locks == 0)).length ≤ xltFree u n →
        Goes (exec (.pin n) s) (fun t => (dieGet t n).admBusy = true ∧ t.regs = u.regs ∧ t.mem = s.mem
          ∧ ∃ q, pinGet t n (byteN r 36 1) = some q ∧ q.tier = tier ∧ q.ranges = set.1 ∧ q.todo = v.move ∧ q.complete = false ∧ q.locked = v.place.map (fun e => (e.asid, e.va))))
      ∧ (∀ p, kindFor 5 r = true → pinGet s n (byteN r 36 1) = some p → Does (.unpin n) s [] (fun t =>
        (dieGet t n).admBusy = true ∧ pinGet t n (byteN r 36 1) = some { p with unpin := true, origin := .submit })))
    ∧ (∀ p, pinGet s n h = some p →
      (∀ g rest pa u, p.todo = g :: rest → p.unpin = false → p.failed = none → (dieGet s n).hubAbsent = false → memReady s g.orig = true →
        memReady s (poolBase s n p.tier) = true → walk (dropPage s n g.asid g.va) n g.asid g.va false = .ok pa u → Memory.wf s.mem = true →
        Goes (exec (.pinPageMove n h) s) (fun t => ∃ i q,
          let dst := poolBase s n p.tier + 65536 * i
          pinGet t n h = some q ∧ q.todo = rest ∧ q.moved = p.moved ++ [{ g with orig := pa, pool := i }]
          ∧ tabGet (fun _ => 0) (dieGet t n).poolUse (poolKey p.tier i) = pa + 1
          ∧ (∀ k, k < 65536 → ¬ within g.l2 8 (dst + k) → ¬ within (poolBase s n 2 + 8 * i) 8 (dst + k) → memGet t (dst + k) = memGet s (pa + k))
          ∧ SameMem s t (fun a => within dst 65536 a ∨ within g.l2 8 a ∨ within (poolBase s n 2 + 8 * i) 8 a)))
      ∧ (p.origin = .submit → p.complete = false → p.unpin = false → p.failed = none → p.todo = [] → Does (.pinComplete n h) s (respRegs n) (fun t =>
        Answered s t n true 0 0 ∧ bitsOf (rd t (CH_ADM_RESP0 n)) 11 0 = h ∧ pinGet t n h = some { p with complete := true }))
      ∧ (∀ f, p.origin = .submit → p.failed = some f → Goes (exec (.pinAbandoned n h) s) (fun t => pinGet t n h = none
        ∧ Answered s t n false 7 (max 1 ((pagesOf p.ranges).length - p.locked.length)) ∧ ∃ x, (dieGet t n).faultQ = (dieGet s n).faultQ ++ [x] ∧ x.body = f))
      ∧ (p.origin = .submit → p.unpin = true → (dieGet s n).hubAbsent = false → Goes (exec (.unpinComplete n h) s) (fun t =>
        pinGet t n h = none ∧ Answered s t n true 0 0)))

namespace Sys2Proof.Claims
open Machine

/-- R214: the request at the front of a channel's pre-emption queue; `u` is the state once its bytes have been read. -/
def FrontPre (s u : State) (n : Nat) (o : Origin) (r : Nat) : Prop :=
  (dieGet s n).hubAbsent = false ∧ ∃ a rest,
    ((dieGet s n).preQ = ⟨o, a, some r⟩ :: rest ∧ u = s)
    ∨ ((dieGet s n).preQ = ⟨o, a, none⟩ :: rest ∧ Readable s a ∧ r = leVal (readBytes s a 64)
      ∧ u = dieMod s n (fun d => { d with preQ := ⟨o, a, some r⟩ :: rest }))

/-- R214: the response to a pre-emption request submitted by register. -/
def PreAnswered (s t : State) (n : Nat) (ok : Bool) (req reason : Nat) : Prop :=
  getF t (CH_PRE_RESP_ACCEPTED n) = b2n ok ∧ (ok = true → getF t (CH_PRE_RESP_REQ n) = req) ∧ (ok = false → getF t (CH_PRE_RESP_REASON n) = reason)
  ∧ getF t (CH_PRE_SUBMIT_STATUS n) = 2 ∧ (dieGet t n).preQ = (dieGet s n).preQ.drop 1

/-- R214: a request is refused, and nothing but its response changes. -/
def PreRefuses (c : Instr) (s : State) (n w : Nat) : Prop :=
  Does c s [CH_PRE_RESP n, CH_PRE_SUBMIT n] (fun t => PreAnswered s t n false 0 w ∧ t.plies = s.plies)

/-- R194: an invalidation by CH_XLT_INV: what the operation covers is gone from every cache of the channel or span but for what pin sets lock, and the command waits
for the blocks in flight. -/
def Invalidates (c : Instr) (s : State) (n : Die) (op asid va : Nat) : Prop :=
  Does c s [CH_XLT_INV n] (fun t => getF t (CH_XLT_INV_STATUS n) = 1 ∧ (dieGet t n).invWait = some (busyBlocks t n)
    ∧ (∀ d, d ∈ reach s n → (dieGet t d).dieCache = (dieGet s d).dieCache.filter (fun e => !invCovers op asid va e)
      ∧ (dieGet t d).hubCache = (dieGet s d).hubCache.filter (fun e => !invCovers op asid va e || e.locks != 0)
      ∧ (dieGet t d).walkCache = (dieGet s d).walkCache.filter (fun w => !invWalk op asid va w)))

end Sys2Proof.Claims


/-- R201-R204, R208: an idle engine takes the oldest descriptor it may take, a malformed one ends at once (kind 10); the rest of a block is translated and read, and a
whole block is sent; a walk that completes frees the engine to go on, one that faults parks it; NEXT is fetched from memory. -/
def Sys2Proof.Claims.DmaEngines : Prop :=
  ∀ (s u : State) (n : Die) (e : Fin 64) (err : MemErr) (x : EngX) (d : QDesc) (i : Nat),
    let st (t : State) := getF t (CD_DMA_ENG_STATE n e)
    let pos := getF s (CD_DMA_ENG_POS n e)
    (engGet s n e = none → st s = 0 → pkgSafe s = false → firstIdx (mayTake s n e) (dieGet s n).dmaQ = some i → (dieGet s n).dmaQ[i]? = some d →
      (d.ok = true → d.pos < d.len → Goes (exec (.dmaDescriptorStart n e) s) (fun t => engGet t n e = some ⟨d, [], none, 0, .build, false, false⟩ ∧ st t = 1
        ∧ getF t (CD_DMA_ENG_POS n e) = d.pos ∧ getF t (CD_DMA_ENG_TICKET n e) = d.ticket % 2 ^ 16 ∧ (dieGet t n).dmaQ = listDel (dieGet s n).dmaQ i ∧ t.mem = s.mem))
      ∧ (d.ok = false → Goes (exec (.dmaDescriptorStart n e) s) (fun t => st t = 3 ∧ getF t (CD_DMA_ENG_KIND n e) = 10 ∧ t.mem = s.mem
        ∧ ∃ b, (dieGet t n).faultQ = (dieGet s n).faultQ ++ [⟨b, .finish (some e) d true true, false⟩])))
    ∧ (engGet s n e = some x → st s = 1 → x.leg = .build → x.miss = none → x.nextWait = false → pkgSafe s = false →
      ∀ whole, takePieces n e x.d (x.d.blockEnd pos) 512 s (takenEnd x.d pos x.taken) err = (whole, u) →
      (whole = false → Goes (exec (.dmaBlockSend n e err) s) (fun t => t = u))
      ∧ (∀ y, whole = true → engGet u n e = some y → y.d.op ≠ 5 → Goes (exec (.dmaBlockSend n e err) s) (fun t => t.regs = u.regs ∧ t.mem = u.mem
        ∧ engGet t n e = some { y with leg := if crossDie n y.taken then .toDie else .atDest }))
      ∧ (∀ y, whole = true → engGet u n e = some y → y.d.op = 5 → Goes (exec (.dmaBlockSend n e err) s) (fun t => t = sendPut u n e y)))
    ∧ (∀ k, engGet s n e = some x → x.leg = .toDie → gatewayHeld s n = false →
      ipPath s n (((x.taken.filterMap (fun p => paDie p.dst)).find? (· != n.val)).getD n) = some k →
      Goes (exec (.dmaBlockSegment n e) s) (fun t => engGet t n e = some { x with leg := .atDest } ∧ t.mem = s.mem))
    ∧ (∀ va dst, engGet s n e = some x → x.miss = some (va, dst) → (dieGet s n).hubAbsent = false →
      (∀ pa, walk s n x.d.asid va dst = .ok pa u → Goes (exec (.translationWalk n e) s) (fun t => engGet t n e = some { x with miss := none } ∧ t.mem = u.mem ∧ st t = st s))
      ∧ (∀ k l ent, k ≤ 12 → walk s n x.d.asid va dst = .fault k l ent u → engGet u n e = some x → Goes (exec (.translationWalk n e) s) (fun t =>
        st t = 3 ∧ getF t (CD_DMA_ENG_KIND n e) = k ∧ t.mem = u.mem ∧ ∃ b, (dieGet t n).faultQ = (dieGet u n).faultQ ++ [⟨b, .park e, false⟩])))
    ∧ (∀ pa b, engGet s n e = some x → x.nextWait = true → x.miss = none → st s = 1 → pkgSafe s = false → xlate s n x.d.asid x.d.next x.d.phys false = .ok pa u →
      Readable u pa → anyPoison u pa 64 = false → b = { x.d with raw := leVal (readBytes u pa 64), addr := x.d.next, pos := 0, blk := 0 } → b.ok = true → 0 < b.len →
      Goes (exec (.descriptorFetch n e) s) (fun t => engGet t n e = some ⟨b, [], none, 0, .build, false, false⟩ ∧ st t = 1 ∧ getF t (CD_DMA_ENG_POS n e) = 0 ∧ t.mem = s.mem))

/-- R204, R205, R207-R209, R212, R276: a block whose CRC matches is written at its destination and nowhere else, and the next one begins or the descriptor is complete; a
mismatch sends it again, and the eighth parks the engine with kind 6; RESUME and ABORT of a parked engine; a fault record goes to its slot of the ring, raises
the package's interrupt, and parks its engine; a batch of messages reaches the gateway of another die. -/
def Sys2Proof.Claims.DmaBlocks : Prop :=
  ∀ (s : State) (n : Die) (e : Fin 64) (g : Fin 128) (err : MemErr) (x : EngX),
    let st (t : State) := getF t (CD_DMA_ENG_STATE n e)
    let stop := x.d.blockEnd (getF s (CD_DMA_ENG_POS n e))
    (engGet s n e = some x → x.leg = .atDest → pkgSafe s = false → injSlot s 4 (e + 256 * n) = none →
      (x.bad < 7 → Does (.dmaBlockCommit n e false err) s [CD_DMA_ENG n e 0] (fun t => engGet t n e = some { x with bad := x.bad + 1 }
        ∧ getF t (CD_DMA_ENG_RESENT n e) = min (getF s (CD_DMA_ENG_RESENT n e) + 1) (2 ^ 12 - 1)))
      ∧ (7 ≤ x.bad → Goes (exec (.dmaBlockCommit n e false err) s) (fun t => st t = 3 ∧ getF t (CD_DMA_ENG_KIND n e) = 6 ∧ t.mem = s.mem
        ∧ Reported s t 0x0504 (2 ^ n.val) ∧ ∃ b, (dieGet t n).faultQ = (dieGet s n).faultQ ++ [⟨b, .park e, false⟩]))
      ∧ (x.d.op ≠ 5 → stop < x.d.len → stop < 2 ^ 40 → Goes (exec (.dmaBlockCommit n e true err) s) (fun t =>
        getF t (CD_DMA_ENG_POS n e) = stop ∧ getF t (CD_DMA_ENG_BLOCK n e) = (getF s (CD_DMA_ENG_BLOCK n e) + 1) % 2 ^ 24
        ∧ engGet t n e = some { x with taken := [], bad := 0, leg := .build }
        ∧ SameMem s t (fun a => ∃ p, p ∈ x.taken ∧ within p.dst p.data.length a)
        ∧ ∀ p, x.taken = [p] → p.bad = false → Writable s p.dst → readBytes t p.dst p.data.length = p.data))
      ∧ (x.d.op ≠ 5 → x.d.len ≤ stop → x.d.next = 0 → x.poisoned = false → Goes (exec (.dmaBlockCommit n e true err) s) (fun t =>
        engGet t n e = none ∧ st t = 0 ∧ SameMem s t (fun a => ∃ p, p ∈ x.taken ∧ within p.dst p.data.length a)))
      ∧ (x.d.op = 5 → pinRange s (bitsN x.d.put 5 4) (bitsN x.d.put 15 8) (x.d.dstA + getF s (CD_DMA_ENG_POS n e)) ((x.taken.map (·.data)).flatten).length = none →
        Goes (exec (.dmaBlockCommit n e true err) s) (fun t => st t = 3 ∧ getF t (CD_DMA_ENG_KIND n e) = 7 ∧ t.mem = s.mem)))
    ∧ (∀ y, engGet s n g = some y → getF s (CD_DMA_ENG_STATE n g) = 2 →
      (Takes s (CH_DMA_CMD n) (cmdWord [(CH_DMA_CMD_OP n, 1), (CH_DMA_CMD_ENGINE n, g.val)]) →
        Does (.dmaResume n g) s [CH_DMA_CMD n, CD_DMA_ENG n g 0] (fun t => getF t (CD_DMA_ENG_STATE n g) = 1 ∧ getF t (CH_DMA_CMD_STATUS n) = 2 ∧ t.dies = s.dies))
      ∧ (Takes s (CH_DMA_CMD n) (cmdWord [(CH_DMA_CMD_OP n, 2), (CH_DMA_CMD_ENGINE n, g.val)]) →
        Does (.dmaAbort n g) s [CH_DMA_CMD n, CD_DMA_ENG n g 0] (fun t => getF t (CD_DMA_ENG_STATE n g) = 3 ∧ getF t (CD_DMA_ENG_KIND n g) = 12
          ∧ getF t (CH_DMA_CMD_STATUS n) = 2 ∧ ∃ b, (dieGet t n).faultQ = (dieGet s n).faultQ ++ [⟨b, .finish (some g) y.d (!y.nextWait) true, false⟩])))
    ∧ (engGet s n g = none →
      (Takes s (CH_DMA_CMD n) (cmdWord [(CH_DMA_CMD_OP n, 1), (CH_DMA_CMD_ENGINE n, g.val)]) → Does (.dmaResume n g) s [CH_DMA_CMD n] (fun t => getF t (CH_DMA_CMD_STATUS n) = 3))
      ∧ (Takes s (CH_DMA_CMD n) (cmdWord [(CH_DMA_CMD_OP n, 2), (CH_DMA_CMD_ENGINE n, g.val)]) → Does (.dmaAbort n g) s [CH_DMA_CMD n] (fun t => getF t (CH_DMA_CMD_STATUS n) = 3)))
    ∧ (∀ r rest, (dieGet s n).faultQ = r :: rest → (dieGet s n).hubAbsent = false →
      let size := ringSize 6 (getF s (CH_FQ_SIZE n))
      let tail := getF s (CH_FQ_PTR_TAIL n) % size
      let pa := getF s (CH_FQ_BASE n) * 4096 + 64 * tail
      let full := (tail + 1) % size = getF s (CH_FQ_PTR_HEAD n) % size
      (¬ full → Writable s pa → r.after = .none → Goes (exec (.faultQueueRecord n) s) (fun t =>
        readBytes t pa 64 = leBytes 64 (r.body + (dieGet s n).faultSeq * 2 ^ (8 * 46)) ∧ SameMem s t (within pa 64) ∧ SameRegs s t [CH_FQ_PTR n, CH_FQ_STS n]
        ∧ getF t (CH_FQ_PTR_TAIL n) = (tail + 1) % size ∧ getF t (CH_FQ_STS_RECORDS n) = (getF s (CH_FQ_STS_RECORDS n) + 1) % 2 ^ 32
        ∧ (dieGet t n).faultQ = rest ∧ (isBridge s = true → t.hub.irqs = s.hub.irqs ++ [32 + getF s HP_GRP_STS_RANK])))
      ∧ (¬ full → Writable s pa → r.after = .park e → st s = 3 → Goes (exec (.faultQueueRecord n) s) (fun t => st t = 2 ∧ (dieGet t n).faultQ = rest))
      ∧ (full → r.noted = false → Does (.faultQueueRecord n) s (flagRegs (CH_FQ_STS_FULL n)) (fun t => Flagged s t (CH_FQ_STS_FULL n)
        ∧ (dieGet t n).faultQ = { r with noted := true } :: rest)))
    ∧ (∀ (d : Die) (k p : Nat), n ≠ d → k ≠ 0 → pkgSafe s = false → gatewayHeld s n = false → ipPath s n d = some p →
      s.flights.any (fun f => f.die == n.val && f.at_ == .outbox && placeDie f.msg.dest == d.val) = true →
      Does (.messageBatch n d k) s [CD_GW_CNT n d] (fun t => t.flights = batchTo n d k s.flights
        ∧ getF t (CD_GW_CNT_SEGMENTS n d) = (getF s (CD_GW_CNT_SEGMENTS n d) + 1) % 2 ^ 32))

/-- R201-R212: the DMA engines, and the blocks that they move. -/
def Obligations.DmaTransfers : Prop := Sys2Proof.Claims.DmaEngines ∧ Sys2Proof.Claims.DmaBlocks

/-- R187, R194: the four invalidations and their completion; a stack that has trained is zeroed and ready, one that fails is reported (0x0501). -/
def Obligations.TranslationAndHbm : Prop :=
  ∀ (s : State) (n : Die) (asid : BitVec 8) (va : BitVec 48) (k : Fin 2),
    let a := CH_XLT_INV n
    let op (i : Nat) : Fld × Nat := (CH_XLT_INV_OP n, i)
    let as_ : Fld × Nat := (CH_XLT_INV_ASID n, asid.toNat)
    let stack (x : Nat) : Prop := within ((2 * n.val + k.val) * 0x1000000000) 0x1000000000 x
    let training := getF s (CD_HBM_STS_STATE n k) = 1 ∨ getF s (CD_HBM_STS_STATE n k) = 2
    (Takes s a (cmdWord [op 1, as_, (CH_XLT_INV_VA n, va.toNat / 2 ^ 16)]) → Invalidates (.invPage n asid va) s n 1 asid.toNat (va.toNat / 2 ^ 16 * 2 ^ 16))
    ∧ (Takes s a (cmdWord [op 2, as_]) → Invalidates (.invAsid n asid) s n 2 asid.toNat 0)
    ∧ (Takes s a (cmdWord [op 3]) → Invalidates (.invGlobal n) s n 3 0 0)
    ∧ (Takes s a (cmdWord [op 4]) → Invalidates (.invAll n) s n 4 0 0)
    ∧ ((dieGet s n).invWait = some [] → getF s (CH_XLT_INV_STATUS n) = 1 → Does (.invComplete n) s [a] (fun t =>
        getF t (CH_XLT_INV_STATUS n) = 2 ∧ dieGet t n = { dieGet s n with invWait := none }))
    ∧ ((dieGet s n).invWait ≠ some [] → Nothing (.invComplete n) s)
    ∧ (training → Goes (exec (.hbmTraining n k true) s) (fun t => getF t (CD_HBM_STS_STATE n k) = 3 ∧ SameRegs s t [CD_HBM_STS n k] ∧ SameMem s t stack
        ∧ ∀ x, stack x → memGet t x = 0 ∧ linePoisoned t x = false))
    ∧ (training → Does (.hbmTraining n k false) s [CD_HBM_STS n k] (fun t => getF t (CD_HBM_STS_STATE n k) = 4 ∧ Reported s t 0x0501 (2 ^ n.val)))
    ∧ (¬ training → Nothing (.hbmTraining n k true) s ∧ Nothing (.hbmTraining n k false) s)

/-- R214, R215, R220: a save request is refused, or takes a slot and marks its plies; a restore request takes a slot; a cancel ends a pending, deferred or suspended save,
whose plies go on; after LIMIT the plies that have not stopped are stopped between points, a wait being withdrawn. -/
def Sys2Proof.Claims.PreemptionRequests : Prop :=
  ∀ (s u : State) (n : Die) (r : Nat) (k : Fin 64),
    let x : PreX := ⟨r, [], epochOf u n, [], [], 0⟩
    let c := byteN r 20 1
    let m := getF s (CH_PRE_REQ_PLIES n k)
    let slot (t : State) (j st mask : Nat) : Prop := getF t (CH_PRE_REQ_STATE n j) = st ∧ getF t (CH_PRE_REQ_PLIES n j) = mask
      ∧ getF t (CH_PRE_REQ_BRICK n j) = x.brick ∧ getF t (CH_PRE_REQ_DIE n j) = x.die ∧ preGet t n j = some x ∧ PreAnswered u t n true j 0
    (FrontPre s u n .submit r → ∀ w, preRefusal u n r = some w → (byteN r 0 1 ≠ 2 → byteN r 0 1 ≠ 3 → PreRefuses (.preemptSave n) s n w)
      ∧ (byteN r 0 1 = 2 → PreRefuses (.preemptRestore n) s n w) ∧ (byteN r 0 1 = 3 → PreRefuses (.preemptCancel n) s n w))
    ∧ (FrontPre s u n .submit r → ∀ j, preRefusal u n r = none → preSlot u n = some j →
      (byteN r 0 1 = 1 → Does (.preemptSave n) s [CH_PRE_REQ n j, CH_PRE_RESP n, CH_PRE_SUBMIT n] (fun t => slot t j 1 (byteN r 2 1)
        ∧ ∀ q, q ∈ maskPlies (byteN r 2 1) → (plyGet t x.die x.brick q).marked = true))
      ∧ (byteN r 0 1 = 2 → Does (.preemptRestore n) s [CH_PRE_REQ n j, CH_PRE_RESP n, CH_PRE_SUBMIT n] (fun t =>
        slot t j 6 (byteN (areaHeader u n ⟨r, [], 0, [], [], 0⟩) 2 1 % 16) ∧ t.plies = s.plies)))
    ∧ (FrontPre s u n .submit r → ∀ y, byteN r 0 1 = 3 → preRefusal u n r = none → preGet s n c = some y → Does (.preemptCancel n) s [CH_PRE_REQ n c, CH_PRE_RESP n, CH_PRE_SUBMIT n] (fun t =>
        getF t (CH_PRE_REQ_STATE n c) = 9 ∧ PreAnswered u t n true c 0
        ∧ ∀ q, q ∈ maskPlies (getF s (CH_PRE_REQ_PLIES n c)) → (plyGet t y.die y.brick q).marked = false ∧ (plyGet t y.die y.brick q).saving = false))
    ∧ (∀ y, preGet s n k = some y → y.force = true → getF s (CH_PRE_REQ_STATE n k) = 1 ∨ getF s (CH_PRE_REQ_STATE n k) = 3 →
      epochReached (epochOf s n) ((y.since + y.limit) % 2 ^ 48) = true → Goes (exec (.preemptForceLimit n k) s) (fun t => t.mem = s.mem
        ∧ ∀ q, q ∈ maskPlies m →
          let p : PlyId := ⟨Fin.ofNat 4 y.die, Fin.ofNat 384 y.brick, Fin.ofNat 4 q⟩
          let a := plyGet s p.n p.b p.q
          (a.saving = false → plyState s p.n p.b p.q = 1 → (plyGet t p.n p.b p.q).saving = true ∧ getPc t p = getPc s p)
          ∧ (a.saving = false → plyState s p.n p.b p.q = 2 → (plyGet t p.n p.b p.q).saving = true ∧ plyState t p.n p.b p.q = 1
            ∧ rd t (CD_PLY_WAIT p.n p.b p.q) = 0 ∧ ∀ e, sbWaitEntry s p.n p.b p.q = some e → getPc t p = 8 * getF s (CD_BK_SB_PC p.n p.b e))))

/-- R216-R219: a save whose conditions hold begins; when its area and header are written its plies are SAVED; a fault defers it, the second suspends it, and its plies
resume; a restore whose area does not agree is FAILED without a change, one that faults leaves its plies IDLE, a good one gives its plies their registers back. -/
def Sys2Proof.Claims.PreemptionEvents : Prop :=
  ∀ (s : State) (n : Die) (k : Fin 64) (x : PreX) (kind : Fin 13), preGet s n k = some x →
    let st := getF s (CH_PRE_REQ_STATE n k)
    let m := getF s (CH_PRE_REQ_PLIES n k)
    let st' (t : State) := getF t (CH_PRE_REQ_STATE n k)
    let hd := areaHeader s n x
    let mask := byteN hd 2 1 % 16
    (st = 1 ∨ st = 3 → saveReady s x m = true → Goes (exec (.saveStart n k) s) (fun t => st' t = (if st = 1 then 2 else 4)
      ∧ getF t (CH_PRE_REQ_STOPPED n k) = m ∧ t.mem = s.mem ∧ (dieGet t x.die).dmaQ = (dieGet s x.die).dmaQ.filter (fun q => !descOf x.brick m q)
      ∧ (x.storePol = true → (brickGet t x.die x.brick).swapped = true)))
    ∧ (st = 1 ∨ st = 3 → saveReady s x m = false → Nothing (.saveStart n k) s)
    ∧ (st = 2 ∨ st = 4 → (dieGet s n).hubAbsent = false → Goes (exec (.saveComplete n k) s) (fun t => st' t = 7
      ∧ (∀ q, q ∈ maskPlies m → plyState t x.die x.brick q = 4 ∧ (plyGet t x.die x.brick q).saving = false)
      ∧ (x.phys = true → x.descs.length ≤ 8 → (brickGet s x.die x.brick).inbox.length ≤ 256 → SameMem s t (within x.area (areaSize x.storePol)))
      ∧ (x.phys = true → accessOk s n x.area = true → Writable s x.area → memGet t x.area = 1)))
    ∧ (st = 2 ∨ st = 4 → kind.val ≠ 0 → Goes (exec (.saveFault n k kind) s) (fun t => st' t = (if st = 2 then 3 else 5) ∧ getF t (CH_PRE_REQ_KIND n k) = kind
      ∧ getF t (CH_PRE_REQ_STOPPED n k) = 0 ∧ Reported s t (if st = 2 then 0x0505 else 0x0506) (2 ^ n.val) ∧ t.mem = s.mem
      ∧ (∀ q, q ∈ maskPlies m → (plyGet t x.die x.brick q).saving = false) ∧ (brickGet t x.die x.brick).swapped = false))
    ∧ (st = 6 → (dieGet s n).hubAbsent = false → kind.val ≠ 0 → Goes (exec (.restoreComplete n k kind) s) (fun t => st' t = 8
      ∧ getF t (CH_PRE_REQ_KIND n k) = kind ∧ Reported s t 0x0507 (2 ^ n.val) ∧ SameMem s t (within (storePa x.die x.brick 0) 0x100000)
      ∧ ∀ q, q ∈ maskPlies m → plyState t x.die x.brick q = 0))
    ∧ (st = 6 → (dieGet s n).hubAbsent = false → injSlot s 8 n = none → areaGood s n x hd = false →
      Does (.restoreComplete n k 0) s [CH_PRE_REQ n k] (fun t => st' t = 8 ∧ t.plies = s.plies ∧ t.bricks = s.bricks))
    ∧ (∀ pa, st = 6 → (dieGet s n).hubAbsent = false → injSlot s 8 n = none → areaGood s n x hd = true → areaPa s n x 0 false = some pa → bitN (byteN hd 1 1) 1 = 0 →
      (dieGet s x.die).dmaQ.length < 4096 → Goes (exec (.restoreComplete n k 0) s) (fun t => st' t = 7 ∧ t.mem = s.mem ∧ ∀ q, q ∈ maskPlies mask →
        let p : PlyId := ⟨Fin.ofNat 4 x.die, Fin.ofNat 384 x.brick, Fin.ofNat 4 q⟩
        let w (i : Nat) := readLE s (pa + 0x400 + 0x400 * q + 8 * i) 8
        plyState t p.n p.b p.q = (if byteN hd 3 1 / 4 ^ q % 4 = 3 then 3 else 1) ∧ getPc t p = w 49 % 2 ^ 20 / 8 * 8
        ∧ (∀ i, 1 ≤ i → i < 32 → getS t p i = BitVec.ofNat 64 (w i)) ∧ (∀ i, i < 16 → getA t p i = BitVec.ofNat 64 (w (32 + i)))))

/-- R214-R220: requests of pre-emption, and the events of their saves and restores. -/
def Obligations.Preemption : Prop := Sys2Proof.Claims.PreemptionRequests ∧ Sys2Proof.Claims.PreemptionEvents

namespace Sys2Proof.Claims
open Machine

/-- R222, R229: flag `i` of the event register of an optical engine, or of the interposer (8). -/
def optEvt (u i : Nat) : Fld := if u < 8 then ⟨OE_EVT u, i, i, i⟩ else ⟨PI_EVT, i, i, i⟩

/-- The laser registers of a rope. -/
def lasRegs (r : Nat) : List Nat := (List.range (lamCount r)).map (OE_LAS_BIAS r)

/-- R343: the channels in the scope of a fault of an optical part. -/
def optMask (r : Nat) : Nat := match (if r < 24 then ropeChan r else none) with | some n => 2 ^ n | none => 0

/-- R225: every laser of the rope that was lit is at safe low power: no more than 5 mA. -/
def SafeLow (s t : State) (r : Nat) : Prop :=
  ∀ l, l < lamCount r → lasLit s r l = true → lasState t r l = 6 ∧ getF t (OE_LAS_BIAS_BIAS r l) ≤ 500 ∧ getF t (OE_LAS_BIAS_HIGH r l) = 0

/-- R225: every laser of the rope that was at safe low power has its former state and bias. -/
def FullPower (s t : State) (r : Nat) : Prop :=
  ∀ l, l < lamCount r → lasState s r l = 6 → let p := tabGet (fun _ => (0, 0)) (lightGet s r).prev l
    lasState t r l = p.1 % 8 ∧ getF t (OE_LAS_BIAS_BIAS r l) = p.2 % 2 ^ 14 ∧ getF t (OE_LAS_BIAS_HIGH r l) = b2n (decide (10000 < p.2))

/-- R12, R14: a command register that the write of `w` would start; the command answers at once with this STATUS and changes nothing else. -/
def Answers (c : Instr) (s : State) (sts : Fld) (v : Nat) : Prop := Does c s [sts.addr] (fun t => getF t sts = v ∧ t = { s with regs := t.regs })

/-- R389: a command that waits until its unit has restarted. -/
def Waits (c : Instr) (s : State) (sts : Fld) : Prop := Does c s [sts.addr] (fun t => getF t sts = 1 ∧ t.boot.held = s.boot.held ++ [(sts.addr, true)])

/-- A ring is controlled: present, not failed, its sensor not stale, its controller acting. -/
def RingActs (s : State) (g : Nat) : Prop :=
  getF s (ringF g 15 15) = 1 ∧ getF s (ringF g 47 47) = 0 ∧ getF s (ringF g 46 46) = 0 ∧ optActs s (ringRope g) = true

/-- R234: what a calibration covers is marked: STALE of its ring, or of the rings, lasers and strands of its rope. -/
def Marked (t : State) (c : CalX) (v : Nat) : Prop :=
  match c.ring with
  | some g => getF t (ringF g 46 46) = v
  | none => (∀ g, g ∈ ropeRings t c.rope → getF t (ringF g 46 46) = v)
    ∧ ∀ l, l < lamCount c.rope → getF t (OE_LAS_BIAS_STALE c.rope l) = v ∧ getF t (OE_STRAND_STALE c.rope l) = v

end Sys2Proof.Claims


/-- R224, R225, R234-R238, R243: an external rope that sees no light goes to safe low power, is probed and comes back; the bias follows the back-facet current up to
120 mA; reports and margins are shown; a laser that dies is FAILED and its strand leaves the map; the phases of a spare; an engine that stays open-loop is lost. -/
def Obligations.Lasers : Prop :=
  ∀ (s : State) (x : Fin 24) (r : Fin 34) (l : Fin 18) (k : Fin 8) (st : Fin 64) (need bfm : Nat) (ms : List Int),
    let u := ropeOe x
    let las := OE_LAS_BIAS r l
    let spare := ∃ b, (lightGet s r).bring = some b ∧ b.lam = l.val ∧ b.phase ≤ 6
    let cmd := cmdWord [(OE_CMD_OP k, 2), (OE_CMD_S k, st.val)]
    let y := oeRope k (st.val / 18)
    (getF s (openFibre x) = 0 → getF s (OE_STS_STATE u) = 3 ∨ getF s (OE_STS_STATE u) = 4 →
      Does (.openFibre x) s (OE_STS u :: flagRegs (optEvt u 7) ++ lasRegs x) (fun t => getF t (openFibre x) = 1 ∧ Flagged s t (optEvt u 7) ∧ SafeLow s t x))
    ∧ (getF s (openFibre x) = 1 →
      Nothing (.openFibre x) s ∧ Does (.openFibreProbe x) s (lasRegs x) (fun t => FullPower s t x ∧ (lightGet t x).probe = true)
      ∧ ((lightGet s x).probe = true → Does (.openFibreProbeEnd x) s (lasRegs x) (fun t => SafeLow s t x ∧ (lightGet t x).probe = false))
      ∧ Does (.lightReturn x) s (OE_STS u :: lasRegs x) (fun t => getF t (openFibre x) = 0 ∧ FullPower s t x ∧ (lightGet t x).probe = false))
    ∧ (getF s (openFibre x) = 0 → Nothing (.openFibreProbe x) s ∧ Nothing (.openFibreProbeEnd x) s ∧ Nothing (.lightReturn x) s)
    ∧ (l.val < lamCount r →
      (lasLit s r l = true → optActs s r = true → getF s (OE_LAS_BIAS_STALE r l) = 0 → Does (.laserApc r l need bfm) s [las] (fun t =>
        getF t (OE_LAS_BIAS_BIAS r l) = min 12000 need ∧ getF t (OE_LAS_BIAS_BFM r l) = min 1023 bfm
        ∧ getF t (OE_LAS_BIAS_HIGH r l) = b2n (decide (10000 < need)) ∧ t = { s with regs := t.regs }))
      ∧ (lasLit s r l = true → Goes (exec (.laserDeath r l) s) (fun t => lasState t r l = 5 ∧ getF t (OE_LAS_BIAS_BIAS r l) = 0
        ∧ getF t (optEvt (optUnit r) 3) = 1 ∧ (r.val < 24 → t.mem = s.mem)
        ∧ (¬ spare → getF t (OE_LAS_BIAS_SAVED_BIAS r l) = getF s (OE_LAS_BIAS_BIAS r l)
          ∧ ∀ i, strandLogical s r l = some i → (ropeGet t r).txMap.getD i 31 = 31)))
      ∧ (lasLit s r l = false → Nothing (.laserDeath r l) s ∧ Nothing (.laserApc r l need bfm) s))
    ∧ (∀ b rest, (ropeGet s x).lctl = b :: rest → bodyF b 0 1 = 7 → Goes (exec (.strandReport x) s) (fun t => (ropeGet t x).lctl = rest ∧ t.mem = s.mem
      ∧ ∀ l, l < 18 → getF t (OE_STRAND_REPORTS x l) = (getF s (OE_STRAND_REPORTS x l) + 1) % 2 ^ 16
        ∧ (calGet s u = none → getF t (OE_STRAND_MARGIN x l) = bodyF b (2 + 2 * l) 2 ∧ getF t (OE_STRAND_STALE x l) = 0)))
    ∧ (24 ≤ r.val → Goes (exec (.marginEstimate r ms) s) (fun t => ∀ l m, l < 17 → ms[l]? = some m → s.opt.cal = [] →
        getF t (OE_STRAND_MARGIN r l) = wrapN m 16 ∧ getF t (OE_STRAND_STALE r l) = 0))
    ∧ (r.val < 24 → Goes (exec (.marginEstimate r ms) s) (fun t => (∀ l m, l < 18 → ms[l]? = some m → getF t (OE_STRAND_RX_MARGIN r l) = wrapN m 16)
        ∧ (lightGet t r).reports = ((lightGet s r).reports + 1) % 65536 ∧ t.mem = s.mem
        ∧ ∃ f, f ∈ (ropeGet t r).out ++ (ropeGet t r).sent ∧ f.vq = 0 ∧ bodyF f.body 0 1 = 7 ∧ ∀ l, l < 18 → bodyF f.body (2 + 2 * l) 2 = wrapN (ms.getD l 0) 16))
    ∧ (∀ b, (lightGet s r).bring = some b →
      (1 ≤ b.phase → b.phase ≤ 5 → Does (.spareBringupPhase r) s [OE_LAS_BIAS r b.lam, ringAdr (modRing r b.lam)] (fun t =>
        (lightGet t r).bring = some { b with phase := b.phase + 1 } ∧ (b.phase = 5 → lasState t r b.lam = 3)
        ∧ (b.phase = 2 → getF t (OE_LAS_BIAS_BIAS r b.lam) = getF s (OE_LAS_BIAS_SAVED_BIAS r b.lam))
        ∧ (b.phase = 4 → getF t (ringF (modRing r b.lam) 14 14) = 1 ∧ getF t (ringF (modRing r b.lam) 44 40) = b.lam % 32)))
      ∧ (1 ≤ b.phase → b.phase ≤ 5 → b.lam < lamCount r → Goes (exec (.sparePhaseTimeout r) s) (fun t => lasState t r b.lam = 5
        ∧ Reported s t 0x0603 (optMask r) ∧ t.mem = s.mem ∧ t.ropes = s.ropes))
      ∧ (5 < b.phase → Nothing (.spareBringupPhase r) s ∧ Nothing (.sparePhaseTimeout r) s))
    ∧ (getF s (OE_STS_STATE k) = 4 → Goes (exec (.openLoopLimit k) s) (fun t => getF t (OE_STS_STATE k) = 6 ∧ getF t (OE_STS_LAST_OL_US k) = 20000 ∧ t.mem = s.mem
        ∧ (∀ q, q < 24 → ropeOe q = k → ropeState s q ≠ 0 → ropeState t q = 1) ∧ ∃ z, z ∈ t.reports ∧ z.cause = 0x0106 ∧ z.mask = 2 ^ (k.val / 2)))
    ∧ (getF s (OE_STS_STATE k) ≠ 4 → Nothing (.openLoopLimit k) s)
    ∧ (Takes s (OE_CMD k) cmd →
      (restarting s (2 + k) = true → Waits (.migrate k st) s (OE_CMD_STATUS k))
      ∧ (restarting s (2 + k) = false →
        (getF s (OE_STS_STATE k) ≠ 3 ∨ 54 ≤ st.val ∨ strandLogical s y (st.val % 18) = none ∨ freeSpare s y = none → Answers (.migrate k st) s (OE_CMD_STATUS k) 3)
        ∧ (∀ i j, getF s (OE_STS_STATE k) = 3 → st.val < 54 → strandLogical s y (st.val % 18) = some i → freeSpare s y = some j →
          Goes (exec (.migrate k st) s) (fun t => getF t (OE_CMD_STATUS k) = 2 ∧ Flagged s t (optEvt k 1) ∧ t.mem = s.mem
            ∧ ((lightGet s y).bring = none → (lightGet s y).want = [] → (lightGet t y).bring = some ⟨j, i, 1, false⟩ ∧ lasState t y j = 2)))))

/-- R227-R229, R232-R234, R237: the code of a ring follows its table and corrections; tracking shows the detuning and moves the correction by one step; a code that is out
of range fails the ring; a calibration marks what it covers, and at its end each part takes its new value, or keeps the old one and is reported. -/
def Obligations.RingsAndCalibration : Prop :=
  ∀ (s : State) (g : Fin 5012) (r : Fin 34) (u : Fin 9) (k : Fin 8) (i : Fin 4) (track : Int) (move : Bool) (p : CalPart),
    let reg := ringAdr g
    let raw := ringRaw s g
    let d := max (-128) (min 127 track)
    let pc := sextN (getF s (ringF g 63 48)) 16 + (if move then (if 0 < d then 1 else if d < 0 then -1 else 0) else 0)
    let drift := if g.val < 864 then getF s OE_CAL_CTL_DRIFT else bitsOf (rd s PI_CAL_CTL) 15 8
    let c : CalX := ⟨ringRope g, some g, false⟩
    let begun (x : CalX) (t : State) : Prop := calGet t (optUnit x.rope) = some x ∧ Marked t x 1 ∧ t = { s with regs := t.regs, opt := t.opt }
    (RingActs s g → Does (.ringControl g) s [reg] (fun t => getF t (ringF g 13 0) = (max 0 (min 16383 raw)).toNat ∧ t = { s with regs := t.regs }))
    ∧ (¬ RingActs s g → Nothing (.ringControl g) s)
    ∧ (getF s (ringF g 14 14) = 1 → getF s (ringF g 47 47) = 0 → optActs s (ringRope g) = true → Goes (exec (.ringTrack g track move) s) (fun t =>
        (getF s (ringF g 46 46) = 0 → getF t (ringF g 39 32) = wrapN d 8 ∧ getF t (ringF g 63 48) = wrapN pc 16)
        ∧ (getF s (ringF g 46 46) = 1 → getF t (ringF g 39 32) = getF s (ringF g 39 32) ∧ getF t (ringF g 63 48) = getF s (ringF g 63 48))
        ∧ (30 < d.natAbs → getF t (ringF g 45 45) = 1) ∧ t = { s with regs := t.regs, opt := t.opt }))
    ∧ (getF s (ringF g 14 14) = 0 ∨ getF s (ringF g 47 47) = 1 ∨ optActs s (ringRope g) = false → Nothing (.ringTrack g track move) s)
    ∧ (getF s (ringF g 15 15) = 1 → getF s (ringF g 47 47) = 0 → raw < 0 ∨ 16383 < raw → Goes (exec (.ringFailure g) s) (fun t => getF t (ringF g 47 47) = 1
        ∧ ∀ q l, ringStrand s g = some (q, l, true) → lasLit s q l = true → l < lamCount q → lasState t q l = 5))
    ∧ (getF s (ringF g 15 15) = 0 ∨ getF s (ringF g 47 47) = 1 ∨ (0 ≤ raw ∧ raw ≤ 16383) → Nothing (.ringFailure g) s)
    ∧ (optActs s r = true → calGet s (optUnit r) = none → Goes (exec (.calibration r) s) (begun ⟨r, none, false⟩))
    ∧ (optActs s r = false ∨ calGet s (optUnit r) ≠ none → Nothing (.calibration r) s)
    ∧ (optActs s c.rope = true → calGet s (optUnit c.rope) = none → 100 * drift < 76 * (sextN (getF s (ringF g 63 48)) 16).natAbs →
      Goes (exec (.driftTrigger g) s) (begun c))
    ∧ (76 * (sextN (getF s (ringF g 63 48)) 16).natAbs ≤ 100 * drift → Nothing (.driftTrigger g) s)
    ∧ (∀ x, calGet s u = some x → x.rope < 34 → (∀ q, x.ring = some q → q < 5012) →
      (calHeld s x = true → Nothing (.calibrationComplete u [p]) s)
      ∧ (calHeld s x = false → Goes (exec (.calibrationComplete u []) s) (fun t => calGet t u = none ∧ Marked t x 0 ∧ t.mem = s.mem
        ∧ (x.cmd = true → u.val < 8 → getF t (OE_CMD_STATUS u) = 2)))
      ∧ (calHeld s x = false → Goes (exec (.calibrationComplete u [p]) s) (fun t => calGet t u = none ∧ t.mem = s.mem
        ∧ (partGood p = true → p.kind = .ringEngaged ∨ p.kind = .ringParked →
          getF t (ringF (if u.val < 8 then 108 * u + p.index % 108 else 864 + p.index % 4148) 31 16) = wrapN p.run2 16)
        ∧ (partGood p = true → p.kind = .laserWave → getF t (OE_LAS_BIAS_SAVED_HTR x.rope (p.index % lamCount x.rope)) = wrapN p.run2 16)
        ∧ (partGood p = false → Flagged s t (optEvt u 5) ∧ Reported s t 0x0601 (optMask x.rope)))))
    ∧ (calGet s u = none → Nothing (.calibrationComplete u [p]) s)
    ∧ (Takes s (OE_CMD k) (cmdWord [(OE_CMD_OP k, 1), (OE_CMD_ROPE k, i.val)]) →
      (restarting s (2 + k) = true → Waits (.calibrate k i) s (OE_CMD_STATUS k))
      ∧ (restarting s (2 + k) = false → getF s (OE_STS_STATE k) ≠ 3 ∨ i.val = 3 → Answers (.calibrate k i) s (OE_CMD_STATUS k) 3)
      ∧ (restarting s (2 + k) = false → getF s (OE_STS_STATE k) = 3 → i.val < 3 → calGet s k = none → Goes (exec (.calibrate k i) s) (fun t =>
        getF t (OE_CMD_STATUS k) = 1 ∧ begun ⟨oeRope k i, none, true⟩ t)))

/-- R244-R248: a re-direction joins the queue, or is refused when that holds 16; the head of the queue is refused for its first reason or started, and when it completes
its ropes are steered where it says and no others. -/
def Obligations.Steering : Prop :=
  ∀ (s : State) (cfg : Fin 8) (mask : Fin 1024) (n : Fin 16),
    let w := cmdWord [(PI_STEER_CMD_OP, 1), (PI_STEER_CMD_CFG, cfg.val), (PI_STEER_CMD_MASK, mask.val)]
    let w' := cmdWord [(PI_STEER_CMD_OP, 2), (PI_STEER_CMD_MASK, mask.val)]
    let room := s.opt.steerQ.length < 16
    let joins (t : State) (q : SteerReq) : Prop := t.opt = { s.opt with
      fires := t.opt.fires
      steerQ := s.opt.steerQ ++ [q] } ∧ getF t PI_STEER_STS_QUEUED = s.opt.steerQ.length + 1
    let answer (t : State) (st r : Nat) : Prop := getF t PI_STEER_CMD_STATUS = st ∧ getF t PI_STEER_CMD_REASON = r
    let spliced (q : SteerReq) := ∃ rho, rho < 10 ∧ bitN q.mask rho = 1 ∧ getF s (OE_ROPE_STS_SPLICE (24 + rho)) = 1
    (Takes s PI_STEER_CMD w → (room → Does (.redirect cfg mask) s [PI_STEER_CMD, PI_STEER_STS] (fun t => getF t PI_STEER_CMD_STATUS = 1 ∧ joins t ⟨.cmd, some cfg, 0, mask⟩))
      ∧ (¬ room → Does (.redirect cfg mask) s [PI_STEER_CMD] (fun t => answer t 3 4 ∧ t.opt = s.opt)))
    ∧ (Takes s PI_STEER_CMD w' → (room → Does (.home mask) s [PI_STEER_CMD, PI_STEER_STS] (fun t => getF t PI_STEER_CMD_STATUS = 1 ∧ joins t ⟨.cmd, some 0, 0, mask⟩))
      ∧ (¬ room → Does (.home mask) s [PI_STEER_CMD] (fun t => answer t 3 4 ∧ t.opt = s.opt)))
    ∧ (n.val ∈ s.opt.fires → Goes (exec (.steerTrigger n) s) (fun t => getF t (PI_STEER_TRIG_FIRED n) = (getF s (PI_STEER_TRIG_FIRED n) + 1) % 2 ^ 16
        ∧ t.opt.fires.length + 1 = s.opt.fires.length ∧ t.mem = s.mem
        ∧ (room → joins t ⟨.trig n, some (getF s (PI_STEER_TRIG_CFG n)), 0, getF s (PI_STEER_TRIG_MASK n)⟩ ∧ SameRegs s t [PI_STEER_TRIG n, PI_STEER_STS])
        ∧ (¬ room → t.opt.steerQ = s.opt.steerQ ∧ Flagged s t PI_EVT_STEER_REFUSED ∧ Reported s t 0x0604 0)))
    ∧ (n.val ∉ s.opt.fires → Nothing (.steerTrigger n) s)
    ∧ (∀ q rest, s.opt.steering = none → s.opt.steerQ = q :: rest →
      (hubGone s = true ∨ restarting s 1 = true ∨ spliced q → Nothing .redirectionStart s)
      ∧ (hubGone s = false → restarting s 1 = false → ¬ spliced q →
        (steerRefusal s q = none → Does .redirectionStart s [PI_STEER_STS] (fun t => getF t PI_STEER_STS_BUSY = 1 ∧ t.opt = { s.opt with
          steerQ := rest
          steering := some { q with
            cfg := none
            dest := reqDest s q } }))
        ∧ (∀ r, steerRefusal s q = some r → q.src = .cmd → Does .redirectionStart s [PI_STEER_STS, PI_STEER_CMD] (fun t => answer t 3 r ∧ t.opt = { s.opt with steerQ := rest }))
        ∧ (∀ r, steerRefusal s q = some r → q.src = .trig n → Does .redirectionStart s (PI_STEER_STS :: flagRegs PI_EVT_STEER_REFUSED) (fun t =>
          Flagged s t PI_EVT_STEER_REFUSED ∧ Reported s t 0x0604 0 ∧ t.opt = { s.opt with steerQ := rest }))))
    ∧ (∀ q, s.opt.steering = some q → Nothing .redirectionStart s ∧ Goes (exec .redirectionComplete s) (fun t => t.opt.steering = none ∧ getF t PI_STEER_STS_BUSY = 0
        ∧ (∀ rho, rho < 10 → bankOf t rho = if bitN q.mask rho = 1 then destIn (reqDest s q) rho else bankOf s rho) ∧ (q.src = .cmd → answer t 2 0) ∧ t.mem = s.mem))
    ∧ (s.opt.steering = none → Nothing .redirectionComplete s ∧ (s.opt.steerQ = [] → Nothing .redirectionStart s))

/-- R250-R259: OPEN is refused for its first reason, or the session is OPENING and its ropes are parked through the queue; it becomes OPEN or DIGITAL once steered and
calibrated; GO follows READY and the free slots; a slot is written once, and nothing else of memory; a gain out of range is not applied and meets the fallback;
CLOSE drains the session. -/
def Obligations.AnalogReduction : Prop :=
  ∀ (s : State) (i j : Fin 16) (addr : BitVec 52) (cal : List AorCal) (gains : List Nat) (adc : List Int) (off : Int),
    let cmd := PI_AOR_CMD
    let st (t : State) := getF t (PI_AOR_STS_STATE i)
    let answer (t : State) (v r : Nat) : Prop := getF t PI_AOR_CMD_STATUS = v ∧ getF t PI_AOR_CMD_REASON = r
    let pa := 64 * (addr.toNat / 64)
    let a0 := AorX.ofRaw (leVal (readBytes s pa 128))
    let a1 : AorX := if a0.mode = 2 then a0 else { a0 with home := a0.ropes.map (fun rho => (rho, bankOf s rho)) }
    let room := s.opt.steerQ.length < 16
    let gone (a a' : AorX) : Prop := a' = { a with
      ready := a'.ready
      go := a'.go } ∧ a'.go = max a.go (min (((List.range a.sources).map (fun q => a'.ready.getD q 0)).foldl min 0xFFFFFFFF)
        (a.go + (a.slots - (a.go + 2 ^ 32 - aorHead s a) % 2 ^ 32)))
    let good (g : Nat) : Prop := 16384 ≤ g ∧ g ≤ 65535
    (Takes s cmd (cmdWord [(PI_AOR_CMD_OP, 1), (PI_AOR_CMD_SESS, i.val), (PI_AOR_CMD_ADDR, addr.toNat / 64)]) →
      (restarting s 1 = true → Waits (.aorOpen i addr) s PI_AOR_CMD_STATUS)
      ∧ (restarting s 1 = false → Readable s pa →
        (∀ w, aorRefusal s i a0 = some w → Does (.aorOpen i addr) s [cmd] (fun t => answer t 3 w ∧ t.opt = s.opt))
        ∧ (aorRefusal s i a0 = none → a0.mode = 2 ∨ room → Does (.aorOpen i addr) s [cmd, PI_AOR_STS i 0, PI_AOR_STS i 1, PI_AOR_CHK i, PI_STEER_STS] (fun t =>
          st t = 1 ∧ answer t 1 0 ∧ getF t (PI_AOR_STS_RX i) = a0.rx ∧ getF t (PI_AOR_STS_NSRC i) = a0.sources ∧ getF t (PI_AOR_STS_DONE i) = 0 ∧ getF t (PI_AOR_STS_PEND i) = 0
          ∧ aorGet t i = some a1 ∧ t.opt.steerQ = s.opt.steerQ ++ if a0.mode = 2 then [] else [⟨.aorOpen i, none, aorParked s a0, ropeMask a0.ropes⟩]))
        ∧ (aorRefusal s i a0 = none → a0.mode ≠ 2 → ¬ room → Goes (exec (.aorOpen i addr) s) (fun t => st t = 0 ∧ answer t 3 5 ∧ aorGet t i = none ∧ t.mem = s.mem))))
    ∧ (Takes s cmd (cmdWord [(PI_AOR_CMD_OP, 2), (PI_AOR_CMD_SESS, i.val)]) → restarting s 1 = false →
      (st s = 2 ∨ st s = 3 → Goes (exec (.aorClose i) s) (fun t => st t = 4 ∧ getF t PI_AOR_CMD_STATUS = 1 ∧ t.mem = s.mem))
      ∧ (st s ≠ 2 → st s ≠ 3 → Does (.aorClose i) s [cmd] (fun t => answer t 3 8 ∧ t.opt = s.opt)))
    ∧ (∀ a, aorGet s i = some a →
      (st s = 1 → a.mode = 2 ∨ a.steered = true →
        (aorSpanOk s a = true → a.mode = 2 → Does (.aorOpenComplete i cal) s [cmd, PI_AOR_STS i 0] (fun t => st t = 3 ∧ answer t 2 0 ∧ aorGet t i = some { a with digital := some 0 }))
        ∧ (aorSpanOk s a = true → a.mode ≠ 2 → cal.length = a.sources → cal.all calGood = true → Goes (exec (.aorOpenComplete i cal) s) (fun t => st t = 2 ∧ answer t 2 0
          ∧ (∀ q c, cal[q]? = some c → getF t (PI_AOR_SRC_GAIN i q) = c.gain2 ∧ getF t (PI_AOR_SRC_STALE i q) = 0) ∧ t = { s with regs := t.regs }))
        ∧ (aorSpanOk s a = true → a.mode ≠ 2 → ¬ (cal.length = a.sources ∧ cal.all calGood = true) → Goes (exec (.aorOpenComplete i cal) s) (fun t =>
          st t = 0 ∧ answer t 3 9 ∧ Reported s t 0x0601 0 ∧ getF t (optEvt 8 5) = 1 ∧ t.mem = s.mem))
        ∧ (aorSpanOk s a = false → Goes (exec (.aorOpenComplete i cal) s) (fun t => st t = 0 ∧ answer t 3 3 ∧ t.mem = s.mem)))
      ∧ (st s ≠ 1 → Nothing (.aorOpenComplete i cal) s)
      ∧ (j.val < a.sources → a.ready.getD j 0 < a.nextK.getD j 0 → a.ready.length = 16 → Does (.aorReady i j) s [] (fun t =>
        ∃ a', aorGet t i = some a' ∧ a'.ready = listPut a.ready j (a.ready.getD j 0 + 1) ∧ gone a a'))
      ∧ (a.nextK.getD j 0 ≤ a.ready.getD j 0 → Nothing (.aorReady i j) s)
      ∧ Does (.aorHeadReread i) s [] (fun t => ∃ a', aorGet t i = some a' ∧ a'.ready = a.ready ∧ gone a a')
      ∧ (let k := getF s (PI_AOR_STS_DONE i)
        let slot := storePa a.die a.dstBrick (a.ring + 192 * (k % a.slots))
        let cs := a.contribs.flatten.filter (fun c => c.k == k)
        let sum (e : Nat) : V := if cs.any (fun c => c.poison.getD e false) then .nan else digitalOf (cs.map (fun c => c.el.getD e 0))
        let due := k < a.go ∨ (st s = 4 ∧ ∃ l c, l ∈ a.contribs ∧ c ∈ l ∧ c.k = k)
        (due → Goes (exec (.aorSlot i adc off) s) (fun t => getF t (PI_AOR_STS_DONE i) = (k + 1) % 2 ^ 32 ∧ SameMem s t (within slot 192)
          ∧ (∃ a', aorGet t i = some a' ∧ ∀ l c, l ∈ a'.contribs → c ∈ l → c.k ≠ k)
          ∧ t.knotOps = s.knotOps ++ (if (k + 1) % a.every = 0 then [⟨.engine a.die, a.knot, .arrive, false, false, 0, 0⟩] else [])
          ∧ (Writable s slot → readLE t (slot + 128) 4 = k)
          ∧ (∀ d e, Writable s slot → a.digital = some d → d ≤ k → e < 32 → readLE t (slot + 4 * e) 4 = encFloat .f32 (sum e))))
        ∧ (¬ due → Nothing (.aorSlot i adc off) s))
      ∧ (st s = 2 → (∀ g, g ∈ gains.take a.sources → good g) → Goes (exec (.aorGainCalibration i gains) s) (fun t => t = { s with regs := t.regs }
        ∧ ∀ q g, q < a.sources → gains[q]? = some g → getF t (PI_AOR_SRC_GAIN i q) = g ∧ getF t (PI_AOR_SRC_STALE i q) = 0))
      ∧ (st s = 2 → (∃ g, g ∈ gains.take a.sources ∧ ¬ good g) → Goes (exec (.aorGainCalibration i gains) s) (fun t => getF t (optEvt 8 5) = 1
        ∧ (a.mode = 3 → st t = 3 ∧ ∃ a', aorGet t i = some a' ∧ a'.digital = some a.go) ∧ (a.mode ≠ 3 → st t = 0 ∧ getF t (PI_AOR_STS_END i) = 5)))
      ∧ (st s ≠ 2 → Nothing (.aorGainCalibration i gains) s)
      ∧ (st s = 4 → a.contribs.all (·.isEmpty) = true → a.steered = false → (∀ rho, rho ∈ a.ropes → a.mode = 2 ∨ ropeState s (24 + rho) = 3) →
        Does (.aorCloseComplete i) s [cmd, PI_AOR_STS i 0] (fun t => st t = 0 ∧ getF t (PI_AOR_STS_END i) = 1 ∧ aorGet t i = none
          ∧ (getF s PI_AOR_CMD_STATUS = 1 → getF s PI_AOR_CMD_SESS = i → getF s PI_AOR_CMD_OP = 2 → answer t 2 0))))
    ∧ (aorGet s i = none → Nothing (.aorOpenComplete i cal) s ∧ Nothing (.aorReady i j) s ∧ Nothing (.aorHeadReread i) s ∧ Nothing (.aorSlot i adc off) s
      ∧ Nothing (.aorGainCalibration i gains) s ∧ Nothing (.aorCloseComplete i) s)

namespace Sys2Proof.Claims
open Machine

/-- R266: a good flit of this type reaches a receiver that takes flits, and its check is not injected. -/
def FlitIn (s : State) (r : Nat) (f : BitVec 2048) (type : Nat) : Prop :=
  takesFlits s r = true ∧ flitGood f = true ∧ flitF f 3 0 = type ∧ injSlot s 5 (if r < 24 then r + 1 else 0x100 + (r - 24)) = none

/-- R269: the number of a sequenced flit: its own where it is sent again, else the one its low bits complete. -/
def flitSeq (x : RopeX) (f : BitVec 2048) : Nat :=
  if flitF f 4 4 = 1 then flitF f 16 5 else (x.count + (flitF f 10 5 + 64 - x.count % 64) % 64) % 4096

/-- Only registers, ropes and what has arrived on them change. -/
def LinkOnly (s t : State) : Prop := t = { s with
  regs := t.regs
  ropes := t.ropes
  net := t.net }

/-- R274: the oldest link control body that a rope has received is of this kind. -/
def Ctl (s : State) (r kind : Nat) (b : List Byte) (rest : List (List Byte)) : Prop := (ropeGet s r).lctl = b :: rest ∧ bodyF b 0 1 = kind

/-- No body of this kind is at the front. -/
def NoCtl (s : State) (r kind : Nat) : Prop := ∀ b rest, (ropeGet s r).lctl = b :: rest → bodyF b 0 1 ≠ kind

/-- R274, R275: a link control body is on its way to the other end. -/
def SentCtl (t : State) (r : Nat) (b : List Byte) : Prop :=
  if r < 24 then ∃ f, f ∈ (ropeGet t r).out ++ (ropeGet t r).sent ∧ f.vq = 0 ∧ f.body = b else b ∈ (ropeGet t r).lctl

end Sys2Proof.Claims


/-- R262, R263, R266-R275: a good flit in order is delivered and E advances, one ahead is held, one seen before is counted; IDLE and ALIGN set the count; a bad flit and an
uncorrectable codeword are lost and counted; replay, acknowledgement and the return path. -/
def Obligations.Flits : Prop :=
  ∀ (s : State) (r : Fin 34) (rho : Fin 10) (k : Fin 5) (f : BitVec 2048),
    let u := flitAck s r f
    let x := ropeGet u r
    let x' (t : State) := ropeGet t r
    let q := flitSeq x f
    let d := (q + 4096 - x.e) % 4096
    let body := flitBytes f 8 240
    let counted := x.resync = false ∧ x.slots ≤ 63
    let seqd := flitF f 4 4 = 1 ∨ counted
    let vq := flitF f 18 17
    let both (c : Instr) (lctl : Bool) : Prop := FlitIn s r f (if lctl then 2 else 1) → seqd →
      let v := if lctl then 0 else vq
      (x.held = [] → q = x.e → Goes (exec c s) (fun t => LinkOnly s t ∧ (x' t).e = (x.e + 1) % 4096 ∧ getF t (OE_ROPE_CNT_RX r) = (getF s (OE_ROPE_CNT_RX r) + 1) % 2 ^ 32
        ∧ getF t (OE_ROPE_STS_ACK_TX r) = x.e ∧ (v = 0 → (x' t).lctl = x.lctl ++ [body])
        ∧ (v ≠ 0 → r.val < 24 → let l := x.bufs.getD (v - 1) [] ++ body
          t.net.arrived = u.net.arrived ++ (cutSegs (l.length + 1) l).1.map (fun g => (r.val, v, g)))))
      ∧ (1 ≤ d → d < 512 → (∀ g, g ∈ x.held → g.seq ≠ q ∧ g.seq ≠ x.e) → q ≠ x.e → Goes (exec c s) (fun t => LinkOnly s t ∧ (x' t).e = x.e ∧ (x' t).held = ⟨q, v, body⟩ :: x.held
        ∧ getF t (OE_ROPE_CNT_RX r) = getF s (OE_ROPE_CNT_RX r)))
      ∧ (flitF f 4 4 = 1 → 512 ≤ d ∨ (∃ g, g ∈ x.held ∧ g.seq = q) → Goes (exec c s) (fun t => LinkOnly s t ∧ t.ropes = u.ropes
        ∧ getF t (OE_ROPE_CNT_DUP r) = (getF s (OE_ROPE_CNT_DUP r) + 1) % 2 ^ 16))
    both (.flitData r f) false ∧ both (.flitLctl r f) true
    ∧ (FlitIn s r f 0 → (counted → Goes (exec (.flitIdle r f) s) (fun t => LinkOnly s t ∧ (x' t).count % 64 = flitF f 10 5 ∧ (x' t).slots = 0 ∧ (x' t).e = x.e))
      ∧ (¬ counted → Goes (exec (.flitIdle r f) s) (fun t => LinkOnly s t ∧ (x' t).resync = true ∧ (x' t).count = x.count)))
    ∧ (FlitIn s r f 3 → Goes (exec (.flitAlign r f) s) (fun t => LinkOnly s t ∧ (x' t).count = flitF f 16 5 ∧ (x' t).slots = 0 ∧ (x' t).resync = false ∧ (x' t).e = x.e
        ∧ ((flitBytes f 8 16).headD 0 = 8 → (x' t).rxMap = mapOf (flitBytes f 8 16))))
    ∧ (takesFlits s r = true → flitGood f = false → Does (.flitCrcFail r f) s [OE_ROPE_CNT r 1] (fun t => LinkOnly s t
        ∧ getF t (OE_ROPE_CNT_CRC_FAIL r) = (getF s (OE_ROPE_CNT_CRC_FAIL r) + 1) % 2 ^ 32 ∧ (x' t).slots = (ropeGet s r).slots + 1))
    ∧ (takesFlits s r = false → Nothing (.flitData r f) s ∧ Nothing (.flitLctl r f) s ∧ Nothing (.flitIdle r f) s ∧ Nothing (.flitAlign r f) s ∧ Nothing (.flitCrcFail r f) s)
    ∧ Does (.uncorrectableCodeword r k) s [OE_ROPE_CNT r 2] (fun t => LinkOnly s t ∧ getF t (OE_ROPE_CNT_UNCORR r) = (getF s (OE_ROPE_CNT_UNCORR r) + 1) % 2 ^ 32
        ∧ (x' t).slots = (ropeGet s r).slots + k)
    ∧ Does (.codewordAlignment r) s [] (fun t => LinkOnly s t ∧ x' t = { ropeGet s r with aligned := true })
    ∧ Does (.ackRefresh r) s [OE_ROPE_STS r] (fun t => LinkOnly s t ∧ (x' t).ret = [0, 0, 0] ∧ getF t (OE_ROPE_STS_ACK_TX r) = ((ropeGet s r).e + 4095) % 4096)
    ∧ (ropeState s r = 3 → (ropeGet s r).sent ≠ [] → Does (.linkReplay r) s (OE_ROPE_CNT r 2 :: flagRegs (OE_ROPE_EVT_REPLAY r)) (fun t => Flagged s t (OE_ROPE_EVT_REPLAY r)
        ∧ getF t (OE_ROPE_CNT_REPLAYS r) = (getF s (OE_ROPE_CNT_REPLAYS r) + 1) % 2 ^ 16 ∧ t = { s with regs := t.regs }))
    ∧ (ropeState s r ≠ 3 ∨ (ropeGet s r).sent = [] → Nothing (.linkReplay r) s)
    ∧ (pairOf s rho = none → Goes (exec (.returnFrame rho) s) (fun t => LinkOnly s t
        ∧ getF t (OE_ROPE_STS_ACK_RX (24 + rho)) = ((ropeGet s (24 + rho)).e + 4095) % 4096))
    ∧ (pairOf s rho ≠ none → Nothing (.returnFrame rho) s)

/-- R278-R280, R284, R293, R299: what starts a retrain, the phases of training and their failure, HELLO, and the rope commands. -/
def Obligations.RopeTraining : Prop :=
  ∀ (s : State) (r : Fin 34) (ask : Bool),
    let x := ropeGet s r
    let x' (t : State) := ropeGet t r
    let st := ropeState s r
    let st' (t : State) := ropeState t r
    let training := st = 2 ∨ st = 4
    let cmd (op : Nat) := cmdWord [(OE_ROPE_CMD_OP r, op)]
    let retrains (t : State) : Prop := st' t = 4 ∧ (x' t).phase = 1 ∧ getF t (OE_ROPE_STS_ATTEMPT r) = 0 ∧ t.mem = s.mem
      ∧ getF t (OE_ROPE_CNT_RETRAINS r) = (getF s (OE_ROPE_CNT_RETRAINS r) + 1) % 2 ^ 16 ∧ Flagged s t (OE_ROPE_EVT_RETRAIN r)
    let trains (t : State) : Prop := st' t = 2 ∧ (x' t).phase = 2 ∧ getF t (OE_ROPE_STS_ATTEMPT r) = 0
    (st ≠ 3 → Nothing (.retrainTrigger r ask) s)
    ∧ (st = 3 → Goes (exec (.retrainTrigger r false) s) retrains)
    ∧ (mayChange s r = true → Goes (exec (.retrainTrigger r true) s) (fun t => st' t = 3 ∧ (x' t).asked = some ⟨1, true, 0, 0, 0, x.num⟩ ∧ (x' t).num = (x.num + 1) % 2 ^ 32
        ∧ SentCtl t r (changeReq ⟨1, true, 0, 0, 0, x.num⟩) ∧ t.mem = s.mem))
    ∧ (mayChange s r = false → Nothing (.retrainTrigger r true) s)
    ∧ (training →
      (x.phase = 1 → Does (.trainingPhase r) s [] (fun t => x' t = { x with phase := 2 }))
      ∧ (x.phase = 2 → Does (.trainingPhase r) s [] (fun t => x' t = { x with
          phase := 3
          aligned := true }))
      ∧ (x.phase = 3 → Goes (exec (.trainingPhase r) s) (fun t => (x' t).phase = 4 ∧ SentCtl t r (helloBody s r) ∧ st' t = st ∧ t.mem = s.mem))
      ∧ (x.phase = 4 → x.hello = true → Does (.trainingPhase r) s [] (fun t => x' t = { x with phase := 5 }))
      ∧ (x.phase = 4 → x.hello = false → Nothing (.trainingPhase r) s)
      ∧ (x.phase = 5 → Goes (exec (.trainingPhase r) s) (fun t => st' t = 3 ∧ (x' t).phase = 0 ∧ (x' t).change = none ∧ getF t (OE_ROPE_STS_ATTEMPT r) = 0 ∧ t.mem = s.mem))
      ∧ (getF s (OE_ROPE_STS_ATTEMPT r) < 2 → Does (.trainingAttemptTimeout r) s [OE_ROPE_STS r] (fun t => st' t = st ∧ (x' t).phase = 2 ∧ (x' t).hello = false
        ∧ getF t (OE_ROPE_STS_ATTEMPT r) = getF s (OE_ROPE_STS_ATTEMPT r) + 1))
      ∧ (getF s (OE_ROPE_STS_ATTEMPT r) = 2 → Goes (exec (.trainingAttemptTimeout r) s) (fun t => st' t = 1 ∧ (x' t).phase = 0 ∧ getF t (OE_ROPE_EVT_DOWN r) = 1 ∧ t.mem = s.mem
        ∧ ∃ z, z ∈ t.reports ∧ z.cause = 0x0701)))
    ∧ (¬ training → Nothing (.trainingPhase r) s ∧ Nothing (.trainingAttemptTimeout r) s ∧ Nothing (.hello r) s)
    ∧ (st = 1 → Does (.lightDetected r) s [OE_ROPE_STS r] trains) ∧ (st ≠ 1 → Nothing (.lightDetected r) s)
    ∧ (∀ b rest, training → Ctl s r 1 b rest →
      let uid := bodyF b 8 8
      let old := (rd s (OE_ROPE_PEER r 0)).toNat
      let moved := r.val < 24 ∧ st = 4 ∧ (bodyF b 16 1 % 16 ≠ getF s (OE_ROPE_PEER_RANK r) ∨ bodyF b 17 1 % 32 ≠ getF s (OE_ROPE_PEER_ROPE r))
      let other := r.val < 24 ∧ old ≠ 0 ∧ old ≠ uid
      (¬ moved → Goes (exec (.hello r) s) (fun t => (x' t).hello = true ∧ (x' t).lctl = rest ∧ st' t = st ∧ t.mem = s.mem
        ∧ (r.val < 24 → (rd t (OE_ROPE_PEER r 0)).toNat = uid ∧ getF t (OE_ROPE_PEER_RANK r) = bodyF b 16 1 % 16 ∧ getF t (OE_ROPE_PEER_ROPE r) = bodyF b 17 1 % 32
          ∧ getF t (OE_ROPE_STS_LEAD r) = b2n (decide (uid < s.hub.fuses.uid)))
        ∧ (other → (x' t).e = 0 ∧ (x' t).next = 0 ∧ (x' t).newPeer = true ∧ getF t (OE_ROPE_EVT_PEER_CHANGED r) = 1)
        ∧ (¬ other → st = 2 → r.val < 24 → (x' t).e = bodyF b 20 2 % 4096 ∧ (x' t).count = bodyF b 20 2 % 4096 ∧ (x' t).credit = [128, 512, 1024])))
      ∧ (moved → getF s (OE_ROPE_STS_ATTEMPT r) < 2 → Goes (exec (.hello r) s) (fun t => st' t = st ∧ (x' t).phase = 2 ∧ (x' t).hello = false ∧ t.mem = s.mem
        ∧ getF t (OE_ROPE_STS_ATTEMPT r) = getF s (OE_ROPE_STS_ATTEMPT r) + 1)))
    ∧ (NoCtl s r 1 → Nothing (.hello r) s)
    ∧ (Takes s (OE_ROPE_CMD r) (cmd 1) → (st = 3 → Goes (exec (.ropeRetrain r) s) (fun t => getF t (OE_ROPE_CMD_STATUS r) = 2 ∧ retrains t))
      ∧ (st ≠ 3 → Answers (.ropeRetrain r) s (OE_ROPE_CMD_STATUS r) 3))
    ∧ (Takes s (OE_ROPE_CMD r) (cmd 2) → (st ≠ 0 → Goes (exec (.ropeDown r) s) (fun t => getF t (OE_ROPE_CMD_STATUS r) = 2 ∧ st' t = 5 ∧ t.mem = s.mem))
      ∧ (st = 0 → Answers (.ropeDown r) s (OE_ROPE_CMD_STATUS r) 3))
    ∧ (Takes s (OE_ROPE_CMD r) (cmd 3) → (st = 0 → Answers (.ropeUp r) s (OE_ROPE_CMD_STATUS r) 3)
      ∧ (st = 1 ∨ st = 5 → Does (.ropeUp r) s [OE_ROPE_CMD r, OE_ROPE_STS r] (fun t => getF t (OE_ROPE_CMD_STATUS r) = 2 ∧ trains t))
      ∧ (st ≠ 0 → st ≠ 1 → st ≠ 5 → Answers (.ropeUp r) s (OE_ROPE_CMD_STATUS r) 2))

/-- R281-R283, R285: a change is asked for, answered and begun; collisions go to the leading end; a splice mirrors, is found good and is switched; a switch puts a map in
force; a restore is judged; a strand that is lost leaves the map at once. -/
def Obligations.RopeChanges : Prop :=
  ∀ (s : State) (r : Fin 34) (strand : Fin 16) (bad : Fin 65) (cw : Nat),
    let x := ropeGet s r
    let x' (t : State) := ropeGet t r
    let st := ropeState s r
    let st' (t : State) := ropeState t r
    let splice (t : State) := getF t (OE_ROPE_STS_SPLICE r)
    let k1 := (cw + 64) % 2 ^ 32
    (∀ b rest, Ctl s r 2 b rest →
      let c := reqChange b
      (r.val < 24 → x.change.isSome = true ∨ st ≠ 3 → Goes (exec (.changeReq r) s) (fun t => SentCtl t r (changeRsp 2 c.num) ∧ (x' t).change = x.change ∧ st' t = st ∧ (x' t).lctl = rest ∧ t.mem = s.mem))
      ∧ (∀ mine, r.val < 24 → x.change = none → st = 3 → x.asked = some mine → getF s (OE_ROPE_STS_LEAD r) = 1 → Goes (exec (.changeReq r) s) (fun t =>
        SentCtl t r (changeRsp 1 c.num) ∧ (x' t).asked = x.asked ∧ (x' t).change = none ∧ t.mem = s.mem))
      ∧ (r.val < 24 → x.change = none → st = 3 → x.asked = none ∨ getF s (OE_ROPE_STS_LEAD r) = 0 → Goes (exec (.changeReq r) s) (fun t => SentCtl t r (changeRsp 0 c.num) ∧ (x' t).asked = none
        ∧ t.mem = s.mem ∧ (x.asked ≠ none → getF t (OE_ROPE_EVT_COLLISION r) = 1) ∧ (c.kind = 1 → st' t = 4) ∧ (c.kind ≠ 1 → c.kind ≠ 4 → (x' t).change = some c ∧ st' t = 3)))
      ∧ (24 ≤ r.val → Goes (exec (.changeReq r) s) (fun t => SentCtl t r (changeRsp (if x.change.isSome then 2 else 0) c.num) ∧ t.mem = s.mem)))
    ∧ (NoCtl s r 2 → Nothing (.changeReq r) s)
    ∧ (∀ b rest c, Ctl s r 3 b rest → x.asked = some c → bodyF b 8 4 = c.num →
      (bodyF b 1 1 ≠ 0 → Goes (exec (.changeRsp r cw) s) (fun t => (x' t).asked = none ∧ st' t = st ∧ (x' t).change = x.change ∧ (x' t).lctl = rest ∧ t.mem = s.mem))
      ∧ (bodyF b 1 1 = 0 → Goes (exec (.changeRsp r cw) s) (fun t => (x' t).asked = none ∧ t.mem = s.mem ∧ (c.kind = 1 → st = 3 → st' t = 4)
        ∧ (c.kind = 2 → (x' t).change = some c ∧ SentCtl t r ([4, BitVec.ofNat 8 c.strand, BitVec.ofNat 8 c.old, BitVec.ofNat 8 c.new, 0, 0, 0, 0] ++ leBytes 4 k1))
        ∧ (c.kind = 3 → (x' t).change = some c ∧ (x' t).switch = some ⟨true, listPut x.txMap c.strand c.new, k1⟩ ∧ SentCtl t r (switchBody (listPut x.txMap c.strand c.new) k1)))))
    ∧ (NoCtl s r 3 → Nothing (.changeRsp r cw) s)
    ∧ (∀ b, (lightGet s r).bring = some b → b.phase = 6 → mayChange s r = true → let old := x.txMap.getD b.strand 31
      Goes (exec (.spliceRequest r) s) (fun t => (lightGet t r).bring = some { b with phase := 7 } ∧ t.mem = s.mem
        ∧ (x' t).asked = some (if old = 31 then ⟨3, true, b.strand, 31, b.lam, x.num⟩ else ⟨2, true, b.strand, old, b.lam, x.num⟩)))
    ∧ ((lightGet s r).bring = none ∨ mayChange s r = false → Nothing (.spliceRequest r) s)
    ∧ (∀ b rest c, Ctl s r 4 b rest → r.val < 24 → x.change = some c → c.kind = 2 → Does (.spliceStart r) s [] (fun t => (x' t).lctl = rest ∧ (x' t).change = some { c with
        strand := bodyF b 1 1
        old := bodyF b 2 1
        new := bodyF b 3 1 }))
    ∧ (NoCtl s r 4 → Nothing (.spliceStart r) s)
    ∧ (∀ c, x.change = some c → c.kind = 2 →
      Does (.mirroringStart r) s [OE_ROPE_STS r] (fun t => splice t = 1 ∧ t = { s with regs := t.regs })
      ∧ (splice s = 1 → c.tx = false ∨ 24 ≤ r.val → Goes (exec (.newWavelengthGood r cw) s) (fun t => SentCtl t r ([5, 0, 0, 0, 0, 0, 0, 0] ++ leBytes 4 (cw % 2 ^ 32)) ∧ LinkOnly s t))
      ∧ (∀ b rest, Ctl s r 5 b rest → c.tx = true → let m := listPut x.txMap c.strand c.new
        Goes (exec (.spliceReady r cw) s) (fun t => (x' t).switch = some ⟨true, m, k1⟩ ∧ SentCtl t r (switchBody m k1) ∧ LinkOnly s t))
      ∧ (c.tx = true → x.switch = none → Goes (exec (.spliceTimeout r) s) (fun t => (x' t).change = none ∧ splice t = 0 ∧ Flagged s t (OE_ROPE_EVT_SPLICE_FAIL r) ∧ t.mem = s.mem
        ∧ ∀ b, (lightGet s r).bring = some b → b.lam < lamCount r → lasState t r b.lam = 5))
      ∧ (c.tx = false ∨ x.switch ≠ none → Nothing (.spliceTimeout r) s))
    ∧ (x.change = none → Nothing (.mirroringStart r) s ∧ Nothing (.newWavelengthGood r cw) s ∧ Nothing (.spliceTimeout r) s)
    ∧ (NoCtl s r 5 → Nothing (.spliceReady r cw) s)
    ∧ (∀ b rest, Ctl s r 6 b rest → r.val < 24 → Does (.switch r) s [] (fun t => (x' t).lctl = rest ∧ (x' t).switch = some ⟨false, mapOf b, bodyF b 12 4⟩))
    ∧ (NoCtl s r 6 → Nothing (.switch r) s)
    ∧ (∀ w, x.switch = some w → Goes (exec (.switchApply r) s) (fun t => (if w.tx then (x' t).txMap else (x' t).rxMap) = w.map ∧ (x' t).switch = none ∧ t.mem = s.mem
        ∧ ∀ c, x.change = some c → (c.kind = 3 → (x' t).judged = some (w.tx, c.strand)) ∧ (c.kind ≠ 3 → (x' t).change = none ∧ splice t = 0)))
    ∧ (x.switch = none → Nothing (.switchApply r) s)
    ∧ (∀ tx i, x.judged = some (tx, i) →
      (bad.val ≤ 8 → Goes (exec (.widthRestoreCheck r bad cw) s) (fun t => (x' t).judged = none ∧ (x' t).change = none ∧ (x' t).restoreFails = 0 ∧ t.mem = s.mem ∧ st' t = st))
      ∧ (8 < bad.val → Goes (exec (.widthRestoreCheck r bad cw) s) (fun t => (x' t).judged = none ∧ (if tx then (x' t).txMap else (x' t).rxMap).getD i 31 = 31 ∧ t.mem = s.mem
        ∧ (x.restoreFails = 0 → (x' t).restoreFails = 1 ∧ st' t = st) ∧ (x.restoreFails ≠ 0 → st = 3 → st' t = 4))))
    ∧ (x.judged = none → Nothing (.widthRestoreCheck r bad cw) s)
    ∧ (st = 3 → x.rxMap.getD strand 31 ≠ 31 → let m := listPut x.rxMap strand 31
      Goes (exec (.widthDropDetect r strand) s) (fun t => (x' t).rxMap = m ∧ getF t (OE_ROPE_STS_RX15 r) = b2n (decide (mapWidth m < 16)) ∧ t.mem = s.mem
        ∧ st' t = if mapWidth x.rxMap < 16 then 4 else 3))
    ∧ (st ≠ 3 ∨ x.rxMap.getD strand 31 = 31 → Nothing (.widthDropDetect r strand) s)

namespace Sys2Proof.Claims
open Machine

/-- R286, R289, R294: the first segment of this kind has arrived for this package on virtual queue `vq`; `u` is the state without it. -/
def Arrives (s u : State) (kind vq : Nat) (g : Seg) : Prop :=
  let s0 := netMod s (fun n => { n with arrived := n.arrived.filter (fun a => !stray s a.2.2) })
  ∃ r i, firstArrived s0.net.arrived kind = some (r, vq, g, i) ∧ g.viaEn = false ∧ u = netMod s0 (fun n => { n with arrived := listDel n.arrived i })
    ∧ g.srcRank < 16 ∧ g.srcEp < 8 ∧ g.dstEp ≤ 4

/-- The connection of a segment. -/
def connOf (vq : Nat) (g : Seg) : Nat := connIx g.srcRank g.srcEp (vqClass vq)

/-- R286, R289: a sequenced segment belongs to the open connection and its number is new. -/
def InWindow (u : State) (vq : Nat) (g : Seg) : Prop :=
  let i := connOf vq g
  (rxGet u g.dstEp i).isOpen = true ∧ g.gen = getF u (CD_TR_RX_GEN g.dstEp i) ∧ freshRx u g.dstEp i g.tseq = true

/-- The receive registers of a connection. -/
def rxRegs (ep i : Nat) : List Nat := [CD_TR_RX ep i 0, CD_TR_RX ep i 1]

/-- A segment that satisfies `P` waits on, or has been sent on, a connection of this package. -/
def Outgoing (t : State) (ep i : Nat) (P : Seg → Prop) : Prop := ∃ x, x ∈ (txGet t ep i).waiting ++ (txGet t ep i).unacked ∧ P x.seg

/-- R289, R311: the held segment that is delivered next among those that `p` takes; `u` is the state without it. -/
def Delivers (v u : State) (kind : Nat) (p : Seg → Bool) (ep : Nat) (g : Seg) : Prop :=
  ∃ e, v.net.rx.find? (fun e => match nextHeld v e.1 e.2 with | some g => g.kind == kind && p g | none => false) = some e ∧ nextHeld v e.1 e.2 = some g ∧ ep = e.1 / 240
    ∧ u = rxMod v (e.1 / 240) (e.1 % 240) (fun c => { c with held := c.held.filter (fun h => h.tseq != g.tseq) })

/-- Table 9-3: a completion with this status has been written at the tail of a completion queue, and the tail has moved. -/
def Completed (s t : State) (q csn status : Nat) : Prop :=
  let tail := getF s (HP_HQ_CQ_TAIL q)
  (Writable s (cqPa s q tail) → readLE t (cqPa s q tail) 8 = csn % 2 ^ 64 ∧ readLE t (cqPa s q tail + 13) 1 = status) ∧ getF t (HP_HQ_CQ_TAIL q) = (tail + 1) % cqEntries s q

end Sys2Proof.Claims


/-- R286, R289-R291, R294, R297, R144: OPEN starts a generation; a segment of another generation is dropped, one seen before is counted; an acknowledgement frees what it
names; a PUT block is committed, answered or refused; a knot signal acts on its knot; the timers of a connection and an unreachable rank. -/
def Obligations.Transport : Prop :=
  ∀ (s u v : State) (vq : Nat) (g : Seg) (n : Die) (ep : Fin 5) (i : Fin 240) (r : Fin 16),
    let o := g.dstEp
    let k := connOf vq g
    let back (t : State) (kind : Nat) : Prop := Outgoing t o (connIx g.srcRank g.srcEp 2) (fun x => x.kind = kind ∧ x.arg = g.tseq)
    let data := g.body.take (g.body.length - 4)
    let crc := crc32c data = leVal (g.body.drop (g.body.length - 4))
    let j := connIx g.srcRank g.srcEp (g.addr % 3)
    (∀ x, x ∈ [(3, Instr.put), (4, .putNak), (5, .putRefuse), (8, .knotSignalSegment), (9, .heartbeat), (0x0A, .checkpointChunk)] → Arrives s u x.1 vq g →
      ((rxGet u o k).isOpen = false ∨ g.gen ≠ getF u (CD_TR_RX_GEN o k) → exec x.2 s = .next u)
      ∧ ((rxGet u o k).isOpen = true → g.gen = getF u (CD_TR_RX_GEN o k) → freshRx u o k g.tseq = false → Goes (exec x.2 s) (fun t =>
        getF t (CD_TR_RX_DUP o k) = (getF s (CD_TR_RX_DUP o k) + 1) % 2 ^ 16 ∧ SameRegs s t [CD_TR_RX o k 0] ∧ t = { u with regs := t.regs })))
    ∧ (Arrives s u 1 vq g →
      ((rxGet u o k).isOpen = true → g.gen = getF u (CD_TR_RX_GEN o k) → Does .openConn s [CD_TR_RX o k 0] (fun t => getF t (CD_TR_RX_DUP o k) = (getF s (CD_TR_RX_DUP o k) + 1) % 2 ^ 16))
      ∧ ((rxGet u o k).isOpen = false ∨ g.gen ≠ getF u (CD_TR_RX_GEN o k) → Does .openConn s (rxRegs o k) (fun t => rxGet t o k = ⟨true, [], [], true⟩
        ∧ getF t (CD_TR_RX_GEN o k) = g.gen % 2 ^ 16 ∧ getF t (CD_TR_RX_CUM o k) = 0 ∧ rd t (CD_TR_RX o k 1) = 0)))
    ∧ (Arrives s u 2 vq g → let c := connIx g.srcRank g.srcEp (g.arg % 4 % 3)
      (g.gen ≠ getF u (CD_TR_TX_GEN o c) → exec .ack s = .next u)
      ∧ (g.gen = getF u (CD_TR_TX_GEN o c) → (∀ x, x ∈ (txGet u o c).unacked → x.eng = none) → (txGet u o c).waiting = [] → Does .ack s [CD_TR_TX o c 0, CD_TR_TX o c 1] (fun t =>
        getF t (CD_TR_TX_ACKED o c) = bodyF g.body 0 4 ∧ (txGet t o c).unacked = (txGet u o c).unacked.filter (fun x => !ackNames (bodyF g.body 0 4) (bodyF g.body 4 8) x.seg.tseq)))
      ∧ (∀ x y, g.gen = getF u (CD_TR_TX_GEN o c) → (txGet u o c).unacked = [x] → (txGet u o c).waiting = [] → ackNames (bodyF g.body 0 4) (bodyF g.body 4 8) x.seg.tseq = true →
        ∀ e : Fin 64, x.eng = some (n.val, e.val) → engGet u n e = some y → y.leg = .toPkg → y.d.dstA + getF u (CD_DMA_ENG_POS n e) = x.seg.addr →
        y.d.blockEnd (getF u (CD_DMA_ENG_POS n e)) < min y.d.len (2 ^ 40) → Goes (exec .ack s) (fun t => (txGet t o c).unacked = [] ∧ engGet t n e = some { y with
          taken := []
          bad := 0
          leg := .build } ∧ getF t (CD_DMA_ENG_POS n e) = y.d.blockEnd (getF u (CD_DMA_ENG_POS n e)) ∧ t.mem = s.mem)))
    ∧ (Arrives s u 3 vq g → InWindow u vq g →
      (o = 4 → Does .put s (rxRegs o k) (fun t => (rxGet t o k).due = true))
      ∧ (o < 4 → ¬ crc → Goes (exec .put s) (fun t => back t 4 ∧ t.mem = s.mem))
      ∧ (o < 4 → crc → commitPut u o (g.arg % 256) g.addr data false = .done v → Goes (exec .put s) (fun t => t.mem = v.mem ∧ SameRegs v t (rxRegs o k) ∧ (rxGet t o k).due = true))
      ∧ (o < 4 → crc → commitPut u o (g.arg % 256) g.addr data false = .refused → Goes (exec .put s) (fun t => back t 5 ∧ (rxGet t o k).due = true ∧ t.mem = s.mem))
      ∧ (o < 4 → crc → commitPut u o (g.arg % 256) g.addr data false = .wait → Nothing .put s))
    ∧ (InWindow u vq g →
      (Arrives s u 4 vq g → putEng u o j g.arg = none → Does .putNak s (rxRegs o k) (fun t => (rxGet t o k).due = true))
      ∧ (∀ (e : Fin 64) y, Arrives s u 4 vq g → putEng u o j g.arg = some (n.val, e.val) → engGet u n e = some y → (y.bad < 7 → Goes (exec .putNak s) (fun t =>
          engGet t n e = some { y with bad := y.bad + 1 } ∧ getF t (CD_DMA_ENG_RESENT n e) = min (getF u (CD_DMA_ENG_RESENT n e) + 1) (2 ^ 12 - 1) ∧ t.mem = s.mem))
        ∧ (7 ≤ y.bad → Goes (exec .putNak s) (fun t => getF t (CD_DMA_ENG_STATE n e) = 3 ∧ getF t (CD_DMA_ENG_KIND n e) = 6 ∧ t.mem = s.mem)))
      ∧ (Arrives s u 5 vq g → putEng u o j g.arg = none → Does .putRefuse s (rxRegs o k) (fun t => (rxGet t o k).due = true))
      ∧ (∀ (e : Fin 64) y, Arrives s u 5 vq g → putEng u o j g.arg = some (n.val, e.val) → engGet u n e = some y → y.leg = .toPkg → Goes (exec .putRefuse s) (fun t =>
        getF t (CD_DMA_ENG_STATE n e) = 3 ∧ getF t (CD_DMA_ENG_KIND n e) = 7 ∧ t.mem = s.mem))
      ∧ (Arrives s u 8 vq g → let h := g.arg % 2 ^ 16
        let d := if o = 4 then 0 else o
        (pkgHandle s h = true → Does .knotSignalSegment s (rxRegs o k) (fun t => t.knotOps = s.knotOps ++ [⟨.engine 4, h, .signal, false, false, 0, 0⟩]))
        ∧ (pkgHandle s h = false → Does .knotSignalSegment s (rxRegs o k) (fun t => Reported s t 0x0303 (2 ^ d) ∧ t.knotOps = s.knotOps))))
    ∧ ((rxGet s ep i).due = false ∨ copies s ep (i.val / 15) 0 = none → Nothing (.transportAckTimer ep i) s)
    ∧ ((rxGet s ep i).due = true → copies s ep (i.val / 15) 0 ≠ none → Goes (exec (.transportAckTimer ep i) s) (fun t => (rxGet t ep i).due = false ∧ LinkOnly s t ∧ t.net.tx = s.net.tx))
    ∧ Goes (exec (.transportTimeout ep i) s) (fun t => LinkOnly s t ∧ (txGet t ep i).unacked.map (·.seg.tseq) = (txGet s ep i).unacked.map (·.seg.tseq)
        ∧ ∀ x, x ∈ (txGet t ep i).unacked → x.seg.resent = true ∨ x.ropes = [])
    ∧ (let due := rankPresent s r = true ∧ r.val ≠ ownRank s ∧ pathsUp s n r = [] ∧ bitN (getF s (CD_TR_STS_UNREACH n)) r = 0
      (due → Does (.rankUnreachable n r) s (flagRegs (CD_TR_STS_UNREACH_EVT n)) (fun t => bitN (getF t (CD_TR_STS_UNREACH n)) r = 1 ∧ Flagged s t (CD_TR_STS_UNREACH_EVT n)
        ∧ Reported s t 0x0702 (2 ^ n.val)))
      ∧ (¬ due → Nothing (.rankUnreachable n r) s))

/-- R311: host traffic that asks for something is redirected by a package that is not the bridge, and held by the bridge; what is delivered next writes host memory, is
answered with host memory, brings a read's data, raises the sender's vector, or moves the host traffic of the connection to the announced bridge. -/
def Sys2Proof.Claims.HostTraffic : Prop :=
  ∀ (s u : State) (vq ep : Nat) (g : Seg) (st : Fin 3) (found : HostData),
    let v := arriveHost s
    let k := connOf vq g
    let pa := hostBase + g.addr % 2 ^ 51
    let at_ (op : Nat) : Prop := Delivers v u 0x0B (hostTakes v op) ep g
    (Arrives s u 0x0B vq g → InWindow u vq g →
      (asksHost g = true → isBridge s = false → v.net.rx = u.net.rx ∧ v.mem = s.mem
        ∧ Outgoing v g.dstEp (connIx g.srcRank g.srcEp 0) (fun x => x.kind = 0x0B ∧ hostOp x = 5 ∧ fieldLE x.body 2 2 = fieldLE g.body 2 2))
      ∧ (asksHost g = false ∨ isBridge s = true → g ∈ (rxGet v g.dstEp k).held ∧ (rxGet v g.dstEp k).due = true ∧ v.mem = s.mem ∧ SameRegs s v (rxRegs g.dstEp k)))
    ∧ (at_ 1 → Goes (exec .hostWrite s) (fun t => SameMem v t (within pa (g.body.length - 8)) ∧ t.regs = v.regs
        ∧ (fieldLE g.body 1 1 ≠ 1 → g.body.drop 8 ≠ [] → readBytes t pa (g.body.length - 8) = g.body.drop 8)))
    ∧ (at_ 2 → g.srcRank < 16 → g.srcEp < 8 → Goes (exec (.hostReadRequest st found) s) (fun t => t.mem = (hostPlace v found).mem
        ∧ Outgoing t ep (connIx g.srcRank g.srcEp 0) (fun x => x.kind = 0x0B ∧ hostOp x = 3 ∧ fieldLE x.body 2 2 = fieldLE g.body 2 2
          ∧ (st.val = 0 → anyPoison v pa (fieldLE g.body 4 4) = false → x.body.drop 8 = readBytes t pa (fieldLE g.body 4 4)))))
    ∧ (at_ 3 → Goes (exec .hostReadCompletion s) (fun t => t.mem = v.mem ∧ t.regs = v.regs
        ∧ ∀ x, x ∈ v.hub.hostReads → x.who = ep → x.tag = fieldLE g.body 2 2 → x.data = none → { x with
            data := some ((g.body.drop 8 ++ List.replicate x.len 0).take x.len, fieldLE g.body 1 1 != 0) } ∈ t.hub.hostReads))
    ∧ (at_ 4 → Goes (exec .hostInterrupt s) (fun t => t.hub.irqs = v.hub.irqs ++ [32 + g.srcRank % 16] ∧ t.regs = v.regs ∧ t.mem = v.mem))
    ∧ (at_ 5 → let b := getF v HP_GRP_STS_BRIDGE
      (getF v HP_GRP_STS_BRIDGE_V = 0 ∨ b = g.srcRank → exec .hostRedirect s = .next u)
      ∧ (getF v HP_GRP_STS_BRIDGE_V = 1 → b ≠ g.srcRank → g.srcRank < 16 → Goes (exec .hostRedirect s) (fun t => t.mem = v.mem
        ∧ ∀ e x, e < 5 → x ∈ (txGet t e (connIx g.srcRank 4 0)).waiting ++ (txGet t e (connIx g.srcRank 4 0)).unacked → x.seg.kind = 0x0B → asksHost x.seg = false)))
    ∧ (∀ x, x ∈ [(1, Instr.hostWrite), (2, .hostReadRequest st found), (3, .hostReadCompletion), (4, .hostInterrupt), (5, .hostRedirect)] →
        (∀ e g, ¬ ∃ w, Delivers v w 0x0B (hostTakes v x.1) e g) → exec x.2 s = .next v)

/-- R302, R306-R309, R316, R385: the link and PERST, the configuration space, enabling and disabling a queue, its doorbell, the four entries of Table 9-2 and what they
complete as, and the completion of a response. -/
def Sys2Proof.Claims.HostPort : Prop :=
  ∀ (s : State) (q : Fin 32) (w : Word) (entry : BitVec 1024) (dw : Fin 1024) (ext : CmdResp) (r : Response),
    let up (t : State) := t.hub.port.up
    let down (c : Instr) : Prop := up s = true →
      (isBridge s = false → Does c s [] (fun t => up t = false))
      ∧ (isBridge s = true → Goes (exec c s) (fun t => up t = false ∧ roleOf t = 7 ∧ getF t HP_ROLE_CAUSE = 4 ∧ t.hub.port.outst = [] ∧ Reported s t 0x0804 0 ∧ t.mem = s.mem))
    let linked := bridgeCapable s = true ∧ s.hub.port.perst = false ∧ clkLost s 54 = false ∧ s.boot.pwrok = true
    let e := leBytes 128 entry.toNat
    let c := entryCmd q e
    let body := fieldLE e 64 64
    let o : Origin := .queue (ownRank s) q c.csn
    let go := sqReady s q = true ∧ Writable s (cqPa s q (getF s (HP_HQ_CQ_TAIL q)))
    let took (t : State) : Prop := getF t (HP_HQ_SQ_HEAD q) = (getF s (HP_HQ_SQ_HEAD q) + 1) % sqEntries s q
    let fetched (t : State) : Prop := took t ∧ rd t (HP_HQ q 3) = BitVec.ofNat 64 (c.csn + 1)
    let own := c.rank = ownRank s
    let next := c.csn = nextCsn s q ∧ csnOpen s q c.csn = true
    let fresh := sqBad e = false ∧ own ∧ chanDown s c.ch = false ∧ (cmdRec s c.ch q).high < c.csn
    let rows : List (Instr × (Nat → Bool)) := [(.sqAdmissionRequest q entry, fun t => t == 1), (.sqPreemptionRequest q entry, fun t => t == 2),
      (.sqDmaDescriptor q entry, fun t => t == 3), (.sqNoop q entry, fun t => t == 0 || decide (4 ≤ t))]
    (linked → Does .pcieLinkUp s [] (fun t => up t = true)) ∧ (¬ linked → Nothing .pcieLinkUp s)
    ∧ down .pcieLinkDown ∧ down (.perst true) ∧ (up s = false → Nothing .pcieLinkDown s)
    ∧ (up s = false → Does (.perst true) s [] (fun t => t.hub.port.perst = true)) ∧ Does (.perst false) s [] (fun t => t.hub.port.perst = false ∧ up t = up s)
    ∧ (s.boot.pwrok = true → bridgeCapable s = true → s.hub.port.perst = false →
      (getF s HP_BOOT_STS_STAGE = 0 → Does (.configurationRequest dw) s [] (fun t => t.boot.cfgOut = s.boot.cfgOut ++ [none]))
      ∧ (getF s HP_BOOT_STS_STAGE ≠ 0 → Does (.configurationRequest dw) s [] (fun t => ∃ v, t.boot.cfgOut = s.boot.cfgOut ++ [some v] ∧ v < 2 ^ 32
        ∧ (dw.val = 0 → v = 0x55311F3C) ∧ (dw.val = 2 → v / 256 = 0x120000))))
    ∧ (let v := putBits w 4 4 1
      Takes s (HP_HQ q 0) v → Does (.queueEnable q w) s [HP_HQ q 0, HP_HQ q 2, HP_HQ q 3] (fun t => Written s t (HP_HQ q 0) v ∧ rd t (HP_HQ q 3) = 1 ∧ getF t (HP_HQ_SQ_HEAD q) = 0
        ∧ getF t (HP_HQ_CQ_TAIL q) = 0 ∧ getF t (HP_HQ_PHASE q) = 1 ∧ getF t (HP_HQ_STOPPED q) = 0 ∧ getF t (HP_HQ_OUT q) = 0 ∧ outstOf t q = []))
    ∧ (Takes s (HP_HQ q 0) (putBits (rd s (HP_HQ q 0)) 4 4 0) → Does (.queueDisable q) s [HP_HQ q 0, HP_HQ q 2] (fun t => getF t (HP_HQ_EN q) = 0
        ∧ (getF s (HP_HQ_EN q) = 1 → outstOf t q = [] ∧ getF t (HP_HQ_OUT q) = 0 ∧ ∀ n, cmdRec t n q = CmdRec.reset)))
    ∧ (Takes s (HP_HQ_DB q) w → Does (.doorbell q w) s [HP_HQ_DB q] (fun t => Written s t (HP_HQ_DB q) w ∧ t = { s with regs := t.regs }))
    ∧ (∀ x, x ∈ rows → (sqReady s q = false ∨ x.2 c.type = false → Nothing x.1 s)
      ∧ (go → x.2 c.type = true →
        (c.csn ≠ nextCsn s q → Goes (exec x.1 s) (fun t => Completed s t q c.csn 4 ∧ getF t (HP_HQ_STOPPED q) = 1 ∧ took t))
        ∧ (next →
          (sqBad e = true → Goes (exec x.1 s) (fun t => Completed s t q c.csn 2 ∧ fetched t))
          ∧ (sqBad e = false → ¬ own → rankPresent s c.rank = false → Goes (exec x.1 s) (fun t => Completed s t q c.csn 3 ∧ fetched t))
          ∧ (sqBad e = false → own → chanDown s c.ch = true → Goes (exec x.1 s) (fun t => Completed s t q c.csn 5 ∧ fetched t))
          ∧ (sqBad e = false → own → chanDown s c.ch = false → c.csn ≤ (cmdRec s c.ch q).high → Goes (exec x.1 s) (fun t => Completed s t q c.csn 1 ∧ fetched t))
          ∧ (sqBad e = false → ¬ own → rankPresent s c.rank = true → Goes (exec x.1 s) (fun t => fetched t ∧ t.hub.port.outst = s.hub.port.outst ++ [c]))
          ∧ (fresh → c.type = 1 ∨ c.type = 2 ∨ c.type = 4 ∨ (c.type = 3 ∧ dmaFull s c.ch = false) → Goes (exec x.1 s) (fun t => fetched t ∧ t.hub.port.outst = s.hub.port.outst ++ [c]
            ∧ (cmdRec t c.ch q).high = c.csn ∧ (c.type = 1 → (dieGet t c.ch).admQ = (dieGet s c.ch).admQ ++ [⟨o, 0, some body⟩])
            ∧ (c.type = 2 → (dieGet t c.ch).preQ = (dieGet s c.ch).preQ ++ [⟨o, 0, some body⟩])
            ∧ (c.type = 3 → (dieGet t c.ch).dmaQ.length = (dieGet s c.ch).dmaQ.length + 1)
            ∧ (c.type = 4 → t.hub.responses = s.hub.responses ++ [⟨ownRank s, q, c.csn, 0⟩]))))))
    ∧ (mustWait s ext.q ext.csn = true ∨ isBridge s = false → Nothing (.completionWrite (some ext)) s)
    ∧ (∀ x, isBridge s = true → mustWait s ext.q ext.csn = false → s.hub.port.outst.find? (fun c => c.q == ext.q.val && c.csn == ext.csn) = some x →
      Goes (exec (.completionWrite (some ext)) s) (fun t => Completed s t ext.q ext.csn (b2n ext.dup)
        ∧ t.hub.port.outst = s.hub.port.outst.filter (fun x => !(x.q == ext.q.val && x.csn == ext.csn))))
    ∧ (∀ x, r.q < 32 → s.hub.responses.find? (fun r => !mustWait s r.q r.csn) = some r → isBridge s = true →
      s.hub.port.outst.find? (fun c => c.q == r.q && c.csn == r.csn) = some x → Goes (exec (.completionWrite none) s) (fun t => Completed s t r.q r.csn 0
        ∧ t.hub.responses = s.hub.responses.filter (· != r) ∧ t.hub.port.outst = s.hub.port.outst.filter (fun x => !(x.q == r.q && x.csn == r.csn))))
    ∧ (s.hub.responses.find? (fun r => !mustWait s r.q r.csn) = none → Nothing (.completionWrite none) s)

/-- R301-R311: host traffic, the host queues and the host port. -/
def Obligations.HostSide : Prop := Sys2Proof.Claims.HostTraffic ∧ Sys2Proof.Claims.HostPort

/-- R304, R312, R315-R318: the bridge commands and what refuses them; a package relinquishes, renews or loses its lease, watches and claims that of another, and takes
over. -/
def Sys2Proof.Claims.BridgeRoles : Prop :=
  ∀ (s : State) (claim : Bool) (q : Fin 32) (found : Word) (placed : HostData),
    let w := cmdWord [(HP_BRIDGE_CMD_OP, 1), (HP_BRIDGE_CMD_CLAIM, b2n claim)]
    let answer (t : State) (v k : Nat) : Prop := getF t HP_BRIDGE_CMD_STATUS = v ∧ getF t HP_BRIDGE_CMD_REASON = k
    let role (t : State) (v : Nat) : Prop := roleOf t = v ∧ getF t HP_ROLE_CHANGED = 1
    let cause (t : State) := getF t HP_ROLE_CAUSE
    let p := s.hub.port
    let p' (t : State) := t.hub.port
    let why : Option Nat := if bridgeCapable s = false then some 1 else if getF s HP_GRP_STS_SELF_CONFLICT = 1 then some 3
      else if getF s HP_LEASE_CFG_EN = 0 then some 4 else if roleOf s ≠ 0 then some 5 else none
    let refused (c : Instr) (k : Nat) : Prop := Does c s [HP_BRIDGE_CMD] (fun t => answer t 3 k ∧ t.hub = s.hub)
    let v := found.toNat
    let seen (t : State) (x : Nat) : Prop := (p' t).lease = x ∧ getF t HP_HB_STS_LEASE_RD = x / 65536 % 2 ^ 32
    (Takes s HP_BRIDGE_CMD w → (∀ k, why = some k → refused (.start claim) k)
      ∧ (why = none → claim = false → Does (.start claim) s (HP_BRIDGE_CMD :: flagRegs HP_ROLE_CHANGED) (fun t => answer t 2 0 ∧ role t 1 ∧ cause t = 1))
      ∧ (why = none → claim = true → Does (.start claim) s [HP_BRIDGE_CMD] (fun t => getF t HP_BRIDGE_CMD_STATUS = 1 ∧ (p' t).cas = some ⟨.start, 0, leaseNext (ownRank s) 0⟩)))
    ∧ (Takes s HP_BRIDGE_CMD (cmdWord [(HP_BRIDGE_CMD_OP, 2)]) → (roleOf s ≠ 2 → refused .relinquish 5)
      ∧ (roleOf s = 2 → Does .relinquish s (HP_BRIDGE_CMD :: flagRegs HP_ROLE_CHANGED) (fun t => getF t HP_BRIDGE_CMD_STATUS = 1 ∧ role t 6 ∧ cause t = 5 ∧ (p' t).finalSent = false)))
    ∧ (roleOf s = 6 → p.cas = none → Does .relinquishEnd s (HP_BRIDGE_CMD :: flagRegs HP_ROLE_CHANGED) (fun t => answer t 2 0 ∧ role t 7 ∧ cause t = 5 ∧ (p' t).outst = []
        ∧ (p' t).cas = some ⟨.relinquish, p.lease, putN p.lease 4 1 0⟩))
    ∧ (roleOf s ≠ 6 ∨ p.cas ≠ none → Nothing .relinquishEnd s)
    ∧ (∀ k : Fin 16, Takes s HP_BRIDGE_CMD (cmdWord [(HP_BRIDGE_CMD_OP, 3), (HP_BRIDGE_CMD_RANK, k.val)]) → (k.val = ownRank s → refused (.forget k) 5)
      ∧ (k.val ≠ ownRank s → Does (.forget k) s [HP_BRIDGE_CMD, HP_GRP_STS, HP_GRP_MEMBER k 0, HP_GRP_MEMBER k 1] (fun t => answer t 2 0 ∧ rankPresent t k = false
        ∧ bitN (getF t HP_GRP_STS_PRESENT) k = 0 ∧ bitN (getF t HP_GRP_STS_CONFLICT) k = 0 ∧ rd t (HP_GRP_MEMBER k 0) = 0 ∧ rd t (HP_GRP_MEMBER k 1) = 0)))
    ∧ (isBridge s = true → p.cas = none → p.up = true → Does .leaseRenewal s [] (fun t => (p' t).cas = some ⟨.renew, p.lease, leaseNext (ownRank s) p.lease⟩))
    ∧ (isBridge s = false ∨ p.cas ≠ none ∨ p.up = false → Nothing .leaseRenewal s)
    ∧ (∀ a b, p.cas = some ⟨.renew, a, b⟩ → isBridge s = true → Goes (exec .leaseRenewalTimeout s) (fun t => role t 7 ∧ cause t = 3 ∧ (p' t).outst = [] ∧ Reported s t 0x0804 0 ∧ t.mem = s.mem))
    ∧ ((∀ a b, p.cas ≠ some ⟨.renew, a, b⟩) ∨ isBridge s = false → Nothing .leaseRenewalTimeout s)
    ∧ (roleOf s ≠ 3 ∨ p.up = false → Nothing (.leaseRead found) s)
    ∧ (roleOf s = 3 → p.up = true → leaseValid v = false → Goes (exec (.leaseRead found) s) (fun t => seen t v ∧ SameMem s t (within (leasePa s) 8)
        ∧ (getF s HP_CKPT_STS_VALID ≠ 0 → role t 4 ∧ (p' t).cas = some ⟨.claim, v, leaseNext (ownRank s) v⟩)
        ∧ (getF s HP_CKPT_STS_VALID = 0 → roleOf t = 3 ∧ getF t HP_HB_STS_NO_CKPT = 1 ∧ ∃ z, z ∈ t.reports ∧ z.cause = 0x0805)))
    ∧ (∀ n, roleOf s = 3 → p.up = true → leaseValid v = true → p.watch = some (v, n) → n ≤ 5 →
      (n = 4 → getF s HP_CKPT_STS_VALID ≠ 0 → Goes (exec (.leaseRead found) s) (fun t => role t 4 ∧ seen t v))
      ∧ (n ≠ 4 → bothLost s = true → Goes (exec (.leaseRead found) s) (fun t => roleOf t = 3 ∧ seen t v ∧ (p' t).watch = some (v, n + 1) ∧ t.reports = s.reports)))
    ∧ (p.cas = none → Nothing (.leaseCasComplete found) s)
    ∧ (∀ c, p.cas = some c → Goes (exec (.leaseCasComplete found) s) (fun t => (p' t).cas = none
        ∧ (c.kind = .start → v = c.expect → role t 2 ∧ cause t = 1 ∧ getF t HP_BRIDGE_CMD_STATUS = 2 ∧ getF t HP_GRP_STS_BRIDGE_V = 1 ∧ getF t HP_GRP_STS_BRIDGE = ownRank s ∧ seen t c.new
          ∧ 48 ∈ t.hub.irqs)
        ∧ (c.kind = .start → v ≠ c.expect → answer t 3 2 ∧ roleOf t = roleOf s ∧ seen t v)
        ∧ (c.kind = .renew → v = c.expect → isBridge s = true → seen t c.new ∧ roleOf t = roleOf s)
        ∧ (c.kind = .renew → v ≠ c.expect → isBridge s = true → role t 7 ∧ cause t = 3 ∧ seen t v ∧ Reported s t 0x0804 0)
        ∧ (c.kind = .claim → roleOf s = 4 → v = c.expect → role t 5 ∧ seen t c.new)
        ∧ (c.kind = .claim → roleOf s = 4 → v ≠ c.expect → role t 3 ∧ getF t HP_HB_STS_SPLIT = 1 ∧ Reported s t 0x0805 0)
        ∧ (c.kind = .relinquish → roleOf t = roleOf s)))
    ∧ (roleOf s ≠ 5 → Nothing (.takeover placed) s)
    ∧ (roleOf s = 5 → Goes (exec (.takeover placed) s) (fun t => role t 2 ∧ cause t = 2 ∧ getF t HP_GRP_STS_BRIDGE_V = 1 ∧ getF t HP_GRP_STS_BRIDGE = ownRank s
        ∧ (p' t).ckptSent = getF s HP_CKPT_STS_VALID
        ∧ rd t (HP_HQ q 0) = BitVec.ofNat 64 (readLE (hostPlace s placed) (ckptSlot s (getF s HP_CKPT_STS_VALID) + 64 + 48 * q) 8)))

/-- R311, R313, R314, R317: beats and announcements go out; one that arrives says that its path is up; five windows without one lose a path and three restore it; the
checkpoint goes out chunk by chunk and becomes valid, in its slot of memory, when its CRC matches. -/
def Sys2Proof.Claims.BridgePaths : Prop :=
  ∀ (s u : State) (vq : Nat) (g : Seg),
    let p := s.hub.port
    let p' (t : State) := t.hub.port
    let peer := peerRank s
    let path := copies s 4 peer 2 ≠ none
    let k := connOf vq g
    let num := (p.ckptSent + 1) % 2 ^ 32
    let sent (t : State) : Prop := (p' t).ckptSent = num ∧ t.mem = s.mem ∧ Outgoing t 4 (connIx peer 4 2) (fun x => x.kind = 0x0A ∧ fieldLE x.body 0 4 = num)
    let beats := bridgeCapable s = true ∧ roleOf s ≠ 0
    let window (b : BeatX) (b' : State → BeatX) (lost : Fld) (t : State) : Prop := let n := getF s lost
      (b.seen = true → n = 0 → b' t = ⟨false, 0, 0⟩ ∧ getF t lost = 0) ∧ (b.seen = true → n = 1 → 3 ≤ b.good + 1 → b' t = ⟨false, 0, 0⟩ ∧ getF t lost = 0)
      ∧ (b.seen = true → n = 1 → b.good + 1 < 3 → b' t = ⟨false, 0, b.good + 1⟩ ∧ getF t lost = 1) ∧ (b.seen = false → n = 0 → b.missed + 1 < 5 → b' t = ⟨false, b.missed + 1, 0⟩ ∧ getF t lost = 0)
      ∧ (b.seen = false → n = 0 → 5 ≤ b.missed + 1 → b' t = ⟨false, 5, 0⟩ ∧ getF t lost = 1 ∧ ∃ z, z ∈ t.reports ∧ z.cause = 0x0803)
    (roleOf s = 2 → path → Goes (exec .checkpoint s) sent) ∧ (roleOf s ≠ 2 ∨ ¬ path → Nothing .checkpoint s)
    ∧ (roleOf s = 6 → p.finalSent = false → Goes (exec .finalCheckpoint s) (fun t => sent t ∧ (p' t).finalSent = true))
    ∧ (roleOf s ≠ 6 ∨ p.finalSent = true → Nothing .finalCheckpoint s)
    ∧ (beats → pkgSafe s = false → Goes (exec .heartbeatSend s) (fun t => (p' t).beats = (p.beats + 1) % 65536 ∧ (p' t).pulses = p.pulses + 1 ∧ t.mem = s.mem
        ∧ (path → Outgoing t 4 (connIx peer 4 2) (fun x => x.kind = 9 ∧ fieldLE x.body 0 1 = beatRole s ∧ fieldLE x.body 1 1 = 0))))
    ∧ (¬ beats ∨ pkgSafe s = true → Nothing .heartbeatSend s)
    ∧ (bridgeCapable s = true → clkLost s 58 = false → Does .heartbeatEdge s [] (fun t => (p' t).sideBeat = { p.sideBeat with seen := true }))
    ∧ (bridgeCapable s = false ∨ clkLost s 58 = true → Nothing .heartbeatEdge s)
    ∧ (beats → Goes (exec .heartbeatWindow s) (fun t => window p.ropeBeat (fun t => (p' t).ropeBeat) HP_HB_STS_ROPE_LOST t ∧ window p.sideBeat (fun t => (p' t).sideBeat) HP_HB_STS_SB_LOST t ∧ t.mem = s.mem
        ∧ (bothLost s = false → bothLost t = true → (roleOf s = 2 → roleOf t = 2 ∧ getF t HP_HB_STS_SPLIT = 1) ∧ (roleOf s = 1 → roleOf t = 3))))
    ∧ (¬ beats → Nothing .heartbeatWindow s)
    ∧ (isBridge s = true → Goes (exec .announcement s) (fun t => t.mem = s.mem ∧ ∀ r, r < 16 → r ≠ ownRank s → rankPresent s r = true →
        Outgoing t 4 (connIx r 4 2) (fun x => x.kind = 9 ∧ fieldLE x.body 1 1 = 1)))
    ∧ (isBridge s = false → Nothing .announcement s)
    ∧ (Arrives s u 9 vq g → InWindow u vq g → Goes (exec .heartbeat s) (fun t => (rxGet t g.dstEp k).due = true
        ∧ (fieldLE g.body 1 1 % 2 = 1 → isBridge s = false → getF t HP_GRP_STS_BRIDGE_V = 1 ∧ getF t HP_GRP_STS_BRIDGE = g.srcRank)
        ∧ (bridgeCapable s = true → g.srcRank = peer → (p' t).ropeBeat.seen = true ∧ (p' t).peerRole = fieldLE g.body 0 1
          ∧ (isBridge s = true → fieldLE g.body 0 1 = 2 → getF t HP_CKPT_STS_VALID = fieldLE g.body 4 4) ∧ (roleOf s = 1 → fieldLE g.body 0 1 = 3 → roleOf t = 3))))
    ∧ (Arrives s u 0x0A vq g → InWindow u vq g → let n := fieldLE g.body 0 4
      let data := g.body.drop 32
      let slot := ckptSlot s n
      let taken := bridgeCapable s = true ∧ g.srcRank = peer ∧ isBridge s = false ∧ getF s HP_CKPT_AREA_EN = 1 ∧ getF s HP_CKPT_STS_VALID < n
      let good := crc32c data = fieldLE g.body 12 4 ∧ data.length = fieldLE g.body 8 4
      (¬ taken → Does .checkpointChunk s (rxRegs g.dstEp k) (fun t => (rxGet t g.dstEp k).due = true ∧ t.hub = s.hub))
      ∧ (taken → 1 < fieldLE g.body 6 2 → p.ckptRx = none → Does .checkpointChunk s (rxRegs g.dstEp k) (fun t => ∃ x, (p' t).ckptRx = some x ∧ x.num = n ∧ x.count = fieldLE g.body 6 2
        ∧ tabGet (fun _ => []) x.chunks (fieldLE g.body 4 2) = data))
      ∧ (taken → fieldLE g.body 6 2 = 1 → fieldLE g.body 4 2 = 0 → data ≠ [] → p.ckptRx = none → injSlot s 7 0 = none →
        (good → Goes (exec .checkpointChunk s) (fun t => getF t HP_CKPT_STS_VALID = n ∧ (p' t).ckptRx = none ∧ SameMem s t (within slot data.length)
          ∧ (Writable s slot → readBytes t slot data.length = data)))
        ∧ (¬ good → Does .checkpointChunk s (HP_CKPT_STS :: rxRegs g.dstEp k) (fun t => getF t HP_CKPT_STS_VALID = getF s HP_CKPT_STS_VALID ∧ (p' t).ckptRx = none
          ∧ getF t HP_CKPT_STS_CRC_FAIL = (getF s HP_CKPT_STS_CRC_FAIL + 1) % 2 ^ 16))))

/-- R312-R320: the roles of a bridge-capable package, and its paths. -/
def Obligations.Bridge : Prop := Sys2Proof.Claims.BridgeRoles ∧ Sys2Proof.Claims.BridgePaths

namespace Sys2Proof.Claims
open Machine

/-- R324: a discarded write is counted and shown by the unit that it addresses. -/
def Discarded (s t : State) (a : Nat) (write : Bool) (cause : Nat) : Prop :=
  let u := adrUnit a % 16
  getF t (SN_DISC_COUNT u) = (getF s (SN_DISC_COUNT u) + 1) % 2 ^ 32 ∧ getF t (SN_DISC_LAST_ADDR u) = a ∧ getF t (SN_DISC_LAST_WRITE u) = b2n write
  ∧ getF t (SN_DISC_LAST_CAUSE u) = cause ∧ SameRegs s t [SN_DISC u, SN_DISC_LAST u] ∧ t = { s with regs := t.regs }

/-- R8, R10, R323, R393: a read of 8 bytes that is performed. -/
def Reads (s : State) (a : Nat) : Prop :=
  a % 8 = 0 ∧ hidden s a = false ∧ dieAway s a = false ∧ placeOf a ≠ .none ∧ (queuePage a = false ∨ roleOf s = 2)

/-- A row of the table that is a write of a register: the row, the register and the word. -/
def RegisterRow (n : Die) (p : PlyId) (k : Fin 8) (r : Rope) (c : Fin 5) (i : Fin 16) (x y : Nat) (f : Bool) (row : Instr × Nat × Word) : Prop :=
  let cmd (row : Instr) (a : Nat) (l : List (Fld × Nat)) : Instr × Nat × Word := (row, a, cmdWord l)
  let fin (m : Nat) [NeZero m] : Fin m := Fin.ofNat m x
  let w8 := BitVec.ofNat 8 x
  let w16 := BitVec.ofNat 16 x
  let w32 := BitVec.ofNat 32 x
  let w := BitVec.ofNat 64 x
  row ∈ [cmd (.dieReset n) (CH_DIE_CMD n) [(CH_DIE_CMD_OP n, 1)], cmd (.dieRetry n) (CH_DIE_CMD n) [(CH_DIE_CMD_OP n, 2)],
   cmd (.resume p) (CD_PLY_CMD p.n p.b p.q) [(CD_PLY_CMD_OP p.n p.b p.q, 1)], cmd (.abort p) (CD_PLY_CMD p.n p.b p.q) [(CD_PLY_CMD_OP p.n p.b p.q, 2)],
   (.knotRegisterWrite n (fin 4096) w, CD_KNOT n (x % 4096), w), (.spanKnotRegisterWrite (fin 1024) w, HP_SKNOT (x % 1024), w), (.directoryWrite n w, CD_DIR n, w),
   cmd (.spanForm (fin 4)) HP_SPAN_CMD [(HP_SPAN_CMD_OP, 1), (HP_SPAN_CMD_SPAN, x % 4)],
   cmd (.spanDissolve (fin 4) f) HP_SPAN_CMD [(HP_SPAN_CMD_OP, 2), (HP_SPAN_CMD_SPAN, x % 4), (HP_SPAN_CMD_FORCE, b2n f)],
   cmd (.dmaResume n (fin 128)) (CH_DMA_CMD n) [(CH_DMA_CMD_OP n, 1), (CH_DMA_CMD_ENGINE n, x % 128)],
   cmd (.dmaAbort n (fin 128)) (CH_DMA_CMD n) [(CH_DMA_CMD_OP n, 2), (CH_DMA_CMD_ENGINE n, x % 128)],
   cmd (.invPage n w8 (BitVec.ofNat 48 y)) (CH_XLT_INV n) [(CH_XLT_INV_OP n, 1), (CH_XLT_INV_ASID n, x % 256), (CH_XLT_INV_VA n, y % 2 ^ 48 / 2 ^ 16)],
   cmd (.invAsid n w8) (CH_XLT_INV n) [(CH_XLT_INV_OP n, 2), (CH_XLT_INV_ASID n, x % 256)],
   cmd (.invGlobal n) (CH_XLT_INV n) [(CH_XLT_INV_OP n, 3)], cmd (.invAll n) (CH_XLT_INV n) [(CH_XLT_INV_OP n, 4)],
   cmd (.calibrate k (fin 4)) (OE_CMD k) [(OE_CMD_OP k, 1), (OE_CMD_ROPE k, x % 4)], cmd (.migrate k (fin 64)) (OE_CMD k) [(OE_CMD_OP k, 2), (OE_CMD_S k, x % 64)],
   cmd (.redirect k (fin 1024)) PI_STEER_CMD [(PI_STEER_CMD_OP, 1), (PI_STEER_CMD_CFG, k.val), (PI_STEER_CMD_MASK, x % 1024)],
   cmd (.home (fin 1024)) PI_STEER_CMD [(PI_STEER_CMD_OP, 2), (PI_STEER_CMD_MASK, x % 1024)],
   cmd (.aorOpen i (BitVec.ofNat 52 x)) PI_AOR_CMD [(PI_AOR_CMD_OP, 1), (PI_AOR_CMD_SESS, i.val), (PI_AOR_CMD_ADDR, x % 2 ^ 52 / 64)],
   cmd (.aorClose i) PI_AOR_CMD [(PI_AOR_CMD_OP, 2), (PI_AOR_CMD_SESS, i.val)],
   cmd (.ropeRetrain r) (OE_ROPE_CMD r) [(OE_ROPE_CMD_OP r, 1)], cmd (.ropeDown r) (OE_ROPE_CMD r) [(OE_ROPE_CMD_OP r, 2)], cmd (.ropeUp r) (OE_ROPE_CMD r) [(OE_ROPE_CMD_OP r, 3)],
   (.queueEnable (fin 32) w, HP_HQ (x % 32) 0, putBits w 4 4 1), (.doorbell (fin 32) w, HP_HQ_DB (x % 32), w),
   cmd (.start f) HP_BRIDGE_CMD [(HP_BRIDGE_CMD_OP, 1), (HP_BRIDGE_CMD_CLAIM, b2n f)], cmd .relinquish HP_BRIDGE_CMD [(HP_BRIDGE_CMD_OP, 2)],
   cmd (.forget i) HP_BRIDGE_CMD [(HP_BRIDGE_CMD_OP, 3), (HP_BRIDGE_CMD_RANK, i.val)], cmd (.snap w16) SN_CMD [(SN_CMD_OP, 1), (SN_CMD_ID, x % 2 ^ 16)],
   cmd (.conditionalClear (BitVec.ofNat 36 x) (fin 64) (BitVec.ofNat 16 y)) SN_CCLR [(SN_CCLR_ADDR, x % 2 ^ 36 / 8), (SN_CCLR_BIT, x % 64), (SN_CCLR_EXPECT, y % 2 ^ 16)],
   cmd (.traceMark w32) SN_TRC_MARK [(SN_TRC_MARK_VALUE, x % 2 ^ 32)],
   cmd (.resolve c w32) (FC_CMD c) [(FC_CMD_OP c, 1), (FC_CMD_SEQ c, x % 2 ^ 32)], cmd (.release c) (FC_CMD c) [(FC_CMD_OP c, 2)],
   cmd (.arm w8 w16 (BitVec.ofNat 16 y)) FC_INJ [(FC_INJ_OP, 1), (FC_INJ_KIND, x % 256), (FC_INJ_INSTANCE, x % 2 ^ 16), (FC_INJ_N, y % 2 ^ 16)],
   cmd (.disarm w8 w16) FC_INJ [(FC_INJ_OP, 2), (FC_INJ_KIND, x % 256), (FC_INJ_INSTANCE, x % 2 ^ 16)],
   cmd (.signReading f) HP_KS_MB [(HP_KS_MB_OP, 1)], cmd (.signAudit w32 f) HP_KS_MB [(HP_KS_MB_OP, 2), (HP_KS_MB_ARG, x % 2 ^ 32)], cmd (.selfcal f) HP_KS_MB [(HP_KS_MB_OP, 3)],
   cmd (.pulseSrc w32 f) HP_KS_MB [(HP_KS_MB_OP, 4), (HP_KS_MB_ARG, x % 2 ^ 32)],
   cmd (.ksStageBlock w32 (Fin.ofNat 8192 y) f) HP_KS_MB [(HP_KS_MB_OP, 5), (HP_KS_MB_ARG, x % 2 ^ 32), (HP_KS_MB_LEN, y % 8192)], cmd (.stageClear f) HP_KS_MB [(HP_KS_MB_OP, 6)],
   cmd .stageBegin HP_FW_CMD [(HP_FW_CMD_OP, 1)], cmd .stageEnd HP_FW_CMD [(HP_FW_CMD_OP, 3)], cmd .activate HP_FW_CMD [(HP_FW_CMD_OP, 4)], cmd (.commit f) HP_FW_CMD [(HP_FW_CMD_OP, 5)],
   cmd .revert HP_FW_CMD [(HP_FW_CMD_OP, 6)], cmd .discard HP_FW_CMD [(HP_FW_CMD_OP, 7)], (.vcoreSet n (fin 1024), HP_VCORE n, putBits 0 9 0 (x % 1024))]

end Sys2Proof.Claims


/-- R7, R8, R10-R14, R310, R324, R389, R412: a management write that is not served does nothing; a discarded one is counted and changes nothing else, and so with every row that is such a write; a
performed one changes the register as its card says; a command whose firmware is away waits. Accesses through BAR2, from other ranks and through I3C, and their answers. -/
def Obligations.ManagementAccess : Prop :=
  ∀ (s u : State) (a : BitVec 36) (len : Fin 17) (w : Word) (ok : Bool) (rank : Fin 16) (op : MgmtOp) (bytes : List Byte) (tag ep : Nat) (g : Seg),
    let b := a.toNat
    let p := s.hub.port
    let p' (t : State) := t.hub.port
    let isRead (o : MgmtOp) : Prop := o ≠ .write64
    let remote := p.up = true ∧ served s = true
    let v (kind : Nat) := takeSeg s kind true holdSeg
    let fop := fieldLE g.body 2 1
    let side := sideUp s = true
    let acc := leVal (bytes.take 1)
    let addr := leVal ((bytes.drop 1).take 5)
    let shape := (acc = 1 ∧ bytes.length = 6) ∨ (acc = 2 ∧ bytes.length = 14)
    (served s = false → Nothing (.mgmtWrite a len w ok) s)
    ∧ (∀ c, served s = true → writeRefusal s b len w = some c → Goes (exec (.mgmtWrite a len w ok) s) (fun t => Discarded s t b true c))
    ∧ (∀ n q k r e i x y f row, RegisterRow n q k r e i x y f row →
      (served s = false → Nothing row.1 s) ∧ (∀ c, served s = true → writeRefusal s row.2.1 8 row.2.2 = some c → Goes (exec row.1 s) (fun t => Discarded s t row.2.1 true c)))
    ∧ (∀ c x, served s = true → writeRefusal s b len w = none → placeOf b = .reg c x → c.cmd = 0 → x.name ≠ .HP_VCORE → Goes (exec (.mgmtWrite a len w ok) s) (fun t =>
      rd t b = written s c (rd s b) w ∧ t.mem = s.mem ∧ (x.name ≠ .HP_HQ → x.name ≠ .GS_CTL → SameRegs s t [b])))
    ∧ (∀ c x, served s = true → writeRefusal s b len w = none → placeOf b = .reg c x → fwOwned b = true → fwAway s = true → Goes (exec (.mgmtWrite a len w ok) s) (fun t =>
      getF t ⟨b, c.sts + 3, c.sts, 0⟩ = 1 ∧ t.boot.held = s.boot.held ++ [(b, ok)] ∧ SameRegs s t [b] ∧ t.mem = s.mem))
    ∧ (served s = true → writeRefusal s b len w = none → placeOf b = .msix → Does (.mgmtWrite a len w ok) s [b] (fun t => rd t b = w))
    ∧ (¬ remote → Nothing (.bar2RemoteAccess rank a op w) s)
    ∧ (remote → rank.val = ownRank s →
      (exec (.bar2RemoteAccess rank a .write64 w) s = exec (.mgmtWrite a 8 w true) s)
      ∧ (Reads s b → Does (.bar2RemoteAccess rank a .read64 w) s [] (fun t => (p' t).done = p.done ++ [⟨b, .done, (readReg s b).toNat⟩]
        ∧ exec (.bar2RemoteAccess rank a .readLow w) s = .next (barDone s b .done ((readReg s b).toNat % 2 ^ 32))
        ∧ exec (.bar2RemoteAccess rank a .readHigh w) s = .next (barDone s b .done ((readReg s b).toNat / 2 ^ 32))))
      ∧ (b % 8 = 0 → hidden s b = false → dieAway s b = false → placeOf b = .none → Goes (exec (.bar2RemoteAccess rank a .read64 w) s) (fun t => (p' t).done = p.done ++ [⟨b, .done, 0⟩]
        ∧ Discarded s { t with hub := s.hub } b false 2)))
    ∧ (remote → rank.val ≠ ownRank s → rankPresent s rank = false → Does (.bar2RemoteAccess rank a op w) s [] (fun t => Reported s t 0x011D 0
        ∧ (p' t).done = p.done ++ if op = .write64 then [] else [⟨b, .unsupported, 0⟩]))
    ∧ (remote → rank.val ≠ ownRank s → rankPresent s rank = true → Goes (exec (.bar2RemoteAccess rank a op w) s) (fun t => t.mem = s.mem
        ∧ Outgoing t 4 (connIx rank 4 2) (fun x => x.kind = 6 ∧ x.addr = b ∧ fieldLE x.body 2 1 = opCode op ∧ (op = .write64 → fieldLE x.body 8 8 = w.toNat))
        ∧ (isRead op → (p' t).fwd = p.fwd ++ [⟨p.fwdTag, rank, b, opCode op⟩])))
    ∧ (served s = false → Nothing .managementRequest s)
    ∧ (served s = true → Delivers (v 6) u 6 (fun _ => true) ep g → (fop = 4 → exec .managementRequest s = .next (mgmtWrite u g.addr 8 (BitVec.ofNat 64 (fieldLE g.body 8 8)) true))
      ∧ (fop = 1 → Reads u g.addr → g.srcRank < 16 → Goes (exec .managementRequest s) (fun t => t.mem = s.mem
        ∧ Outgoing t 4 (connIx g.srcRank 4 2) (fun x => x.kind = 7 ∧ fieldLE x.body 0 2 = fieldLE g.body 0 2 ∧ fieldLE x.body 2 1 = 0 ∧ fieldLE x.body 8 8 = (readReg u g.addr).toNat))))
    ∧ (Delivers (v 7) u 7 (fun _ => true) ep g →
      ((p' u).fwd.find? (fun f => f.tag == fieldLE g.body 0 2 && f.rank == g.srcRank) = none → exec .managementResponse s = .next u)
      ∧ (∀ f, (p' u).fwd.find? (fun f => f.tag == fieldLE g.body 0 2 && f.rank == g.srcRank) = some f → Goes (exec .managementResponse s) (fun t =>
        (p' t).done = (p' u).done ++ [⟨f.addr, if fop = 2 then .poisoned else .done, fieldLE g.body 8 8⟩] ∧ t.mem = s.mem
        ∧ (p' t).fwd = (p' u).fwd.filter (fun x => !(x.tag == fieldLE g.body 0 2 && x.rank == g.srcRank)))))
    ∧ (p.fwd.find? (fun f => f.tag == tag) = none → Nothing (.forwardedReadTimeout tag) s)
    ∧ (∀ f, p.fwd.find? (fun f => f.tag == tag) = some f → Does (.forwardedReadTimeout tag) s [HP_FWD_CTL] (fun t => (p' t).done = p.done ++ [⟨f.addr, .aborted, 0⟩]
        ∧ (p' t).fwd = p.fwd.filter (fun x => x.tag != tag) ∧ Reported s t 0x0802 0 ∧ getF t HP_FWD_CTL_FWD_CA = (getF s HP_FWD_CTL_FWD_CA + 1) % 2 ^ 16))
    ∧ (¬ side ∨ ¬ shape → Nothing (.i3cPrivateWrite bytes) s)
    ∧ (side → shape → (served s = false → Does (.i3cPrivateWrite bytes) s [] (fun t => t.side.i3c = some (0, 1)))
      ∧ (served s = true → acc = 1 → Reads s addr → Does (.i3cPrivateWrite bytes) s [] (fun t => t.side.i3c = some ((readReg s addr).toNat, 0)))
      ∧ (served s = true → acc = 2 → let z := BitVec.ofNat 64 (leVal (bytes.drop 6))
        Goes (exec (.i3cPrivateWrite bytes) s) (fun t => t.side.i3c = some (0, b2n (writeRefusal s addr 8 z).isSome) ∧ t.regs = (mgmtWrite s addr 8 z true).regs ∧ t.mem = (mgmtWrite s addr 8 z true).mem)))
    ∧ (side → Does .i3cPrivateRead s [] (fun t => t.side.i3c = none ∧ t.side.i3cOut = s.side.i3cOut ++ [s.side.i3c.getD (0, 1)])) ∧ (¬ side → Nothing .i3cPrivateRead s)

/-- R395, R413: each instruction of the test port selects its data register and drives the pins as it says; the ones kept for debug act only under a debug certificate; without the
sideband's clock nothing moves. -/
def Obligations.TestPort : Prop :=
  ∀ (s : State) (pins preload : Nat) (d : Fin 14) (dr : BitVec 112),
    let sel (c : Instr) (ir v : Nat) (drive : PinDrive) : Prop := Does c s [] (fun t => t.side = { s.side with
      ir := ir
      dr := v
      drive := drive
      bsr := t.side.bsr
      dieSel := t.side.dieSel })
    let z := dr.toNat
    let addr := bitsN z 47 8
    let data := BitVec.ofNat 64 (bitsN z 111 48)
    let priv := jtagPrivate s = true
    (sideUp s = false → ∀ c, c ∈ [Instr.extest pins, .samplePreload pins preload, .idcode, .clamp, .highz, .bypass, .traceTap, .dieSel d, .tapReset, .mgmtAcc dr] → Nothing c s)
    ∧ (sideUp s = true →
      sel (.extest pins) 0 pins .extest ∧ sel (.samplePreload pins preload) 1 pins .normal ∧ Does (.samplePreload pins preload) s [] (fun t => t.side.bsr = preload)
      ∧ sel .idcode 2 0x4D585531 .normal ∧ sel .clamp 3 0 .clamp ∧ sel .highz 4 0 .highz ∧ sel .bypass 0xFF 0 .normal
      ∧ sel .tapReset 2 0x4D585531 .normal ∧ Does .tapReset s [] (fun t => t.side.dieSel = none)
      ∧ (¬ priv → sel .traceTap 0xFF 0 .normal ∧ sel (.dieSel d) 0xFF 0 .normal ∧ sel (.mgmtAcc dr) 0xFF 0 .normal)
      ∧ (priv → sel .traceTap 0x41 (leVal (s.read.queue.flatMap (leBytes 32))) .normal ∧ sel (.dieSel d) 0x42 0 .normal ∧ Does (.dieSel d) s [] (fun t => t.side.dieSel = some d.val)
        ∧ (z % 256 = 1 → served s = true → Reads s addr → sel (.mgmtAcc dr) 0x40 (readReg s addr).toNat .normal)
        ∧ (z % 256 = 2 → served s = true → Goes (exec (.mgmtAcc dr) s) (fun t => t.side.ir = 0x40 ∧ t.side.dr = b2n (writeRefusal s addr 8 data).isSome * 2 ^ 64
          ∧ t.regs = (mgmtWrite s addr 8 data true).regs ∧ t.mem = (mgmtWrite s addr 8 data true).mem))
        ∧ (z % 256 = 1 ∨ z % 256 = 2 → served s = false → sel (.mgmtAcc dr) 0x40 (2 ^ 64) .normal)
        ∧ (z % 256 ≠ 1 → z % 256 ≠ 2 → sel (.mgmtAcc dr) 0x40 0 .normal)))

namespace Sys2Proof.Claims
open Machine

/-- R331, R334: a unit has taken its cut: each register that it holds, or that shows other state, stands in its shadow as it read, and its tags hold the ID. -/
def Cut (s t : State) (c : Cover) (id : Nat) : Prop :=
  (∀ a, ((coveredBy c a = true ∧ a ∈ s.regs.map (·.1)) ∨ a ∈ viewedRegs s c) → adrOff a + shadowOff < tagOff → rd t (a + shadowOff) = readReg s a)
  ∧ ∀ p, p ∈ tagBlocks c → hasTag p.1 p.2 = true → rd t (adr p.1 p.2 tagOff) = BitVec.ofNat 64 (id % 65536 + 65536)

/-- R336, R337: what happens to a record of a kind from a source: where that source produces none, nothing; with the queue full it is lost; else it joins the queue with
its source, number, time and content. -/
def Traced (s t : State) (kind src idx info x : Nat) : Prop :=
  (traceOn s kind src = false → t = s)
  ∧ (traceOn s kind src = true → 64 ≤ s.read.queue.length → getF t SN_TRC_STS_LOST = (getF s SN_TRC_STS_LOST + 1) % 2 ^ 32
    ∧ SameRegs s t [SN_TRC_STS] ∧ t = { s with regs := t.regs })
  ∧ (traceOn s kind src = true → s.read.queue.length < 64 → t = { s with read := t.read } ∧ t.read.seq = (s.read.seq + 1) % 2 ^ 16 ∧ ∃ r, t.read.queue = s.read.queue ++ [r]
    ∧ r % 2 ^ 8 = kind ∧ r / 2 ^ 8 % 2 ^ 8 = src ∧ r / 2 ^ 16 % 2 ^ 16 = s.read.seq ∧ r / 2 ^ 32 % 2 ^ 48 = traceTime s src
    ∧ r / 2 ^ 80 % 2 ^ 16 = idx % 2 ^ 16 ∧ r / 2 ^ 96 % 2 ^ 32 = info % 2 ^ 32 ∧ r / 2 ^ 128 = x % 2 ^ 64)

end Sys2Proof.Claims


/-- R330-R335: SNAP is refused while a live promise holds interposer ropes; else the hub takes its cut and holds. The first marker that reaches a unit in scope makes it take
its own; a die's confirm sets its CUT bit and the last one sends release and ends the hub's hold; release ends a die's; a hold beyond its limit ends LATE and the snapshot is
TORN. -/
def Sys2Proof.Claims.Snapshots : Prop :=
  ∀ (s : State) (id : BitVec 16) (v : SnapUnit) (n : Die),
    let w := cmdWord [(SN_CMD_OP, 1), (SN_CMD_ID, id.toNat)]
    let dies := (List.range 4).filter (dieUp s)
    let held := gatewayHeld s n = true
    (Takes s SN_CMD w →
      (liveIpShares s = true ∨ s.boot.resetting = true → Does (.snap id) s [SN_CMD, SN_STS] (fun t => getF t SN_CMD_STATUS = 3 ∧ getF t SN_STS_REFUSE = 1
        ∧ t = { s with regs := t.regs }))
      ∧ (liveIpShares s = false → s.boot.resetting = false → dies ≠ [] → Goes (exec (.snap id) s) (fun t => getF t SN_CMD_STATUS = 1 ∧ getF t SN_STS_ID = id.toNat
        ∧ getF t SN_STS_CUT = 0 ∧ (∀ d : Die, bitN (getF t SN_STS_SKIPPED) d = b2n (!dieUp s d)) ∧ getF t SN_STS_LATE = 0 ∧ getF t SN_STS_TORN = 0 ∧ getF t SN_STS_REFUSE = 0
        ∧ t.read.snap = some ⟨id.toNat, dies, [], false⟩ ∧ gatewayHeld t 4 = true ∧ (∀ d : Die, gatewayHeld t d = gatewayHeld s d) ∧ Cut s t .hub id.toNat
        ∧ SameRegsBut s t (fun a => a = SN_CMD ∨ a = SN_STS ∨ shadowOff ≤ adrOff a) ∧ t.mem = s.mem)))
    ∧ (s.read.snap = none → Nothing (.snapshotMarker v) s ∧ Nothing (.snapshotConfirm n) s)
    ∧ (∀ x, s.read.snap = some x →
      (inScope s x v = false ∨ x.cut.contains (snapKey v) = true → Nothing (.snapshotMarker v) s)
      ∧ (inScope s x v = true → x.cut.contains (snapKey v) = false → Goes (exec (.snapshotMarker v) s) (fun t => Cut s t (.unit (snapKey v)) x.id
        ∧ (t.read.snap = some { x with cut := x.cut ++ [snapKey v] } ∨ (t.read.snap = none ∧ x.sent = true ∧ getF t SN_CMD_STATUS = 2))
        ∧ (∀ d, v = .die d → gatewayHeld t d = true)
        ∧ SameRegsBut s t (fun a => a = SN_CMD ∨ a = SN_STS ∨ a = SN_TRC_STS ∨ shadowOff ≤ adrOff a) ∧ t.mem = s.mem))
      ∧ (x.dies.contains n.val = false ∨ dieCut x n = false → Nothing (.snapshotConfirm n) s)
      ∧ (x.dies.contains n.val = true → dieCut x n = true → Does (.snapshotConfirm n) s [SN_STS, SN_CMD, SN_TRC_STS] (fun t => bitN (getF t SN_STS_CUT) n = 1
        ∧ (x.sent = false → (∀ d, d ∈ x.dies → d ≠ n.val → bitN (getF s SN_STS_CUT) d = 1) → gatewayHeld t 4 = false
          ∧ ∀ d : Die, x.dies.contains d.val = true → gatewayHeld s d = true → t.read.rel.contains d.val = true))))
    ∧ (s.read.rel.contains n.val = false → Nothing (.snapshotRelease n) s)
    ∧ (s.read.rel.contains n.val = true → Does (.snapshotRelease n) s [SN_STS] (fun t => gatewayHeld t n = false ∧ t.read.rel.contains n.val = false
        ∧ getF t SN_STS_HOLD_NS = max (getF s SN_STS_HOLD_NS) (min (heldFor s n) 65535) ∧ t = { s with regs := t.regs, read := t.read }))
    ∧ (¬ held → Nothing (.snapshotHoldLimit n) s)
    ∧ (held → s.hub.down = false → (dieGet s n).hubAbsent = false → Does (.snapshotHoldLimit n) s [SN_STS] (fun t => gatewayHeld t n = false ∧ bitN (getF t SN_STS_LATE) n = 1
        ∧ getF t SN_STS_TORN = 1 ∧ t = { s with regs := t.regs, read := t.read }))
    ∧ (held → s.hub.down = true ∨ (dieGet s n).hubAbsent = true → Does (.snapshotHoldLimit n) s [] (fun t => gatewayHeld t n = false ∧ t = { s with read := t.read }))

/-- R327, R336, R337: CONDITIONAL_CLEAR clears a flag whose occurrence count is the one expected, and says why it does not; each thing that happens is traced where its
kind and its source are enabled; the trace unit writes its oldest record at TAIL, or stops at a full ring; TRACE_MARK. -/
def Sys2Proof.Claims.TraceAndConditionalClear : Prop :=
  ∀ (s : State) (a : BitVec 36) (bit : Fin 64) (expect : BitVec 16) (n : Die) (i : Fin 4096) (old : Fin 8) (p : PlyId) (j : Fin 8) (r : Rope) (c : Fin 5) (df : Bool) (slot : Fin 256)
    (z : Nat) (mark : BitVec 32),
    let b := a.toNat / 8 * 8
    let u := adrUnit b
    let w := cmdWord [(SN_CCLR_ADDR, a.toNat / 8), (SN_CCLR_BIT, bit.val), (SN_CCLR_EXPECT, expect.toNat)]
    let w' := cmdWord [(SN_TRC_MARK_VALUE, mark.toNat)]
    let said (sts o k : Nat) (t : State) : Prop := getF t SN_CCLR_STATUS = sts ∧ getF t SN_CCLR_RES_OUTCOME = o ∧ getF t SN_CCLR_RES_COUNT = k ∧ t = { s with regs := t.regs }
    let fails (o : Nat) : Prop := Does (.conditionalClear a bit expect) s [SN_CCLR, SN_CCLR_RES] (said 3 o 0)
    let traced (e : TraceIn) (kind src idx info x : Nat) : Prop := Goes (exec (.traceRecord e) s) (fun t => Traced s t kind src idx info x)
    let rec_ := rd s (if df then FC_LOG_DF c slot 0 else FC_LOG_C c slot 0)
    let h := getF s (SN_TRC_KNOT_HANDLE j)
    let size := traceSize s
    let tail := getF s SN_TRC_PTR_TAIL % size
    let pa := 4096 * getF s SN_TRC_RING_BASE + 32 * tail
    let stuck := getF s SN_TRC_CTL_STOP = 1 ∧ (tail + 1) % size = getF s SN_TRC_PTR_HEAD % size
    (Takes s SN_CCLR w →
      (u = 7 ∨ 10 < u → fails 5)
      ∧ (u ≠ 7 → u ≤ 10 → (∀ c x, placeOf b = .reg c x → bitN c.w1c bit = 0) → fails 4)
      ∧ (∀ c x, u ≠ 7 → u ≤ 10 → placeOf b = .reg c x → bitN c.w1c bit = 1 →
        (dieAway s b = true → fails 6)
        ∧ (dieAway s b = false → let f : Fld := ⟨b, bit, bit, flagIndex c.w1c bit⟩
          (occOf s f = expect.toNat → Does (.conditionalClear a bit expect) s [SN_CCLR, SN_CCLR_RES, b] (fun t => said 2 0 (occOf s f) t ∧ rd t b = putBits (rd s b) bit bit 0))
          ∧ (occOf s f ≠ expect.toNat → Does (.conditionalClear a bit expect) s [SN_CCLR, SN_CCLR_RES] (said 2 1 (occOf s f))))))
    ∧ (s.read.seq < 2 ^ 16 →
      (∀ c x, placeOf b = .reg c x → bitN c.w1c bit = 1 → (rd s b).getLsbD bit = true → traced (.flag b bit) 1 (traceSrc u) (u + 16 * adrBlk b) (adrOff b + 2 ^ 20 * bit) 0)
      ∧ traced (.ledger n i old) 2 n i (old + 8 * getF s (CH_LEDGER_STATE n i) + 64 * getF s (CH_LEDGER_RISK n i)) (getF s (CH_LEDGER_TAG n i))
      ∧ traced (.ply p old) 3 p.n p.b (p.q + 4 * old + 32 * plyState s p.n p.b p.q + 256 * getF s (CD_PLY_CAUSE_CAUSE p.n p.b p.q)) (getPc s p)
      ∧ (getF s (SN_TRC_KNOT_EN j) = 1 → traced (.knot j) 4 (getF s (SN_TRC_KNOT_CHAN j)) 0 (h + 2 ^ 16 * getF s (kGen h)) 0)
      ∧ (r.val < 24 → traced (.rope r old) 5 5 (r + 1) (old + 8 * ropeState s r) 0) ∧ (24 ≤ r.val → traced (.rope r old) 5 6 (r - 24) (old + 8 * ropeState s r) 0)
      ∧ traced (.fault c df slot) 6 c 0 0 rec_.toNat
      ∧ (Takes s SN_TRC_MARK w' → Does (.traceMark mark) s [SN_TRC_MARK, SN_TRC_STS] (fun t => getF t SN_TRC_MARK_STATUS = (if traceOn s 8 4 then 2 else 3)
        ∧ ∃ v, Traced s v 8 4 0 mark.toNat 0 ∧ t.read = v.read ∧ getF t SN_TRC_STS_LOST = getF v SN_TRC_STS_LOST)))
    ∧ (getF s (SN_TRC_KNOT_EN j) = 0 → Nothing (.traceRecord (.knot j)) s)
    ∧ (s.read.queue = [] ∨ getF s SN_TRC_STS_STOPPED = 1 → Nothing (.traceRecord .write) s)
    ∧ (s.read.queue ≠ [] → getF s SN_TRC_STS_STOPPED = 0 → stuck → Does (.traceRecord .write) s (flagRegs SN_TRC_STS_STOPPED) (fun t => Flagged s t SN_TRC_STS_STOPPED
        ∧ t = { s with regs := t.regs }))
    ∧ (∀ rest, s.read.queue = z :: rest → getF s SN_TRC_STS_STOPPED = 0 → ¬ stuck → Writable s pa → Goes (exec (.traceRecord .write) s) (fun t =>
        readBytes t pa 32 = leBytes 32 z ∧ SameMem s t (within pa 32) ∧ t.read.queue = rest ∧ getF t SN_TRC_PTR_TAIL = (tail + 1) % size
        ∧ SameRegs s t (SN_TRC_PTR :: flagRegs SN_TRC_STS_WRAPPED)
        ∧ (getF s SN_TRC_CTL_STOP = 0 → size ≤ s.read.count → Flagged s t SN_TRC_STS_WRAPPED)))

/-- R327-R337: snapshots, the trace, and conditional clears. -/
def Obligations.ReadingState : Prop := Sys2Proof.Claims.Snapshots ∧ Sys2Proof.Claims.TraceAndConditionalClear

namespace Sys2Proof.Claims
open Machine

/-- Table 11-2: the eight words of a record stand at an address of a log. -/
def Logged (t : State) (a : Nat) (ws : List Nat) : Prop := ∀ i, i < 8 → rd t (a + 8 * i) = BitVec.ofNat 64 (ws.getD i 0)

/-- R345: the record `o` of collector `c` is OPEN no more, and its slot, where that still holds it, says `st`. -/
def Left (s t : State) (c : Nat) (o : OpenD) (st : Nat) : Prop :=
  (∀ p, p ∈ t.hub.fc.opens → ¬ (p.1 = c ∧ p.2.seq = o.seq)) ∧ (bitsOf (rd s (FC_LOG_DF c o.slot 1)) 63 32 = o.seq → getF t ⟨FC_LOG_DF c o.slot 0, 15, 8, 0⟩ = st)

/-- R352: the first S fault is latched, and the package is in its safe state. -/
def Latched (s u t : State) (cause unit inst : Nat) : Prop :=
  t = enterSafe u ∧ pkgSafe t = true
  ∧ (getF s FC_GRAVE_VALID = 1 → rd u (FC_GRAVE 0) = rd s (FC_GRAVE 0) ∧ rd u (FC_GRAVE 1) = rd s (FC_GRAVE 1))
  ∧ (getF s FC_GRAVE_VALID = 0 → getF u FC_GRAVE_VALID = 1 ∧ getF u FC_GRAVE_CAUSE = cause % 2 ^ 16 ∧ getF u FC_GRAVE_UNIT = unit % 16 ∧ getF u FC_GRAVE_INSTANCE = inst % 2 ^ 16
    ∧ getF u FC_GRAVE_TIME = hubClock s % 2 ^ 48)

/-- R346, R348: the fence of channel `c` has begun for a cause; in the package collector nothing more happens. -/
def Fences (u t : State) (c cause : Nat) : Prop :=
  (c = 4 → t = u) ∧ (c < 4 → pkgSafe u = false → opensOf u c = [] → getF u (FC_STS_FENCED c) = 0 → ∃ v,
    t = fcMod (fenceBricks v c) (fun x => { x with fencing := x.fencing ++ [c] }) ∧ getF v (FC_STS_FENCED c) = 1 ∧ getF v (FC_STS_FENCE_CAUSE c) = cause % 2 ^ 16
    ∧ SameRegs u v [FC_STS c] ∧ v.mem = u.mem)

end Sys2Proof.Claims


/-- R47, R338-R344, R347, R352: the first report that can be dealt with reaches its collector: a class C record in the C ring; a class D record that opens, is merged, or is
escalated for want of room; a class F record and its fence; a class S record, its latch and the safe state. A die that holds the hub absent records its own. -/
def Sys2Proof.Claims.FaultReports : Prop :=
  ∀ (s : State) (r : Report) (rest : List Report) (c : Nat),
    let e := epochAt s c
    let df := getF s (FC_LOG_PTR_DF_TAIL c)
    let ct := getF s (FC_LOG_PTR_C_TAIL c)
    let full := (ct + 1) % 512 = getF s (FC_LOG_PTR_C_HEAD c)
    let dfRegs := FC_LOG_PTR c :: (List.range 8).map (FC_LOG_DF c df)
    let room := dfRoom s c = true
    let wrote (cls : FClass) (t : State) : Prop := Logged t (FC_LOG_DF c df 0) (fcWords s c cls r e 0) ∧ getF t (FC_LOG_PTR_DF_TAIL c) = (df + 1) % 256 ∧ fcSeq t c = (fcSeq s c + 1) % 2 ^ 32
    let lost (k : Nat) (t : State) : Prop := getF t (FC_LOG_PTR_DF_LOST c) = (getF s (FC_LOG_PTR_DF_LOST c) + k) % 2 ^ 14
    let o : OpenD := ⟨fcSeq s c, df, r.cause, r.mask, r.block, r.inst, s.hubTime + windowNs s c⟩
    let like (o : OpenD) : Bool := o.cause == r.cause && o.mask == r.mask && o.block == r.block && o.inst == r.inst
    ((∀ r, r ∈ s.reports → reportReady s r = false) → Nothing .faultReport s)
    ∧ (s.reports = r :: rest → reportReady s r = true → localDie s r = none → ((r.mask % 16 = 0 ∧ c = 4) ∨ (r.mask % 16 = 2 ^ c ∧ c < 4)) →
      (classOf r.cause = .c →
        (s.hub.fc.stopped.contains c = true → Does .faultReport s (flagRegs (FC_STS_C c)) (fun t => Flagged s t (FC_STS_C c) ∧ t = { s with regs := t.regs, reports := rest }))
        ∧ (s.hub.fc.stopped.contains c = false → Does .faultReport s (flagRegs (FC_STS_C c) ++ FC_LOG_PTR c :: (List.range 8).map (FC_LOG_C c ct)) (fun t =>
          Flagged s t (FC_STS_C c) ∧ Logged t (FC_LOG_C c ct 0) (fcWords s c .c r e 0) ∧ getF t (FC_LOG_PTR_C_TAIL c) = (ct + 1) % 512 ∧ fcSeq t c = (fcSeq s c + 1) % 2 ^ 32
          ∧ (full → getF t (FC_LOG_PTR_C_LOST c) = (getF s (FC_LOG_PTR_C_LOST c) + 1) % 2 ^ 16 ∧ getF t (FC_LOG_PTR_C_HEAD c) = (ct + 2) % 512)
          ∧ (¬ full → getF t (FC_LOG_PTR_C_LOST c) = getF s (FC_LOG_PTR_C_LOST c)) ∧ t.reports = rest)))
      ∧ (classOf r.cause = .d →
        (∀ p, (opensOf s c).find? like = some p → p.slot < 256 → bitsOf (rd s (FC_LOG_DF c p.slot 1)) 63 32 = p.seq →
          Does .faultReport s (flagRegs (FC_STS_D c) ++ [FC_LOG_DF c p.slot 2]) (fun t => Flagged s t (FC_STS_D c)
            ∧ bitsOf (rd t (FC_LOG_DF c p.slot 2)) 63 48 = min (bitsOf (rd s (FC_LOG_DF c p.slot 2)) 63 48 + 1) 65535 ∧ t = { s with regs := t.regs, reports := rest }))
        ∧ ((opensOf s c).find? like = none →
          (room → Does .faultReport s (flagRegs (FC_STS_D c) ++ dfRegs) (fun t => Flagged s t (FC_STS_D c) ∧ wrote .d t ∧ t.hub.fc.opens = s.hub.fc.opens ++ [(c, o)]
            ∧ getF t (FC_STS_OPEN_D c) = ((opensOf s c).length + 1) % 512 ∧ t.reports = rest
            ∧ t.knotOps = s.knotOps ++ if c < 4 ∧ getF s (FC_CTL_KEN c) = 1 then [⟨.engine c, getF s (FC_CTL_KNOT c), .arrive, false, false, 0, 0⟩] else []))
          ∧ (¬ room → pkgSafe s = true → Does .faultReport s (flagRegs (FC_STS_D c) ++ [FC_LOG_PTR c]) (fun t => Flagged s t (FC_STS_D c) ∧ lost 1 t))
          ∧ (¬ room → pkgSafe s = false → Goes (exec .faultReport s) (fun t => ∃ u, Fences u t c 0x0901 ∧ Flagged s u (FC_STS_D c) ∧ Flagged s u (FC_STS_ESC c) ∧ Flagged s u (FC_STS_F c)
            ∧ lost 2 u ∧ SameRegs s u (flagRegs (FC_STS_D c) ++ [FC_LOG_PTR c]) ∧ u.mem = s.mem))))
      ∧ (classOf r.cause = .f → Goes (exec .faultReport s) (fun t => ∃ u, Fences u t c r.cause ∧ Flagged s u (FC_STS_F c) ∧ (room → wrote .f u) ∧ (¬ room → lost 1 u)
        ∧ SameRegs s u (flagRegs (FC_STS_F c) ++ dfRegs) ∧ u.mem = s.mem ∧ u.reports = rest))
      ∧ (classOf r.cause = .s → Goes (exec .faultReport s) (fun t => ∃ u, Latched s u t r.cause r.unit r.inst ∧ (room → wrote .s u) ∧ (¬ room → lost 1 u)
        ∧ SameRegs s u (dfRegs ++ [FC_GRAVE 0, FC_GRAVE 1]) ∧ u.mem = s.mem ∧ u.reports = rest)))
    ∧ (∀ n, s.reports = r :: rest → localDie s r = some n → r.mask = 0 ∨ r.mask = 2 ^ n →
      let d := dieGet s n
      Goes (exec .faultReport s) (fun t => t.mem = s.mem
        ∧ (d.localFaults.length < 64 → ((classOf r.cause = .c ∨ classOf r.cause = .d) → (dieGet t n).localFaults = d.localFaults ++ [(r, epochAt s n)] ∧ t.regs = s.regs))
        ∧ (64 ≤ d.localFaults.length → ((classOf r.cause = .c ∨ classOf r.cause = .d) → (dieGet t n).localLost = d.localLost + 1 ∧ t.regs = s.regs))
        ∧ (classOf r.cause = .f → (dieGet t n).localFence = true) ∧ (classOf r.cause = .s → (dieGet t n).grave = true)))

/-- R345-R350, R354, R356: an OPEN record is escalated when its window expires, and leaves OPEN when its condition ends or software resolves it; RELEASE of a fence and each of its
refusals; the ropes of a channel whose fence is complete are held; a collector that disagrees with its copy; ARM and DISARM of an injection. -/
def Sys2Proof.Claims.FaultRecovery : Prop :=
  ∀ (s : State) (c : Fin 5) (n : Die) (i : Fin 256) (seq : BitVec 32) (kind : BitVec 8) (inst k : BitVec 16),
    let df := getF s (FC_LOG_PTR_DF_TAIL c)
    let w := cmdWord [(FC_CMD_OP c, 1), (FC_CMD_SEQ c, seq.toNat)]
    let w' := cmdWord [(FC_CMD_OP c, 2)]
    let wa := cmdWord [(FC_INJ_OP, 1), (FC_INJ_KIND, kind.toNat), (FC_INJ_INSTANCE, inst.toNat), (FC_INJ_N, k.toNat)]
    let wd := cmdWord [(FC_INJ_OP, 2), (FC_INJ_KIND, kind.toNat), (FC_INJ_INSTANCE, inst.toNat)]
    let refused (r : Nat) (t : State) : Prop := getF t (FC_CMD_STATUS c) = 3 ∧ getF t (FC_CMD_REASON c) = r ∧ t = { s with regs := t.regs }
    let inj (sts r : Nat) (t : State) : Prop := getF t FC_INJ_STATUS = sts ∧ getF t FC_INJ_REASON = r ∧ t = { s with regs := t.regs }
    let up := getF s (CD_HBM_STS_STATE c 0) = 3 ∧ getF s (CD_HBM_STS_STATE c 1) = 3
    let slot := injSlot s kind.toNat inst.toNat
    let free := (List.range 8).find? (fun j => getF s (FC_INJ_SLOT_ARMED j) == 0)
    let off := pkgSafe s = true ∨ s.hub.down = true ∨ s.hub.fc.pausedAt ≠ none
    (off ∨ openAt s c i = none → Nothing (.windowExpiry c i) s)
    ∧ (∀ o, openAt s c i = some o → ¬ off → Goes (exec (.windowExpiry c i) s) (fun t => ∃ u, Fences u t c 0x0901 ∧ Flagged s u (FC_STS_ESC c) ∧ Flagged s u (FC_STS_F c)
        ∧ (df ≠ i → Left s u c o 3) ∧ u.mem = s.mem ∧ u.hubTime = max s.hubTime o.due
        ∧ (dfRoom s c = true → bitsOf (rd u (FC_LOG_DF c df 0)) 47 32 = 0x0901 ∧ bitsOf (rd u (FC_LOG_DF c df 3)) 63 48 = o.seq % 2 ^ 16 ∧ getF u (FC_LOG_PTR_DF_TAIL c) = (df + 1) % 256)
        ∧ (dfRoom s c = false → getF u (FC_LOG_PTR_DF_LOST c) = (getF s (FC_LOG_PTR_DF_LOST c) + 1) % 2 ^ 14)))
    ∧ (pkgSafe s = true ∨ openAt s c i = none → Nothing (.hardwareClear c i) s)
    ∧ (∀ o, openAt s c i = some o → pkgSafe s = false → (clearable s o = false → Nothing (.hardwareClear c i) s)
      ∧ (clearable s o = true → Does (.hardwareClear c i) s [FC_LOG_DF c i 0, FC_STS c] (fun t => Left s t c o 2 ∧ getF t (FC_STS_OPEN_D c) = (opensOf t c).length % 512 ∧ t.reports = s.reports)))
    ∧ (Takes s (FC_CMD c) w → (∀ o, (opensOf s c).find? (fun o => o.seq == seq.toNat) = some o → o.slot < 256 → Does (.resolve c seq) s [FC_CMD c, FC_LOG_DF c o.slot 0, FC_STS c] (fun t =>
        getF t (FC_CMD_STATUS c) = 2 ∧ getF t (FC_CMD_REASON c) = 0 ∧ Left s t c o 1 ∧ getF t (FC_STS_OPEN_D c) = (opensOf t c).length % 512))
      ∧ ((opensOf s c).find? (fun o => o.seq == seq.toNat) = none → Does (.resolve c seq) s [FC_CMD c] (refused
        (if tabGet (fun _ => (0, 0)) s.hub.fc.escLast c = (seq.toNat, s.hubTime) ∧ s.hubTime ≠ 0 then 2 else 1))))
    ∧ (Takes s (FC_CMD c) w' →
      let fenced := c.val < 4 ∧ getF s (FC_STS_FENCED c) = 1
      let back := getF s (CH_DIE_STS_STATE c) = 5
      (¬ fenced → Does (.release c) s [FC_CMD c] (refused 3)) ∧ (fenced → ¬ back → Does (.release c) s [FC_CMD c] (refused 4))
      ∧ (fenced → back → ¬ up → Does (.release c) s [FC_CMD c] (refused 5)) ∧ (fenced → back → up → opensOf s c ≠ [] → Does (.release c) s [FC_CMD c] (refused 6))
      ∧ (fenced → back → up → opensOf s c = [] → Goes (exec (.release c) s) (fun t => getF t (FC_CMD_STATUS c) = 2 ∧ getF t (FC_CMD_REASON c) = 0 ∧ getF t (FC_STS_FENCED c) = 0
        ∧ getF t (CH_DIE_STS_STATE c) = 3 ∧ (∀ r, r ∈ chanRopes c → ropeState s r = 5 → ropeState t r = 2) ∧ t.mem = s.mem)))
    ∧ (s.hub.fc.fencing.contains n.val = false ∨ pkgSafe s = true → Nothing (.fenceComplete n) s)
    ∧ (s.hub.fc.fencing.contains n.val = true → pkgSafe s = false → Goes (exec (.fenceComplete n) s) (fun t => ∀ r, r ∈ chanRopes n → ropeState t r = 0 ∨ ropeState t r = 5))
    ∧ Goes (exec (.collectorMismatch c) s) (fun t => ∃ u, Latched s u t 0x0902 9 c ∧ u.hub.fc.stopped.contains c.val = true ∧ u.mem = s.mem)
    ∧ (Takes s FC_INJ wa →
      let debug := bitN s.boot.debug 0 = 1
      let known := checkerExists kind.toNat inst.toNat = true
      (¬ debug → Does (.arm kind inst k) s [FC_INJ] (inj 3 1)) ∧ (debug → ¬ known → Does (.arm kind inst k) s [FC_INJ] (inj 3 2))
      ∧ (debug → known → k = 0 → Does (.arm kind inst k) s [FC_INJ] (inj 3 3))
      ∧ (debug → known → k ≠ 0 → slot ≠ none ∨ free = none → Does (.arm kind inst k) s [FC_INJ] (inj 3 4))
      ∧ (∀ j, debug → known → k ≠ 0 → slot = none → free = some j → Does (.arm kind inst k) s [FC_INJ, FC_INJ_SLOT j] (fun t => inj 2 0 t
        ∧ getF t (FC_INJ_SLOT_KIND j) = kind.toNat ∧ getF t (FC_INJ_SLOT_INSTANCE j) = inst.toNat ∧ getF t (FC_INJ_SLOT_REMAINING j) = k.toNat ∧ getF t (FC_INJ_SLOT_ARMED j) = 1)))
    ∧ (Takes s FC_INJ wd → (∀ j, slot = some j → Does (.disarm kind inst) s [FC_INJ, FC_INJ_SLOT j] (fun t => inj 2 0 t ∧ rd t (FC_INJ_SLOT j) = 0))
      ∧ (slot = none → Does (.disarm kind inst) s [FC_INJ] (inj 3 6)))

/-- R338-R357: fault reports and their records; resolution, fences and release. -/
def Obligations.FaultCollection : Prop := Sys2Proof.Claims.FaultReports ∧ Sys2Proof.Claims.FaultRecovery

namespace Sys2Proof.Claims
open Machine

/-- R27: a link has been closed: its register shows the good pairs and whether they reach the minimum of Table 1-4. -/
def Closed (s t : State) (l : Nat) : Prop :=
  let k := ((List.range (linkPairs l)).filter (pairTested s l)).length
  getF t (HP_BL_STS_GOOD l) = k ∧ getF t (HP_BL_STS_FAILED_NOW l) = 0 ∧ getF t (HP_BL_STS_USABLE l) = b2n (decide (linkMin l ≤ k))

/-- R42: what the loss of a compute die leaves: it is LOST with its cause, its memory reads as nothing written and its plies and bricks are as after reset. -/
def Lost (s t : State) (n : Nat) (cause : Nat) : Prop :=
  getF t (CH_DIE_STS_STATE n) = 4 ∧ getF t (CH_DIE_STS_CAUSE n) = cause ∧ getF t (CH_DIE_STS_REJOIN n) = 0
  ∧ getF t (CH_DIE_STS_LOST_CNT n) = min (getF s (CH_DIE_STS_LOST_CNT n) + 1) 65535
  ∧ (∀ pa, paOwner pa = some n → memGet t pa = 0) ∧ (∀ b q, b < 384 → q < 4 → plyGet t n b q = PlyX.reset) ∧ (∀ b, b < 384 → brickGet t n b = BrickX.reset)
  ∧ ∃ r, r ∈ t.reports ∧ r.cause = 0x0104 ∧ r.mask = 2 ^ n

end Sys2Proof.Claims


/-- R21-R27: bond frames: a payload frame takes its sequence number and stays until it is acknowledged; a good one in order is delivered with its ack and its credits, one out of
order is discarded, a bad one makes the receiver discard until it comes again, and the eighth failure of one frame fails the pair; NAK replays. A test of the links repairs one
wire of a bundle with the spare, and closes each link when both its phases are done. -/
def Obligations.BondLanes : Prop :=
  ∀ (s : State) (l i : Fin 25) (dir : Bool) (f err : BitVec 576) (q : BitVec 8) (id : Fin 6) (w : WireRef) (n : Die),
    let d := b2n dir
    let b := bondGet s l i d
    let o := bondGet s l i (1 - d)
    let ok := i.val < linkPairs l ∧ pairGood s l i = true
    let g := f ^^^ err
    let num := frameSeq f
    let kept := b.unacked.any (fun e => e.1 == num) = true
    let isNew := num = b.next ∧ ¬ kept
    let new := { b with
      next := (num + 1) % 256
      unacked := b.unacked ++ [(num, f.toNat % 2 ^ 544)] }
    let sent := { b with
      next := if b.next = num then (num + 1) % 256 else b.next
      unacked := if b.next = num then new.unacked else b.unacked }
    let acked (t : State) : Prop := bondGet t l i (1 - d) = { o with
      unacked := ackFrames o.unacked (frameAck g)
      credits := tabMod (fun _ => 0) o.credits (frameVq g) (· + frameCredits g) }
    let arrives := injSlot s 1 (bondInst l i d) = none ∧ frameGood g = true
    let takes := frameType f = 1 ∧ frameGood f = true ∧ ok ∧ ((isNew ∧ b.unacked.length < 64) ∨ (kept ∧ num ≠ b.next))
    let still (t : State) : Prop := t = { s with hub := t.hub } ∧ t.hub = { s.hub with bonds := t.hub.bonds }
    let u := if b.unacked.any (fun e => e.1 == q.toNat) then b.unacked.dropWhile (fun e => e.1 != q.toNat) else b.unacked
    let wb := bondGet s w.link w.pair (b2n w.dir)
    let wires := w.link.val ∈ testLinks id ∧ w.pair.val < linkPairs w.link ∧ wb.failed = false ∧ wb.replaced ≠ w.wire.val
    (¬ ok → Nothing (.bondFrame l i dir f err) s ∧ Nothing (.creditAndAckFrame l i dir f err) s ∧ Nothing (.nak l i dir q) s ∧ Nothing (.creditAckTimer l i dir) s)
    ∧ (¬ isNew → ¬ kept → Nothing (.bondFrame l i dir f err) s) ∧ (isNew → 64 ≤ b.unacked.length → Nothing (.bondFrame l i dir f err) s)
    ∧ (takes → arrives → frameSeq g = b.exp → Goes (exec (.bondFrame l i dir f err) s) (fun t => still t ∧ acked t ∧ bondGet t l i d = { sent with
        exp := (b.exp + 1) % 256
        bad := false
        fails := 0
        got := b.got + 1
        since := b.since + 1 }))
    ∧ (takes → arrives → frameSeq g ≠ b.exp → Goes (exec (.bondFrame l i dir f err) s) (fun t => still t ∧ bondGet t l i d = sent ∧ bondGet t l i (1 - d) = o))
    ∧ (takes → ¬ arrives → (b.fails + 1 < 8 → Goes (exec (.bondFrame l i dir f err) s) (fun t =>
        bondGet t l i d = { sent with
          bad := true
          fails := b.fails + 1 }
        ∧ bondGet t l i (1 - d) = o ∧ SameRegs s t ((injSlot s 1 (bondInst l i d)).map FC_INJ_SLOT).toList))
      ∧ (8 ≤ b.fails + 1 → Goes (exec (.bondFrame l i dir f err) s) (fun t => pairGood t l i = false)))
    ∧ (frameType f = 2 → frameGood f = true → ok → arrives → Goes (exec (.creditAndAckFrame l i dir f err) s) (fun t => still t ∧ acked t
        ∧ bondGet t l i d = { b with since := b.since + 1 }))
    ∧ (ok → Does (.nak l i dir q) s [HP_BL_STS l] (fun t => bondGet t l i d = { b with unacked := u } ∧ bondGet t l i (1 - d) = o
        ∧ getF t (HP_BL_STS_REPLAYS l) = min (getF s (HP_BL_STS_REPLAYS l) + u.length) 65535))
    ∧ (ok → (b.since = 0 → Nothing (.creditAckTimer l i dir) s) ∧ (b.since ≠ 0 → Goes (exec (.creditAckTimer l i dir) s) (fun t => still t
        ∧ bondGet t l i d = { b with since := 0 } ∧ bondGet t l i (1 - d) = o)))
    ∧ (testPhase s id ≠ 1 → Nothing (.interconnectTest id [w]) s) ∧ (testPhase s id ≠ 2 → Nothing (.prbs31Complete id [(w, 1)]) s)
    ∧ (testPhase s id = 1 → (id.val ≠ 5 → Does (.interconnectTest id []) s [] (fun t => testPhase t id = 2))
      ∧ (id.val = 5 → Goes (exec (.interconnectTest id []) s) (fun t => testPhase t id = 0 ∧ t.mem = s.mem ∧ ∀ l, l ∈ testLinks id → Closed s t l))
      ∧ (wires → w.wire.val ≠ 33 → wb.replaced = 0x7F → wb.spareBad = false → Does (.interconnectTest id [w]) s [HP_BL_STS w.link] (fun t => testPhase t id = 1
        ∧ bondGet t w.link w.pair (b2n w.dir) = { wb with
          replaced := w.wire
          field := true }
        ∧ getF t (HP_BL_STS_FIELD w.link) = (getF s (HP_BL_STS_FIELD w.link) + 1) % 64 ∧ Reported s t 0x0101 0))
      ∧ (wires → id.val ≠ 5 → (w.wire.val ≠ 33 ∧ wb.spareBad = true) ∨ wb.replaced ≠ 0x7F → Does (.interconnectTest id [w]) s [] (fun t => testPhase t id = 2
        ∧ bondGet t w.link w.pair (b2n w.dir) = { wb with failed := true })))
    ∧ (testPhase s id = 2 → Goes (exec (.prbs31Complete id []) s) (fun t => testPhase t id = 0 ∧ t.mem = s.mem ∧ ∀ l, l ∈ testLinks id → Closed s t l))
    ∧ (testPhase s 4 = 2 ∨ (id = Fin.castLE (by decide) n ∧ testPhase s id = 2) → getF s (CH_DIE_STS_STATE n) = 1 →
        Goes (exec (.prbs31Complete (if testPhase s 4 = 2 then 4 else id) []) s) (fun t => getF t (CH_DIE_STS_STATE n) = (if getF t (HP_BL_STS_USABLE n) = 1 then 2 else 0)
          ∧ (getF t (HP_BL_STS_USABLE n) = 0 → getF t (CH_DIE_STS_REFUSE n) = 1 ∧ ∃ r, r ∈ t.reports ∧ r.cause = 0x0102 ∧ r.mask = 2 ^ n.val)))

namespace Sys2Proof.Claims
open Machine

/-- Every scoreboard entry and register that waiting work names is one of the brick's. -/
def Bounded (s : State) : Prop := (∀ k, k ∈ s.knotOps → k.seq < 32) ∧ ∀ p : PlyId, ∀ r, (plyGet s p.n p.b p.q).wait = some r → r.d < 32

/-- R29: the capsule that HP_CAPSULE shows for a die. -/
def Shown (t : State) (d : Nat) (c : BitVec 512) : Prop := ∀ w, w < 8 → rd t (HP_CAPSULE d w) = BitVec.ofNat 64 (capWord c w)

/-- R43: a die has not been admitted. -/
def NotAdmitted (s t : State) (n : Nat) (reason : Nat) : Prop :=
  getF t (CH_DIE_STS_STATE n) = 0 ∧ getF t (CH_DIE_STS_REFUSE n) = reason ∧ Reported s t 0x0102 (2 ^ n)
  ∧ getF t (CH_DIE_CMD_STATUS n) = if getF s (CH_DIE_CMD_STATUS n) = 1 then 2 else getF s (CH_DIE_CMD_STATUS n)

/-- R47, R48, R386: the command waits for nothing of the start-up: the hub has power, is not in the safe state and not in recovery mode. -/
def Running (s : State) : Prop := s.boot.pwrok = true ∧ pkgSafe s = false ∧ getF s HP_BOOT_STS_STAGE ≠ 8

end Sys2Proof.Claims


/-- R28-R31, R42-R44: a die answers discovery with a capsule that is admitted, or refused for the first check it fails; a compute die is LOST with RESET, or without keepalives,
and its memory and its work are gone; RETRY and the end of a reset test its link again. -/
def Sys2Proof.Claims.Dies : Prop :=
  ∀ (s : State) (n : Die) (d : Fin 14) (c copy : BitVec 512),
    let st := getF s (CH_DIE_STS_STATE n)
    let cmd := CH_DIE_CMD n
    let w := cmdWord [(CH_DIE_CMD_OP n, 1)]
    let w' := cmdWord [(CH_DIE_CMD_OP n, 2)]
    let sts (v : Nat) (t : State) : Prop := getF t (CH_DIE_CMD_STATUS n) = v
    let testing (t : State) : Prop := getF t (CH_DIE_STS_STATE n) = 1 ∧ getF t (CH_DIE_STS_REJOIN n) = 1 ∧ testPhase t n = 1
    let shut := s.hub.down = true ∨ pkgSafe s = true
    let early := d.val < 4 ∧ getF s (CH_DIE_STS_STATE d) ≠ 2
    let ok := crc32c (leBytes 56 c.toNat) == capWord c 7 % 2 ^ 32
    let bad := capRefusal (putCapsule s d c) d c copy ok
    let k := d.val - 5
    let linked := getF s (HP_BL_STS_USABLE (8 + k)) = 1 ∧ getF s (HP_BL_STS_USABLE (16 + k)) = 1
    (Takes s cmd w → Bounded s → (st = 3 ∨ st = 5 → Goes (exec (.dieReset n) s) (fun t => sts 1 t ∧ Lost s t n 1))
      ∧ (st ≠ 3 → st ≠ 5 → Does (.dieReset n) s [cmd] (fun t => sts 3 t ∧ t = { s with regs := t.regs })))
    ∧ (Takes s cmd w' → (st = 0 → Does (.dieRetry n) s [cmd, CH_DIE_STS n] (fun t => sts 1 t ∧ testing t)) ∧ (st ≠ 0 → Does (.dieRetry n) s [cmd] (fun t => sts 3 t ∧ t = { s with regs := t.regs })))
    ∧ (st = 4 → pkgSafe s = false → Does (.dieResetRelease n) s [CH_DIE_STS n] testing) ∧ (st ≠ 4 ∨ pkgSafe s = true → Nothing (.dieResetRelease n) s)
    ∧ Does (.keepalive n) s [] (fun t => (dieGet t n).alive = s.hubTime ∧ t = { s with dies := t.dies })
    ∧ (dieUp s n = true → s.hub.down = false → (dieGet s n).hubAbsent = false → Bounded s → Goes (exec (.keepaliveTimeout n) s) (fun t => Lost s t n 2))
    ∧ (dieUp s n = false ∨ s.hub.down = true ∨ (dieGet s n).hubAbsent = true → Nothing (.keepaliveTimeout n) s)
    ∧ (shut ∨ early ∨ (d.val < 4 ∧ s.boot.hitch ≠ none) → Nothing (.identityCapsule d c copy) s) ∧ (shut ∨ early ∨ d = 4 → Nothing (.discoveryTimeout d) s)
    ∧ (¬ shut → ¬ early → (d.val < 4 → s.boot.hitch = none) → injSlot s 6 d = none → Goes (exec (.identityCapsule d c copy) s) (fun t => Shown t d c
      ∧ (∀ r, bad = some r → (d.val < 4 → NotAdmitted s t d r) ∧ (4 ≤ d.val → Reported s t 0x0103 0))
      ∧ (bad = none → d.val < 4 → let re := getF s (CH_DIE_STS_REJOIN d) = 1
        getF t (CH_DIE_STS_STATE d) = (if re then 5 else 3) ∧ getF t (CH_DIE_STS_REJOIN d) = 0
        ∧ getF t (CD_HUB_STS_ATTACH_GEN d) = (getF s (CD_HUB_STS_ATTACH_GEN d) + 1) % 2 ^ 16
        ∧ (dieGet t d).capRec = some ((dieGet s d).capRec.getD (capWord c 0, capWord c 1))
        ∧ (re → getF s (CH_DIE_CMD_STATUS d) = 1 → getF t (CH_DIE_CMD_STATUS d) = 2))
      ∧ (bad = none → d.val = 4 → ∀ m : Die, bitN (getF t HP_CAP_EFF_CH_ADMITTED) m = b2n (dieUp s m))
      ∧ (bad = none → 5 ≤ d.val → d.val < 13 → linked → bitN (getF t HP_CAP_EFF_OE_ADMITTED) k = 1)))
    ∧ (¬ shut → ¬ early → d ≠ 4 → Goes (exec (.discoveryTimeout d) s) (fun t => t.mem = s.mem ∧ Shown t d 0 ∧ (d.val < 4 → NotAdmitted s t d 2) ∧ (4 < d.val → Reported s t 0x0103 0)))

/-- R18, R19, R46: the loss of a clock sets its flag once and has the reaction of Table 1-13; its return undoes what the loss held up. -/
def Sys2Proof.Claims.Clocks : Prop :=
  ∀ (s : State) (d : Fin 64),
    let f : Fld := if d.val = 63 then HP_CLK_LOSS_REFCLK else HP_CLK_LOSS_DOMAIN
    let i := if d.val = 63 then 0 else d.val
    let n := d.val - 42
    let k := d.val - 46
    let regs := [HP_CLK_LOSS, (occFld f i).addr]
    let only (cause mask : Nat) : Prop := Does (.clockLoss d) s regs (fun t => Reported s t cause mask)
    let anew := clkLost s d = false ∧ (d.val < 60 ∨ d.val = 63)
    (¬ anew → Nothing (.clockLoss d) s)
    ∧ (anew → Goes (exec (.clockLoss d) s) (fun t => clkLost t d = true ∧ bitsOf (rd t HP_CLK_LOSS) d d = 1 ∧ getF t (occFld f i) = (getF s (occFld f i) + 1) % 2 ^ 16
      ∧ (d.val < 24 → (ropeState t d = 1 ∨ ropeState s d = 0) ∧ ∃ r, r ∈ t.reports ∧ r.cause = 0x0110)
      ∧ (24 ≤ d.val → d.val < 32 → ∃ r, r ∈ t.reports ∧ r.cause = 0x0111)
      ∧ (42 ≤ d.val → d.val < 46 → getF t (CD_EPOCH_STALE n) = 1 ∧ (∀ j, j < 16 → getF t (CD_SPD_MON_STALE n j) = 1) ∧ Reported s t 0x0115 (2 ^ n))
      ∧ (d.val = 54 → ∃ r, r ∈ t.reports ∧ r.cause = 0x0117) ∧ (d.val = 55 → t.hub.down = true ∧ t.reports = s.reports)))
    ∧ (anew → 34 ≤ d.val → d.val < 42 → only 0x0114 (2 ^ ((d.val - 34) / 2))) ∧ (anew → d.val = 56 → only 0x0118 0) ∧ (anew → d.val = 58 → only 0x011A 0)
    ∧ (anew → d.val = 59 → only 0x011B 0) ∧ (anew → d.val = 63 → only 0x011C 15)
    ∧ (anew → 46 ≤ d.val → d.val < 54 → Does (.clockLoss d) s (OE_STS k :: regs) (fun t => Reported s t 0x0116 (2 ^ (k / 2))
      ∧ getF t (OE_STS_STATE k) = if getF s (OE_STS_STATE k) = 3 then 4 else getF s (OE_STS_STATE k)))
    ∧ (anew → d.val = 57 → Does (.clockLoss d) s (GS_STS :: regs) (fun t => Reported s t 0x0119 0 ∧ getF t GS_STS_TRAINED = 0))
    ∧ (clkLost s d = false → Nothing (.clockReturn d) s)
    ∧ (clkLost s d = true → Goes (exec (.clockReturn d) s) (fun t => clkLost t d = false ∧ t.mem = s.mem ∧ t.reports = s.reports
      ∧ (42 ≤ d.val → d.val < 46 → getF t (CD_EPOCH_STALE n) = 0 ∧ SameRegs s t [CD_EPOCH n])
      ∧ (d.val = 55 → testPhase t 5 = 1 ∧ t.hub.down = s.hub.down ∧ t.regs = s.regs)
      ∧ (46 ≤ d.val → d.val < 54 → getF s (OE_STS_STATE k) = 4 → getF t (OE_STS_STATE k) = 3 ∧ SameRegs s t [OE_STS k])))

/-- R19, R27-R35, R43-R47: discovery, loss and rejoin of dies, and the loss of clocks. -/
def Obligations.DiesAndClocks : Prop := Sys2Proof.Claims.Dies ∧ Sys2Proof.Claims.Clocks

namespace Sys2Proof.Claims
open Machine

/-- R39: what the firewall answers to a transaction of the guest: one completion. -/
def GuestSays (s t : State) (op tag status : Nat) (data : List Byte) : Prop := t.hub.guestOut = s.hub.guestOut ++ [⟨op, tag, status, data⟩]

/-- R39, R40: a transaction is denied: it is answered, counted and reported, and too many of them within 1 ms fence the guest. -/
def Denies (c : Instr) (s : State) (op tag : Nat) : Prop :=
  Does c s (flagRegs GS_STS_VIOL) (fun t => GuestSays s t op tag 1 [] ∧ Flagged s t GS_STS_VIOL ∧ Reported s t 0x0108 0
    ∧ getF t GS_STS_VIOL_CNT = min (getF s GS_STS_VIOL_CNT + 1) (2 ^ 32 - 1)
    ∧ (getF s GS_CTL_VIOL_LIM ≤ (s.hub.denials.filter (fun x => decide (s.hubTime < x + 1000000))).length →
      getF t GS_STS_FENCED = 1 ∧ getF t GS_STS_TRAINED = 0))

end Sys2Proof.Claims


/-- R47, R48, R143, R386: a compute die declares the hub absent; a request that waits for the hub too long parks its engine or traps its ply; a reset of the hub returns its
registers to their reset values, all but those that stay, and boots it; REATTACH attaches the dies again, with their own faults, or loses those that hold no attach record. -/
def Obligations.HubLoss : Prop :=
  ∀ (s : State) (n : Die) (e : Fin 64) (b : Fin 384) (q : Fin 4) (recovery : Bool) (io : FlashIO),
    let away := (dieGet s n).hubAbsent = true
    let p : PlyId := ⟨n, b, q⟩
    let declares (c : Instr) : Prop := (away ∨ dieUp s n = false → Nothing c s) ∧ (¬ away → dieUp s n = true → Goes (exec c s) (fun t =>
      ∃ u, t = riskWhere n 4 (fun x => !x.released) u (ledAll u n) ∧ (dieGet u n).hubAbsent = true ∧ (dieGet u n).absentAt = s.hubTime ∧ Flagged s u (CD_HUB_STS_ABSENT n)
        ∧ SameRegs s u (flagRegs (CD_HUB_STS_ABSENT n)) ∧ u = { s with regs := u.regs, dies := u.dies }))
    let blocked := s.hub.down = false ∨ clkLost s 55 = true ∨ testPhase s 5 ≠ 0 ∨ pkgSafe s = true ∨ getF s HP_BOOT_STS_STAGE = 8
    declares (.hubResetNotice n) ∧ declares (.hubKeepaliveTimeout n)
    ∧ (¬ away → ∀ w, Nothing (.hubWaitExpired n w) s)
    ∧ (∀ x, away → engGet s n e = some x → getF s (CD_DMA_ENG_STATE n e) = 1 → Goes (exec (.hubWaitExpired n (.engine e)) s) (fun t =>
      getF t (CD_DMA_ENG_STATE n e) = 3 ∧ getF t (CD_DMA_ENG_KIND n e) = 9 ∧ getF t (CD_DMA_ENG_POS n e) = getF s (CD_DMA_ENG_POS n e)
      ∧ Flagged s t (CD_HUB_STS_WAIT_EXP n) ∧ Reported s t 0x0120 (2 ^ n.val) ∧ t.mem = s.mem))
    ∧ (∀ h, away → (plyGet s n b q).held = some h → Does (.hubWaitExpired n (.ply b q)) s (flagRegs (CD_HUB_STS_WAIT_EXP n)) (fun t =>
      Flagged s t (CD_HUB_STS_WAIT_EXP n) ∧ Reported s t 0x0120 (2 ^ n.val) ∧ OtherPlies s t p
      ∧ plyGet t n b q = { plyGet s n b q with
        held := none
        trap := some ⟨0x14, getPc s p, h % 2 ^ 64⟩ }))
    ∧ (¬ Running s → Nothing (.hubReset recovery io) s)
    ∧ (Running s → Goes (exec (.hubReset recovery io) s) (fun t => ∃ u,
      (∀ v, bootAttempts io 3 u = (true, v) → t = startTest (setF v HP_BOOT_STS_STAGE 1) 5) ∧ (∀ v, bootAttempts io 3 u = (false, v) → t = v)
      ∧ (∀ a, hubRegister a = true → a ≠ GS_STS → rd u a = resetWord a) ∧ getF u GS_STS_FENCED = getF s GS_STS_FENCED ∧ rd u HP_FW_CMD = 0 ∧ rd u HP_CERT_CMD = 0
      ∧ getF u HP_BOOT_STS_BOOT = 1 ∧ getF u HP_BOOT_STS_STAGE = 0 ∧ getF u HP_BOOT_STS_DEBUG = 0
      ∧ SameRegsBut s u (fun a => hubRegister a = true ∨ a ∈ [HP_BOOT_STS, HP_FW_CMD, HP_CERT_CMD]) ∧ u.mem = s.mem ∧ u.hub.down = true ∧ u.read.snap = none ∧ u.read.queue = []
      ∧ u.boot.fwUp = false ∧ u.boot.resetting = true ∧ u.boot.recoveryN = recovery ∧ u.plies = s.plies ∧ u.bricks = s.bricks
      ∧ ∀ m : Die, getF s (FC_STS_FENCED m) = 1 → (dieGet u m).localFence = true))
    ∧ (blocked → Nothing .reattach s)
    ∧ (¬ blocked → Bounded s → Goes (exec .reattach s) (fun t => ∃ u, t = serveHeld u ∧ u.hub.down = false ∧ u.hub.fc.pausedAt = none
      ∧ (∀ m : Die, dieUp s m = true → getF s (CD_HUB_STS_ATTACH_GEN m) ≠ 0 → (∀ k, k < 4 → dieUp s k = true → getF s (CD_HUB_STS_ATTACH_GEN k) ≠ 0) →
        (dieGet u m).hubAbsent = false ∧ (dieGet u m).walkCache = [] ∧ (dieGet u m).localFaults = [] ∧ getF u (CD_HUB_STS_ATTACH_GEN m) = (getF s (CD_HUB_STS_ATTACH_GEN m) + 1) % 2 ^ 16
        ∧ ((dieGet s m).localFence = true → ∃ r, r ∈ u.reports ∧ r.cause = 0x0906 ∧ r.mask = 2 ^ m.val)
        ∧ (∀ x, x ∈ (dieGet s m).localFaults → ∃ r, r ∈ u.reports ∧ r.cause = x.1.cause ∧ r.mask = x.1.mask ∧ r.flags = x.1.flags ||| 2))
      ∧ (s.boot.resetting = true → u.boot.fwUp = true ∧ u.boot.resetting = false ∧ getF u HP_BOOT_STS_STAGE = 9 ∧ (getF s HP_CAP_EFF_CERT_GUEST = 1 → getF u GS_CTL_LOCK = 1))))

/-- R37-R41: the guest link trains when it may; a transaction that a window allows is performed, with its completion; one that none allows is denied; with a limit of 0 it is
held back. -/
def Obligations.GuestSite : Prop :=
  ∀ (s : State) (ok x8 : Bool) (tag : Fin 4096) (lines : Fin 64) (at_ : Nat) (data : List Byte) (v : Word),
    let pa := guestPa at_
    let len := 64 * (lines.val + 1)
    let wlen := min (data.length / 64 * 64) 4096
    let rd_ : Instr := .guestRead tag lines at_
    let wr_ : Instr := .guestWrite tag at_ data
    let add : Instr := .guestAtomicAdd tag at_ v
    let open_ := guestOpen s = true ∧ getF s GS_STS_TRAINED = 0
    let line := readBytes s pa 64
    (¬ open_ → Nothing (.guestLinkTraining ok x8) s)
    ∧ (open_ → ok = true → Does (.guestLinkTraining ok x8) s [GS_STS] (fun t => getF t GS_STS_TRAINED = 1 ∧ getF t GS_STS_X8 = b2n (x8 || getF s GS_CTL_WIDTH8 == 1) ∧ t = { s with regs := t.regs }))
    ∧ (open_ → ok = false → Does (.guestLinkTraining ok x8) s [] (fun t => Reported s t 0x0109 0 ∧ t = { s with reports := t.reports }))
    ∧ (guestUp s = false → Nothing rd_ s ∧ Nothing wr_ s ∧ Nothing add s)
    ∧ (guestHeld s true false = true → Nothing rd_ s) ∧ (guestHeld s false true = true → Nothing wr_ s) ∧ (guestHeld s true true = true → Nothing add s)
    ∧ (guestUp s = true →
      (guestHeld s true false = false →
        (guestAllowed s pa len true false = false → Denies rd_ s 3 tag)
        ∧ (guestAllowed s pa len true false = true → Readable s pa → Does rd_ s [] (fun t => GuestSays s t 3 tag (if anyPoison s pa len then 3 else 0) (readBytes s pa len)
          ∧ t = { s with hub := t.hub })))
      ∧ (guestHeld s false true = false → wlen ≠ 0 →
        (guestAllowed s pa wlen false true = false → Denies wr_ s 4 tag)
        ∧ (guestAllowed s pa wlen false true = true → Writable s pa → memReady s pa = true → Goes (exec wr_ s) (fun t => GuestSays s t 4 tag 0 []
          ∧ readBytes t pa wlen = data.take wlen ∧ SameMem s t (within pa wlen) ∧ t.regs = s.regs)))
      ∧ (guestHeld s true true = false →
        (guestAllowed s pa 64 true true = false → Denies add s 3 tag)
        ∧ (guestAllowed s pa 64 true true = true → Readable s pa →
          (anyPoison s pa 64 = false → Goes (exec add s) (fun t => GuestSays s t 3 tag 0 line ∧ readLE t pa 8 = (readLE s pa 8 + v.toNat) % 2 ^ 64 ∧ SameMem s t (within pa 8) ∧ t.regs = s.regs))
          ∧ (anyPoison s pa 64 = true → Does add s [] (fun t => GuestSays s t 3 tag 3 line ∧ t = { s with hub := t.hub })))))

namespace Sys2Proof.Claims
open Machine

/-- R365: a frame leaves the keystone when the link is up. -/
def framesWith (s : State) (f : KsFrame) : List KsFrame := s.ks.frames ++ if s.ks.link then [f] else []

/-- R371, R374: an entry has been written to the audit log, and nothing else has changed: at the next free position, over the oldest entry that is not a seal, or, in a log full of
seals, a seal only counts. -/
def Audited (s t : State) (kind arg detail : Nat) : Prop :=
  let seq := (s.ks.acc.audit + 1) % 2 ^ 32
  (∀ pos, auditPos s = some pos → t = { s with ks := { s.ks with
      acc := { s.ks.acc with audit := seq }
      log := t.ks.log
      frames := framesWith s (.audit pos (auditEntry s seq kind arg detail)) } }
    ∧ tabGet (fun _ => 0) t.ks.log pos = auditEntry s seq kind arg detail ∧ ∀ i, i ≠ pos → tabGet (fun _ => 0) t.ks.log i = tabGet (fun _ => 0) s.ks.log i)
  ∧ (auditPos s = none → t = { s with ks := { s.ks with acc := { s.ks.acc with audit := if sealKind kind then seq else s.ks.acc.audit } } })

/-- R359, R363, R364: an interval has been counted: the package energy by the sum of the entries; the energy of each channel, with its fractions, by its part of each entry; without
activity the fallback count advances. -/
def Settled (s : State) (k : KsX) (act : Option (List Nat)) (o : KsOpen) : Prop :=
  let part (a : KsAcc) (n : Nat) : Rat := (a.energy.getD (n + 1) 0 : Rat) + ((List.range 13).map (fun e => tabGet (fun _ => (0 : Rat)) a.frac (4 * e + n))).sum
  k.acc.energy.getD 0 0 = s.ks.acc.energy.getD 0 0 + o.energy.foldl (· + ·) 0
  ∧ (∀ n, n < 4 → part k.acc n = part s.ks.acc n + ((List.range 13).map (fun e => ksPart s e (o.energy.getD e 0) n act)).sum)
  ∧ k.last = (o.ms, o.stale) ∧ k.fallback = (s.ks.fallback + b2n act.isNone) % 2 ^ 32 ∧ k.acc.audit = s.ks.acc.audit ∧ k.acc.readings = s.ks.acc.readings

/-- R366, R368: the next frame on the line to the hub, which takes it. -/
def Line (s : State) (f : KsFrame) (rest : List KsFrame) : Prop := s.ks.frames = f :: rest ∧ ksHubUp s = true ∧ s.ks.link = true

/-- A command changes nothing but the keystone. -/
def KsDoes (c : Instr) (s : State) (P : State → Prop) : Prop := Goes (exec c s) (fun t => P t ∧ t = { s with ks := t.ks })

/-- R369: a mailbox command has been sent. -/
def MbSent (s t : State) (c : KsCmd) : Prop :=
  getF t HP_KS_MB_STATE = 1 ∧ t.ks.nextSeq = s.ks.nextSeq + 1 ∧ t.ks.mb = some c ∧ t.ks.resent = false ∧ t = { s with regs := t.regs, ks := t.ks }

end Sys2Proof.Claims


/-- R358-R364, R372, R373, R375, R376: the keystone's metering: an interval ends, waits for its activity and is attributed; pulses; the comparison of the converter pairs and of the
oscillators; a calibration runs through the pairs; power loss, power on, the examination of a staged image. -/
def Obligations.KeystoneMetering : Prop :=
  ∀ (s : State) (rails : List KsRail) (cnt : List Nat) (crc differ : Bool) (e : Fin 13) (above : BitVec 12) (h : KsHeader) (r : KsRun),
    let k := s.ks
    let on := k.powered = true
    let ready := k.link = true ∧ ksHubUp s = true
    let l := hubCounts s cnt
    let at_ (src : Nat) := k.acc.energy.getD src 0 / 10000000000
    let mark (src : Nat) := tabGet (fun _ => 0) k.marks src
    let fires (src : Nat) : Prop := KsDoes .ksPulse s (fun t => t.ks.pulses = k.pulses + 1 ∧ t.ks.pulseSrc = src ∧ tabGet (fun _ => 0) t.ks.marks src = mark src + 1)
    let bad := (List.range 13).filter (pairsDiffer s)
    let failed (c : KsCal) := if runsGood r then c.failed else insertAsc c.entry c.failed
    (¬ on → ∀ c, c ∈ [Instr.accountingInterval rails, .activity cnt crc, .activityTimeout, .pairCompare, .senseOutOfRange e, .clockCheck differ, .powerLoss, .ksPeriodicCommit, .ksImageCheck h,
        .calibrationCycle r, .ksPulse] → Nothing c s)
    ∧ (on → k.acc.energy.length = 5 → KsDoes (.accountingInterval rails) s (fun t => t.ks.ms = k.ms + 1 ∧ t.ks.sumN = k.sumN + 1
        ∧ (∃ o, t.ks.waiting = some o ∧ o.idx = (k.ms + 1) % 2 ^ 32 ∧ o.ms = k.ms + 1 ∧ ∀ j, j < 13 → o.energy.getD j 0 = (if pairAOut s j then (rails.getD j ⟨0, 0, 0, 0⟩).b else (rails.getD j ⟨0, 0, 0, 0⟩).a))
        ∧ (∀ o, k.waiting = some o → Settled s t.ks none o) ∧ (k.waiting = none → t.ks.acc = k.acc)
        ∧ (∀ j, j < 13 → tabGet (fun _ => 0) t.ks.rails j = railWord s j (rails.getD j ⟨0, 0, 0, 0⟩))
        ∧ (k.link = true → ∃ m, t.ks.frames = k.frames ++ [.mirror m] ∧ m.idx = (k.ms + 1) % 2 ^ 32 ∧ m.energy = ksMj t ∧ m.audit = t.ks.acc.audit ∧ m.fallback = t.ks.fallback)
        ∧ (k.link = false → t.ks.frames = k.frames)))
    ∧ (∀ o, on → k.waiting = some o → k.acc.energy.length = 5 →
      KsDoes .activityTimeout s (fun t => Settled s t.ks none o ∧ t.ks.waiting = none)
      ∧ (¬ ready → Nothing (.activity cnt crc) s)
      ∧ (ready → crc = false → KsDoes (.activity cnt crc) s (fun t => Settled s t.ks none o ∧ t.ks.waiting = none))
      ∧ (ready → crc = true → getF s KS_STS_INTERVAL ≠ o.idx → Nothing (.activity cnt crc) s)
      ∧ (ready → crc = true → getF s KS_STS_INTERVAL = o.idx → KsDoes (.activity cnt crc) s (fun t => Settled s t.ks (if countsOk s l then some l else none) o ∧ t.ks.waiting = none)))
    ∧ (on → k.waiting = none → Nothing .activityTimeout s)
    ∧ (on → (k.pulseSel ≠ k.pulseSrc → mark k.pulseSel < at_ k.pulseSel → fires k.pulseSel)
      ∧ (k.pulseSel = k.pulseSrc ∨ at_ k.pulseSel ≤ mark k.pulseSel → (mark k.pulseSrc < at_ k.pulseSrc → fires k.pulseSrc) ∧ (at_ k.pulseSrc ≤ mark k.pulseSrc → Nothing .ksPulse s)))
    ∧ (k.sumN < 1000 → Nothing .pairCompare s)
    ∧ (on → 1000 ≤ k.sumN → KsDoes .pairCompare s (fun t => t.ks.badSense = bad ∧ t.ks.sums = [] ∧ t.ks.sumN = 0
        ∧ (bad = [] → t.ks.acc = k.acc ∧ t.ks.log = k.log) ∧ (∀ j, bad = [j] → ∃ u, Audited s u 8 j 0 ∧ t.ks.acc = u.ks.acc ∧ t.ks.log = u.ks.log ∧ t.ks.frames = u.ks.frames)))
    ∧ (on → KsDoes (.senseOutOfRange e) s (fun t => ∃ u, Audited s u 8 e 0 ∧ t.ks = { u.ks with badSense := insertAsc e k.badSense }))
    ∧ (k.badClk = differ → Nothing (.clockCheck differ) s)
    ∧ (on → k.badClk ≠ differ → KsDoes (.clockCheck differ) s (fun t => let u := { s with ks := { k with badClk := differ } }
        (differ = true → Audited u t 9 0 0) ∧ (differ = false → t = u)))
    ∧ (on → k.cal = none → KsDoes (.calibrationCycle r) s (fun t => t.ks = { k with cal := some ⟨0, false, []⟩ }))
    ∧ (∀ c, on → k.cal = some c → KsDoes (.calibrationCycle r) s (fun t =>
        (runsGood r = true → tabGet (fun _ => ((0 : Int), (0 : Int))) t.ks.trims (2 * c.entry + b2n (!c.pairA)) = (r.gain2, r.off2)) ∧ (runsGood r = false → t.ks.trims = k.trims)
        ∧ (c.pairA = false → t.ks.cal = some ⟨c.entry, true, failed c⟩ ∧ t.ks.log = k.log) ∧ (c.pairA = true → c.entry < 12 → t.ks.cal = some ⟨c.entry + 1, false, failed c⟩ ∧ t.ks.log = k.log)
        ∧ (c.pairA = true → 12 ≤ c.entry → t.ks.cal = none ∧ ∃ u, u = { s with ks := { k with
            cal := none
            trims := t.ks.trims } } ∧ Audited u t (if failed c = [] then 3 else 4) 0 ((failed c).foldl (fun m x => m + 2 ^ x) 0))))
    ∧ (on → KsDoes .ksPeriodicCommit s (fun t => t.ks = { k with saved := k.acc }))
    ∧ (on → k.acc.energy.length = 5 → KsDoes .powerLoss s (fun t => ∃ u v, (k.waiting = none → u = s) ∧ (∀ o, k.waiting = some o → Settled s u.ks none o ∧ u = { s with ks := u.ks })
        ∧ Audited u v 6 0 ((ksMj u).getD 0 0) ∧ t.ks = { v.ks with
          saved := v.ks.acc
          powered := false
          starting := false
          frames := []
          job := none
          answer := none
          cal := none }))
    ∧ (on → Nothing (.powerOn above) s)
    ∧ (¬ on → Does (.powerOn above) s [KS_STS] (fun t => t.ks.powered = true ∧ t.ks.powerOns = (k.powerOns + 1) % 2 ^ 32 ∧ t.ks.acc = { k.saved with audit := t.ks.acc.audit } ∧ t.ks.ms = 0
        ∧ t.ks.waiting = none ∧ t.ks.link = false ∧ t.ks.frames = [] ∧ t.ks.mb = k.mb ∧ t.ks.staging = k.staging ∧ t.ks.pulseSrc = 0 ∧ t.ks.badSense = [] ∧ t.ks.badClk = false ∧ t.ks.cal = none
        ∧ (k.staging ≠ [] → t.ks.starting = true) ∧ (k.staging = [] → t.ks.starting = false)
        ∧ (k.staging = [] → ∃ u, Audited u t 5 0 0 ∧ (above = 0 → u.ks.log = k.log ∧ u.ks.acc = k.saved) ∧ (above ≠ 0 → ∃ v, Audited v u 7 0 above.toNat ∧ v.ks.log = k.log ∧ v.ks.acc = k.saved))))
    ∧ (k.starting = false → Nothing (.ksImageCheck h) s)
    ∧ (on → k.starting = true → KsDoes (.ksImageCheck h) s (fun t => ∃ u v, Audited u v (if (ksReject s h).isSome then 2 else 1) ((ksReject s h).getD 0)
          (if (ksReject s h).isSome then h.version % 2 ^ 32 else k.fwId % 2 ^ 64 + 2 ^ 64 * (h.version % 2 ^ 32))
        ∧ Audited { v with ks := { v.ks with
            staging := []
            starting := false } } t 5 0 0
        ∧ (∀ w, ksReject s h = some w → u = s) ∧ (ksReject s h = none → u = { s with ks := { k with
            version := h.version
            fwId := h.fwId.toNat
            fuse := h.version
            base := u.ks.base } })))

/-- R365-R370, R376: the keystone's link and its mailbox: what each frame writes at the hub; the link comes up with its identity, key and log; a command is sent, executed and answered;
a statement is signed; an unanswered command is sent again, and at last ends. -/
def Obligations.KeystoneLink : Prop :=
  ∀ (s : State) (ok : Bool) (first src off : BitVec 32) (len : Fin 8192) (m : KsMirror) (pos ent uid hw ver fw pon q st : Nat) (data : List Byte) (rest : List KsFrame),
    let k := s.ks
    let took (t : State) : Prop := t.ks = { k with frames := rest }
    let deaf := k.frames = [] ∨ ksHubUp s = false ∨ k.link = false
    let hears := ok = true ∧ k.link = true ∧ k.powered = true
    let cmd (op len arg : Nat) : KsCmd := ⟨k.nextSeq, op, len, arg, getF s HP_KS_MBAUX_AUX, mbBytes s (if op = 5 then min len 4096 else 16)⟩
    let word (op len arg : Nat) : Word := cmdWord [(HP_KS_MB_OP, op), (HP_KS_MB_ARG, arg), (HP_KS_MB_LEN, len)]
    let returns (i : Instr) (c : KsCmd) (v : Nat) (P : State → Prop) : Prop := Does i s [HP_KS_MB] (fun t => MbSent s t c ∧ t.ks.answer = some (c.seq, v, []) ∧ t.ks.frames = k.frames ++ [.response c.seq v []] ∧ P t)
    let sends (i : Instr) (op len arg : Nat) : Prop := Takes s HP_KS_MB (word op len arg) →
      let c := cmd op len arg
      (k.link = false → op < 3 → Does i s [HP_KS_MB] (fun t => getF t HP_KS_MB_STATE = 3 ∧ getF t HP_KS_MB_STATUS = 4 ∧ t = { s with regs := t.regs }))
      ∧ (k.link = true ∨ 3 ≤ op → ¬ hears → Does i s [HP_KS_MB] (fun t => MbSent s t c ∧ t.ks.answer = k.answer ∧ t.ks.frames = k.frames))
      ∧ (hears → k.answer.filter (fun a => a.1 == c.seq) = none → (∃ j, k.job = some j ∧ j.seq ≠ c.seq) → returns i c 1 (fun _ => True))
    let free (op len arg : Nat) : Prop := Takes s HP_KS_MB (word op len arg) ∧ hears ∧ k.answer.filter (fun a => a.1 == k.nextSeq) = none ∧ k.job = none
    let job (i : Instr) (c : KsCmd) (body : Nat) (reading : Bool) : Prop := Does i s [HP_KS_MB] (fun t => MbSent s t c ∧ t.ks.job = some ⟨c.seq, body, reading⟩ ∧ t.ks.frames = k.frames)
    let aux := getF s HP_KS_MBAUX_AUX
    let found := (List.range (min aux 1024)).map (fun i => auditFind s (first.toNat + i))
    let block := off.toNat % 4096 = 0 ∧ off.toNat < 262144 ∧ 0 < len.val ∧ len.val ≤ 4096 ∧ crc32 (mbBytes s len) = aux
    (deaf → ∀ c, c ∈ [Instr.mirror ok, .audit ok, .identity ok, .pubkey ok, .response ok] → Nothing c s)
    ∧ (Line s (.mirror m) rest → Nothing (.audit ok) s ∧ (ok = false → Does (.mirror ok) s [] took)
      ∧ (ok = true → Does (.mirror ok) s ([KS_STS, KS_E_PKG, KS_CNT] ++ (List.range 4).map KS_E_CH ++ (List.range 13).map KS_RAIL) (fun t => took t ∧ rd t KS_E_PKG = BitVec.ofNat 64 (m.energy.getD 0 0)
        ∧ (∀ n, n < 4 → rd t (KS_E_CH n) = BitVec.ofNat 64 (m.energy.getD (n + 1) 0)) ∧ getF t KS_CNT_AUDIT = m.audit % 2 ^ 32 ∧ getF t KS_CNT_FALLBACK = m.fallback % 2 ^ 32
        ∧ (∀ e, e < 13 → rd t (KS_RAIL e) = BitVec.ofNat 64 (m.rails.getD e 0)) ∧ getF t KS_STS_INTERVAL = m.sts / 2 ^ 32 % 2 ^ 32 ∧ getF t KS_STS_LINK = 1
        ∧ getF t KS_STS_UID_MISMATCH = getF s KS_STS_UID_MISMATCH)))
    ∧ (Line s (.audit pos ent) rest → pos < 1024 → Nothing (.pubkey ok) s ∧ (ok = false → Does (.audit ok) s [] took)
      ∧ (ok = true → Does (.audit ok) s ((List.range 4).map (KS_AUDIT pos)) (fun t => took t ∧ ∀ w, w < 4 → rd t (KS_AUDIT pos w) = BitVec.ofNat 64 (bitsN ent (64 * w + 63) (64 * w)))))
    ∧ (Line s (.identity uid hw ver fw pon) rest → Nothing (.mirror ok) s ∧ (ok = false → Does (.identity ok) s [] took)
      ∧ (ok = true → Does (.identity ok) s [KS_ID, KS_INFO, KS_STS] (fun t => took t ∧ rd t KS_ID = BitVec.ofNat 64 fw ∧ getF t KS_INFO_HWTYPE = hw % 2 ^ 16 ∧ getF t KS_INFO_VERSION = ver % 2 ^ 16
        ∧ getF t KS_INFO_POWERON = pon % 2 ^ 32 ∧ getF t KS_STS_UID_MISMATCH = b2n (uid != s.hub.fuses.uid))))
    ∧ (Line s .pubkey rest → Nothing (.identity ok) s ∧ (ok = false → Does (.pubkey ok) s [] took)
      ∧ (ok = true → Does (.pubkey ok) s ((List.range 112).map KS_PUBKEY) (fun t => took t ∧ ∀ w, w < 112 → rd t (KS_PUBKEY w) = BitVec.ofNat 64 (pubkeyWord k.uid w))))
    ∧ (Line s (.response q st data) rest → Nothing (.mirror ok) s ∧ (ok = false → Does (.response ok) s [] took)
      ∧ (ok = true → (∀ c, k.mb = some c → c.seq ≠ q) → Does (.response ok) s [] took)
      ∧ (∀ c, ok = true → k.mb = some c → c.seq = q → Goes (exec (.response ok) s) (fun t => t.ks = { k with
          frames := rest
          mb := none }
        ∧ getF t HP_KS_MB_STATE = (if st = 0 ∨ st = 3 then 2 else 3) ∧ getF t HP_KS_MB_STATUS = st % 256 ∧ t.mem = s.mem
        ∧ ∀ i, i < data.length / 8 → rd t (HP_KS_MBBUF i) = BitVec.ofNat 64 (leVal ((data.drop (8 * i)).take 8)))))
    ∧ (let up := k.powered = true ∧ k.starting = false ∧ k.link = false ∧ ksHubUp s = true
      (¬ up → Nothing .ksLinkUp s) ∧ (up → Does .ksLinkUp s [KS_STS] (fun t => getF t KS_STS_LINK = 1 ∧ t.ks = { k with
        link := true
        frames := .identity k.uid k.hwType k.version k.fwId k.powerOns :: .pubkey :: k.log.map (fun x => KsFrame.audit x.1 x.2) })))
    ∧ (k.link = false → Nothing .ksLinkDown s) ∧ (k.link = true → Does .ksLinkDown s [KS_STS] (fun t => getF t KS_STS_LINK = 0 ∧ getF t KS_STS_STALE = 1 ∧ t.ks = { k with
        link := false
        frames := [] }))
    ∧ sends (.signReading ok) 1 0 0 ∧ sends (.signAudit first ok) 2 0 first.toNat ∧ sends (.selfcal ok) 3 0 0 ∧ sends (.pulseSrc src ok) 4 0 src.toNat ∧ sends (.ksStageBlock off len ok) 5 len off.toNat
    ∧ sends (.stageClear ok) 6 0 0
    ∧ (free 1 0 0 → (k.hasKey = false → returns (.signReading ok) (cmd 1 0 0) 5 (fun _ => True))
      ∧ (k.hasKey = true → job (.signReading ok) (cmd 1 0 0) (readingBody s (leVal ((mbBytes s 16).take 16))) true))
    ∧ (free 2 0 first.toNat → let c := cmd 2 0 first.toNat
      let bad := aux = 0 ∨ 1024 < aux ∨ found.any (·.isNone) = true
      (bad → returns (.signAudit first ok) c 6 (fun _ => True)) ∧ (¬ bad → k.hasKey = false → returns (.signAudit first ok) c 5 (fun _ => True))
      ∧ (¬ bad → k.hasKey = true → job (.signAudit first ok) c (auditBody s first.toNat aux (found.map (·.getD 0))) false))
    ∧ (free 3 0 0 → (k.cal ≠ none → returns (.selfcal ok) (cmd 3 0 0) 7 (fun t => t.ks.cal = k.cal)) ∧ (k.cal = none → returns (.selfcal ok) (cmd 3 0 0) 0 (fun t => t.ks.cal = some ⟨0, false, []⟩)))
    ∧ (free 4 0 src.toNat → (4 < src.toNat → returns (.pulseSrc src ok) (cmd 4 0 src.toNat) 8 (fun t => t.ks.pulseSel = k.pulseSel))
      ∧ (src.toNat ≤ 4 → returns (.pulseSrc src ok) (cmd 4 0 src.toNat) 0 (fun t => t.ks.pulseSel = src.toNat ∧ t.ks.pulseSrc = k.pulseSrc)))
    ∧ (free 5 len off.toNat → (¬ block → returns (.ksStageBlock off len ok) (cmd 5 len off.toNat) 9 (fun t => t.ks.staging = k.staging))
      ∧ (block → returns (.ksStageBlock off len ok) (cmd 5 len off.toNat) 0 (fun t => tabGet (fun _ => []) t.ks.staging (off.toNat / 4096) = mbBytes s len)))
    ∧ (free 6 0 0 → returns (.stageClear ok) (cmd 6 0 0) 0 (fun t => t.ks.staging = []))
    ∧ (k.mb = none ∨ ksHubUp s = false → Nothing (.mailboxResend ok) s ∧ Nothing .mailboxTimeout s)
    ∧ (∀ c, k.mb = some c → ksHubUp s = true → (k.resent = true → Nothing (.mailboxResend ok) s) ∧ (k.resent = false → Nothing .mailboxTimeout s)
      ∧ (k.resent = false → ¬ hears → KsDoes (.mailboxResend ok) s (fun t => t.ks = { k with resent := true }))
      ∧ (∀ a, k.resent = false → hears → k.answer = some a → a.1 = c.seq → KsDoes (.mailboxResend ok) s (fun t => t.ks = { k with
          resent := true
          frames := k.frames ++ [.response a.1 a.2.1 a.2.2] }))
      ∧ (k.resent = true → Does .mailboxTimeout s [HP_KS_MB] (fun t => getF t HP_KS_MB_STATE = 3 ∧ getF t HP_KS_MB_STATUS = 4 ∧ t.ks = { k with mb := none })))
    ∧ (k.job = none → Nothing .ksSigningComplete s)
    ∧ (∀ j, k.job = some j → Does .ksSigningComplete s [] (fun t => let reply := leBytes 128 j.body ++ leBytes 384 (Config.ksSign j.body (draw s).1.toNat)
        let v := if j.reading ∧ ksLogFull s then 3 else 0
        t.ks.answer = some (j.seq, v, reply) ∧ t.ks.job = none ∧ t.ks.acc = { k.acc with readings := k.acc.readings + b2n j.reading } ∧ t.draws = s.draws + 1
        ∧ t.ks.frames = framesWith s (.response j.seq v reply)))

namespace Sys2Proof.Claims
open Machine

/-- R380, R387, R393: what one firmware command makes of slot B and of the boot record, with its STATUS and its REASON: 1 STAGE_BEGIN, 2 STAGE_BLOCK of `data` at `off`, 3 STAGE_END,
7 DISCARD. -/
def FwEffect (s t : State) (op off crc : Nat) (data : List Byte) (bad : Bool) (v : Nat × Nat) : Prop :=
  let fails (r : Nat) : Prop := v = (3, r) ∧ t.boot.flash = s.boot.flash
  let good := data ≠ [] ∧ data.length ≤ 65536 ∧ off % 4096 = 0 ∧ off + data.length ≤ slotSize ∧ bad = false ∧ crc32 data = crc
  let all := ∀ j, j < 15 → covered s.boot.written s.boot.written.length (entF s true j 8 4) (entF s true j 8 4 + entF s true j 12 4) = true
  (op = 1 ∨ op = 7 → slotFree s = false → fails 10) ∧ (op = 2 ∨ op = 3 → bState s ≠ 1 → fails 10)
  ∧ (op = 1 → slotFree s = true → v = (2, 0) ∧ bState t = 1 ∧ t.boot.flash.slotB = [] ∧ getF t HP_FW_STS_B_STATE = 1 ∧ getF t HP_FW_STS_BLOCKS = 0)
  ∧ (op = 7 → slotFree s = true → v = (2, 0) ∧ bState t = 0 ∧ t.boot.flash.slotB = [] ∧ getF t HP_FW_STS_B_STATE = 0)
  ∧ (op = 2 → bState s = 1 → (¬ good → fails 9) ∧ (good → v = (2, 0) ∧ slotBytes t true off data.length = data ∧ getF t HP_FW_STS_BLOCKS = min (getF s HP_FW_STS_BLOCKS + 1) 65535
    ∧ ∀ i, i < off ∨ off + data.length ≤ i → tabGet erased t.boot.flash.slotB i = tabGet erased s.boot.flash.slotB i))
  ∧ (op = 3 → bState s = 1 → (¬ all → fails 9) ∧ (all → v = (2, 0) ∧ bState t = 2 ∧ t.boot.flash.slotB = s.boot.flash.slotB ∧ (bRec t).verB = slotLE s true 12 4))

/-- The registers that show the firmware's state. -/
def fwRegs : List Nat := [HP_FW_CMD, HP_FW_STS, HP_FW_VER, HP_BOOT_STS]

/-- R387: the command in HP_FW_CMD of which `u` is taken is carried out now. -/
def FwRuns (u : State) (l : List (Fld × Nat)) : Prop := Takes u HP_FW_CMD (cmdWord l) ∧ (getF u HP_BOOT_STS_STAGE = 8 ∨ fwAway u = false)

/-- R383: the counters of the fuses are at least the security version of every component of slot B, and none has fallen. -/
def FusesRaised (s t : State) : Prop :=
  (∀ j, j < 15 → entF s true j 1 1 ≤ t.hub.fuses.svn.getD (compGroup j) 0) ∧ ∀ g, g < 4 → s.hub.fuses.svn.getD g 0 ≤ t.hub.fuses.svn.getD g 0

/-- R390: slot B has been rejected for a reason. -/
def Rejected (t : State) (r : Nat) : Prop := bState t = 6 ∧ (bRec t).reason = r ∧ getF t HP_BOOT_STS_ERR = r % 256

end Sys2Proof.Claims


/-- R387-R391, R393, R394: the firmware commands: each with its effect on slot B, the boot record and the fuses, or its refusal; while the firmware is away they wait; INSTALL takes a certificate
that passes its checks; a frame in recovery mode has the effect of its command once. -/
def Obligations.FirmwareCommands : Prop :=
  ∀ (s : State) (len : Fin 131072) (found : HostData) (fuse : Bool) (seq op : BitVec 8) (off crc : BitVec 32) (data : List Byte) (crcOk : Bool),
    let u := hostPlace s found
    let v (t : State) := (getF t HP_FW_CMD_STATUS, getF t HP_FW_CMD_REASON)
    let ends (i : Instr) (u : State) (P : State → Prop) : Prop := Goes (exec i s) (fun t => P t ∧ SameRegs u t fwRegs ∧ t.mem = u.mem)
    let staged (i : Instr) (k : Nat) : Prop := FwRuns s [(HP_FW_CMD_OP, k)] → ends i s (fun t => FwEffect s t k 0 0 [] false (v t))
    let pa := hostBase + (rd u HP_FW_ARG0).toNat % 2 ^ 51
    let refused (i : Instr) (r : Nat) : Prop := Does i s [HP_FW_CMD] (fun t => v t = (3, r) ∧ t = { s with regs := t.regs })
    let recovery := getF s HP_BOOT_STS_STAGE = 8
    let hitch (t : State) (asked : Bool) : Prop := getF t HP_FW_CMD_STATUS = 1 ∧ t.boot = { s.boot with hitch := some ⟨1, none, asked, asked, s.hubTime⟩ }
    let listens := recovery ∧ crcOk = true ∧ clkLost s 58 = false
    let ca := hostBase + (rd u HP_CERT_ADDR).toNat % 2 ^ 51
    let c := leVal (readBytes u ca 512)
    let kind := certF c 1 1
    let cert (i : Instr) (st r : Nat) (regs : List Nat) (P : State → Prop) : Prop := Goes (exec i s) (fun t => getF t HP_CERT_CMD_STATUS = st ∧ getF t HP_CERT_CMD_REASON = r ∧ P t
      ∧ SameRegs u t (HP_CERT_CMD :: regs) ∧ t.mem = u.mem)
    let slot := (List.range 16).find? (fun i => certAt u i == 0)
    let stored := ∃ i, i < 16 ∧ certAt u i = c
    staged .stageBegin 1 ∧ staged .stageEnd 3 ∧ staged .discard 7
    ∧ (FwRuns u [(HP_FW_CMD_OP, 2), (HP_FW_CMD_LEN, len)] → Readable u pa → ends (.stageBlock len found) u (fun t =>
        FwEffect u t 2 (getF u HP_FW_ARG1_OFFSET) (getF u HP_FW_ARG1_CRC) (readBytes u pa len) (anyPoison u pa len) (v t)))
    ∧ (∀ k i, (k, i) ∈ [(1, Instr.stageBegin), (3, .stageEnd), (4, .activate), (6, .revert), (7, .discard)] → Takes s HP_FW_CMD (cmdWord [(HP_FW_CMD_OP, k)]) → ¬ recovery → fwAway s = true →
        Does i s [HP_FW_CMD] (fun t => getF t HP_FW_CMD_STATUS = 1 ∧ t.boot = { s.boot with held := s.boot.held ++ [(HP_FW_CMD, true)] }))
    ∧ (FwRuns s [(HP_FW_CMD_OP, 4)] → (bState s ≠ 2 → refused .activate 10)
      ∧ (bState s = 2 → ¬ recovery → Does .activate s [HP_FW_CMD] (fun t => hitch t false))
      ∧ (bState s = 2 → recovery → (∀ r, verifySet s true false .ok = some r → r < 16 → ends .activate s (fun t => v t = (3, r) ∧ Rejected t r))
        ∧ (verifySet s true false .ok = none → ends .activate s (fun t => v t = (2, 0) ∧ t.boot.flash.slotA = s.boot.flash.slotB ∧ FusesRaised s t ∧ (bRec t).fails = 0))))
    ∧ (FwRuns s [(HP_FW_CMD_OP, 5)] → (bState s ≠ 4 → refused (.commit fuse) 10) ∧ (bState s = 4 → fuse = false → refused (.commit fuse) 8)
      ∧ (bState s = 4 → fuse = true → ends (.commit fuse) s (fun t => getF t HP_FW_CMD_STATUS = 1 ∧ bState t = 5 ∧ FusesRaised s t)))
    ∧ (FwRuns s [(HP_FW_CMD_OP, 6)] → (bState s ≠ 4 → refused .revert 10) ∧ (bState s = 4 → Does .revert s [HP_FW_CMD] (fun t => hitch t true)))
    ∧ (¬ listens → Nothing (.recoveryFrame seq op off crc data crcOk) s)
    ∧ (∀ a, listens → s.boot.uart = some a → a.1 = seq.toNat → Does (.recoveryFrame seq op off crc data crcOk) s [] (fun t => t.boot = { s.boot with uartOut := s.boot.uartOut ++ [a] }))
    ∧ (listens → (∀ a, s.boot.uart = some a → a.1 ≠ seq.toNat) → Goes (exec (.recoveryFrame seq op off crc data crcOk) s) (fun t => t.mem = s.mem ∧ SameRegs s t fwRegs
        ∧ ∃ st r, t.boot.uart = some (seq.toNat, st, r) ∧ t.boot.uartOut = s.boot.uartOut ++ [(seq.toNat, st, r)] ∧ FwEffect s t op.toNat off.toNat crc.toNat data false (st, r)
          ∧ (op = 5 ∨ op = 6 → (st, r) = (3, 10)) ∧ (op = 4 → bState s ≠ 2 → (st, r) = (3, 10))))
    ∧ (Takes u HP_CERT_CMD (cmdWord [(HP_CERT_CMD_OP, 1)]) → Readable u ca →
      (anyPoison u ca 512 = true → cert (.install found) 3 1 [] (fun t => t.boot = u.boot))
      ∧ (anyPoison u ca 512 = false →
        (∀ r, certRefusal u c = some r → cert (.install found) 3 r [] (fun t => t.boot = u.boot))
        ∧ (certRefusal u c = none → kind = 0x10 → cert (.install found) 2 0 [HP_BOOT_STS] (fun t => t.boot.debug = certF c 20 1 ∧ getF t HP_BOOT_STS_DEBUG = 1))
        ∧ (certRefusal u c = none → kind ≠ 0x10 → (stored → cert (.install found) 2 0 [] (fun t => t.boot = u.boot))
          ∧ (¬ stored → slot = none → cert (.install found) 3 5 [] (fun t => t.boot = u.boot))
          ∧ (∀ i, ¬ stored → slot = some i → cert (.install found) 2 0 [HP_CERT i] (fun t => certAt t i = c ∧ getF t (HP_CERT_KIND i) = kind ∧ getF t (HP_CERT_VALID i) = 0
            ∧ getF t (HP_CERT_INFORCE i) = 0 ∧ getF t (HP_CERT_SERIAL i) = certF c 4 4)))))

namespace Sys2Proof.Claims
open Machine

/-- R390: an activation fails for a reason: slot B is rejected and the hitch goes back through phase 3 to slot A. -/
def Reverts (c : Instr) (s : State) (h : Hitch) (r : Nat) : Prop := Goes (exec c s) (fun t => Rejected t r ∧ t.boot.fwUp = false ∧ t.mem = s.mem ∧ SameRegs s t fwRegs
  ∧ t.boot.hitch = some { h with
    phase := 3
    unit := none
    back := true
    since := s.hubTime })

/-- R403: the registers that a loss of the board supplies leaves: the latch of the safe state and those of the lasers. -/
def keptByPower (a : Nat) : Prop := a ∈ [FC_PKG, FC_GRAVE 0, FC_GRAVE 1] ∨ ∃ r l, r < 34 ∧ l < lamCount r ∧ a = OE_LAS_BIAS r l

end Sys2Proof.Claims


/-- R389-R391: the hitch: its hand-over, its verification and the start of the firmware, each of which may send it back; a unit that is ready lets the next restart; a unit that is not in time
sends it back; its end; and the promotion of a committed set. -/
def Obligations.Hitches : Prop :=
  ∀ (s : State) (recOk : Bool) (io : FlashIO) (i : Fin 15),
    let v (t : State) := (getF t HP_FW_CMD_STATUS, getF t HP_FW_CMD_REASON)
    (s.boot.hitch = none → Nothing (.hitchPhase recOk io) s ∧ Nothing (.unitReady i) s ∧ Nothing .hitchUnitTimeout s)
    ∧ (∀ h, s.boot.hitch = some h →
      let at_ (t : State) (p : Nat) : Prop := t.boot.hitch = some { h with
        phase := p
        since := s.hubTime }
      let bad := verifySet s true true io
      (h.phase = 1 → Does (.hitchPhase recOk io) s fwRegs (fun t => t.boot.fwUp = false ∧ getF t HP_BOOT_STS_STAGE = 7 ∧ (h.back = true → at_ t 3) ∧ (h.back = false → at_ t 2 ∧ bState t = 3)))
      ∧ (h.phase = 2 → (∀ r, bad = some r → Reverts (.hitchPhase recOk io) s h r) ∧ (bad = none → Does (.hitchPhase recOk io) s [] (fun t => at_ t 3)))
      ∧ (h.phase = 3 → (h.back = false → recOk = false → Reverts (.hitchPhase recOk io) s h 14)
        ∧ (h.back = true ∨ recOk = true → Goes (exec (.hitchPhase recOk io) s) (fun t => ∃ u, t = serveHeld (nextUnit h 13 1 u) ∧ u.boot = { s.boot with fwUp := true }
          ∧ getF u HP_BOOT_STS_SLOT = b2n (!h.back) ∧ getF u HP_BOOT_STS_BOOT = 2 ∧ getF u (HP_FW_COMP_READY 0) = 1 ∧ getF u (HP_FW_COMP_SLOT 0) = b2n (!h.back)
          ∧ SameRegs s u [HP_FW_COMP 0, HP_BOOT_STS] ∧ u.mem = s.mem)))
      ∧ (h.phase = 7 → Goes (exec (.hitchPhase recOk io) s) (fun t => t.boot.hitch = none ∧ getF t HP_BOOT_STS_STAGE = 9 ∧ SameRegs s t fwRegs ∧ t.mem = s.mem
        ∧ (h.asked = true → bState t = 2 ∧ v t = (2, 0)) ∧ (h.asked = false → h.back = true → v t = (3, getF s HP_BOOT_STS_ERR))
        ∧ (h.asked = false → h.back = false → bState t = 4 ∧ v t = (2, 0))))
      ∧ (h.phase ∉ [1, 2, 3, 7] → Nothing (.hitchPhase recOk io) s)
      ∧ (h.unit ≠ some i.val → Nothing (.unitReady i) s)
      ∧ (h.unit = some i.val → Goes (exec (.unitReady i) s) (fun t => ∃ u, t = serveHeld (nextUnit h (13 - i) (i + 1) u) ∧ getF u (HP_FW_COMP_READY i) = 1 ∧ u.boot = s.boot
        ∧ (i.val < 10 → getF u (HP_FW_COMP_OL_US i) = min ((s.hubTime - h.since) / 1000) 65535) ∧ SameRegs s u [HP_FW_COMP i, OE_STS (i - 2)]
        ∧ (2 ≤ i.val → i.val < 10 → getF s (OE_STS_STATE (i - 2)) = 4 → clkLost s (46 + (i - 2)) = false → getF u (OE_STS_STATE (i - 2)) = 3)))
      ∧ (h.unit = none → (h.phase = 3 → h.back = false → Reverts .hitchUnitTimeout s h 13) ∧ (h.phase ≠ 3 ∨ h.back = true → Nothing .hitchUnitTimeout s))
      ∧ (∀ j, h.unit = some j →
        (unitTurn s j = .skip → Goes (exec .hitchUnitTimeout s) (fun t => ∃ u, t = nextUnit h (13 - j) (j + 1) u ∧ getF u (HP_FW_COMP_SKIPPED j) = 1 ∧ SameRegs s u [HP_FW_COMP j] ∧ u.boot = s.boot))
        ∧ (unitTurn s j ≠ .skip → (h.back = true → Nothing .hitchUnitTimeout s) ∧ (h.back = false → Reverts .hitchUnitTimeout s h 13))))
    ∧ (bState s ≠ 5 ∨ s.boot.fwUp = false → Nothing .promotionComplete s)
    ∧ (bState s = 5 → s.boot.fwUp = true → Does .promotionComplete s fwRegs (fun t => t.boot.flash.slotA = s.boot.flash.slotB ∧ t.boot.flash.slotB = [] ∧ bState t = 0 ∧ (bRec t).verA = (bRec s).verB
        ∧ (getF s HP_FW_CMD_OP = 5 → getF s HP_FW_CMD_STATUS = 1 → v t = (2, 0))))

/-- R303, R380, R384, R392, R393, R402-R404: PWROK rises on a package whose registers are at their reset values but for its straps; each stage of the cold start ends once its work is done; boots that
fail are counted and lead to recovery; BOOT_OK and the watchdog; PWROK falls and leaves only what is not volatile. -/
def Obligations.StartUp : Prop :=
  ∀ (s : State) (rank : Fin 16) (recovery cycle : Bool) (io : FlashIO),
    let stage := getF s HP_BOOT_STS_STAGE
    let st (k : Nat) (t : State) : Prop := getF t HP_BOOT_STS_STAGE = k
    let cold : Instr := .coldStartStage io
    let goes := s.boot.pwrok = true ∧ pkgSafe s = false ∧ s.hub.down = false
    let early := ∃ n : Die, getF s (CH_DIE_STS_STATE n) = 1 ∨ getF s (CH_DIE_STS_STATE n) = 2
    let busy := ((List.range 4).any (fun n => dieUp s n && (List.range 2).any (fun k => getF s (CD_HBM_STS_STATE n k) == 1 || getF s (CD_HBM_STS_STATE n k) == 2))
      || (ipRopes s).any (fun rho => ropeState s (24 + rho) == 2)) = true
    let waits := s.boot.awaitOk = true
    (s.boot.pwrok = true → Nothing (.pwrokRise rank recovery cycle) s)
    ∧ (s.boot.pwrok = false → Goes (exec (.pwrokRise rank recovery cycle) s) (fun t => t.boot = { s.boot with
          pwrok := true
          recoveryN := recovery
          since := s.hubTime
          resetAt := s.hubTime }
        ∧ getF t HP_GRP_STS_RANK = rank ∧ getF t HP_GRP_STS_PRESENT = 2 ^ rank.val ∧ rd t (HP_GRP_MEMBER rank 0) = BitVec.ofNat 64 s.hub.fuses.uid
        ∧ (∀ r : Fin 16, bitsOf (rd t (HP_HOST_SHARE (r / 8))) (8 * (r % 8) + 7) (8 * (r % 8)) = if r = rank then 0x10 else 0)
        ∧ (∀ a, a ∉ [HP_HOST_SHARE 0, HP_HOST_SHARE 1, HP_GRP_STS, HP_GRP_MEMBER rank 0] → (cycle = true ∨ a ∉ [FC_PKG, FC_GRAVE 0, FC_GRAVE 1]) → rd t a = resetWord a)
        ∧ (cycle = false → ∀ a, a ∈ [FC_PKG, FC_GRAVE 0, FC_GRAVE 1] → rd t a = rd s a) ∧ t.mem = s.mem ∧ t.ks = s.ks))
    ∧ (s.boot.pwrok = false → Nothing .pwrokFall s)
    ∧ (s.boot.pwrok = true → Goes (exec .pwrokFall s) (fun t => t.boot = { BootX.reset with flash := s.boot.flash } ∧ t.ks.acc = s.ks.acc ∧ t.ks.log = s.ks.log ∧ t.ks.link = false
        ∧ t.hub.fuses = s.hub.fuses ∧ t.plies = [] ∧ t.bricks = [] ∧ t.pending = s.pending ∧ t.hubTime = s.hubTime
        ∧ (∀ pa, memGet t pa = if pa < hostBase then 0 else memGet s pa) ∧ (∀ a, ¬ keptByPower a → rd t a = resetWord a) ∧ (∀ a, a ∈ [FC_PKG, FC_GRAVE 0, FC_GRAVE 1] → rd t a = rd s a)))
    ∧ (¬ goes → Nothing cold s) ∧ (7 ≤ stage → Nothing cold s)
    ∧ (goes → stage = 0 →
      (s.boot.recoveryN = true → Goes (exec cold s) (fun t => st 8 t ∧ getF t HP_BOOT_STS_RECOV = 1 ∧ s.boot.flash = t.boot.flash))
      ∧ (s.boot.recoveryN = false → bootRec s = none → io ≠ .writeErr → Goes (exec cold s) (fun t => st 0 t ∧ (bRec t).bState = 0 ∧ (bRec t).fails = 1 ∧ (bRec t).reason = 12 ∧ getF t HP_BOOT_STS_ERR = 12))
      ∧ (∀ b, s.boot.recoveryN = false → bootRec s = some b →
        (2 ≤ b.1.fails → Goes (exec cold s) (fun t => st 8 t ∧ getF t HP_BOOT_STS_RECOV = 2))
        ∧ (b.1.fails < 2 → Goes (exec cold s) (fun t => st 1 t ∧ testPhase t 4 = 1 ∧ (∀ n : Die, getF t (CH_DIE_STS_STATE n) = 1) ∧ bState t = (if b.1.bState = 3 ∨ b.1.bState = 4 then 2 else b.1.bState)
          ∧ t.mem = s.mem))))
    ∧ (goes → stage = 1 → (testPhase s 4 ≠ 0 → Nothing cold s) ∧ (testPhase s 4 = 0 → Does cold s [HP_BOOT_STS] (st 2)))
    ∧ (goes → stage = 2 → let b := decide (bState s = 5)
      (∀ r, verifySet s b b io = some r → Goes (exec cold s) (fun t => st 0 t ∧ (bRec t).fails = (bRec s).fails + 1 ∧ (bRec t).reason = r))
      ∧ (verifySet s b b io = none → Goes (exec cold s) (fun t => st 3 t ∧ t.mem = s.mem
        ∧ getF t HP_CAP_EFF_CERT_GUEST = b2n ((List.range 16).any (fun i => certAt s i != 0 && (certRefusal s (certAt s i)).isNone && certF (certAt s i) 1 1 == 3)))))
    ∧ (goes → stage = 3 → (early → Nothing cold s) ∧ (¬ early → Goes (exec cold s) (fun t => st 4 t ∧ t.mem = s.mem ∧ ∀ n : Die, bitN (getF t HP_CAP_EFF_CH_ADMITTED) n = b2n (dieUp s n))))
    ∧ (goes → stage = 4 → Goes (exec cold s) (fun t => st 5 t ∧ t.boot = { s.boot with
          fwUp := true
          awaitOk := true }
        ∧ getF t HP_BOOT_STS_SLOT = b2n (forceB s) ∧ t.mem = s.mem ∧ (∀ n : Die, dieUp s n = true → getF t (CD_HBM_STS_STATE n 0) = 1 ∧ getF t (CD_HBM_STS_STATE n 1) = 1)
        ∧ ∀ k : Fin 8, bitN (getF s HP_CAP_EFF_OE_ADMITTED) k = 1 → getF t (OE_STS_STATE k) = if oeCarries s k then 3 else 1))
    ∧ (goes → stage = 5 → (busy → Nothing cold s) ∧ (¬ busy → Goes (exec cold s) (st 6)))
    ∧ (goes → stage = 6 → Goes (exec cold s) (fun t => ∃ u, t = serveHeld u ∧ st 9 u ∧ getF u HP_BOOT_STS_BOOT_MS = (s.hubTime - s.boot.since) / 1000000 % 2 ^ 32
        ∧ ∀ n : Die, getF s (CH_DIE_STS_STATE n) = 3 → getF u (CH_ADM_CTL_EN n) = 1))
    ∧ (¬ waits ∨ stage ≠ 9 → Nothing .bootOk s)
    ∧ (waits → stage = 9 → Does .bootOk s fwRegs (fun t => t.boot = { s.boot with
          awaitOk := false
          flash := t.boot.flash }
        ∧ (bRec t).fails = 0))
    ∧ (¬ waits ∨ pkgSafe s = true → Nothing (.bootWatchdog io) s)
    ∧ (waits → pkgSafe s = false → Goes (exec (.bootWatchdog io) s) (fun t => ∃ u, t = hubReset u io ∧ (bRec u).fails = (bRec s).fails + 1 ∧ (bRec u).reason = 15 ∧ getF u HP_BOOT_STS_ERR = 15
        ∧ SameRegs s u fwRegs ∧ u.mem = s.mem))

namespace Sys2Proof.Claims
open Machine

/-- Table 14-5: the HOT flag of a sensor: its field in HP_THERM and its place there. -/
def hotOf (k : Nat) : Fld × Nat :=
  if k < 64 then (HP_THERM_HOT_CD, k / 16) else if k < 96 then (HP_THERM_HOT_OE, (k - 64) / 4) else if k < 160 then (HP_THERM_HOT_PI, 0) else if k = 160 then (HP_THERM_HOT_HD, 0)
  else (HP_THERM_HOT_HBM, k - 161)

/-- R352, R401, R407: a class S fault of the package: at once its record, its latch and the safe state; with the hub away a report that waits. -/
def Graves (c : Instr) (s : State) (cause inst : Nat) : Prop :=
  (s.hub.down = false → Goes (exec c s) (fun t => ∃ u, Latched s u t cause 0 inst ∧ u.mem = s.mem))
  ∧ (s.hub.down = true → Does c s [] (fun t => Reported s t cause 0 ∧ t = { s with reports := t.reports }))

end Sys2Proof.Claims


/-- R53, R54, R399-R401, R407: a supply's set-point begins to move and its reading says when it is there; a supply fault and a thermal trip are class S faults; what a speed monitor, a sensor and
the trim of a sensor write. -/
def Obligations.SuppliesAndSensors : Prop :=
  ∀ (s : State) (n : Die) (i : Fin 16) (mv tgt : Fin 1024) (e : Fin 13) (k : Fin 169) (t0 a b : Int) (count : Nat),
    let set := setPoint tgt
    let live := sensorLive s k = true
    let v := if k.val < 161 then sextN (wrapN t0 16) 16 else t0
    let was := (tabGet (fun _ => none) s.side.temps k).getD (-32768)
    let count_ := tabGet (fun _ => 0) s.side.trips k
    let hot := occFld (hotOf k).1 (hotOf k).2
    let good := partGood ⟨.sensor, 0, a, b⟩ = true
    let up := dieUp s n = true
    (Takes s (HP_VCORE n) (putBits 0 9 0 tgt) → Does (.vcoreSet n tgt) s [HP_VCORE n] (fun t => getF t (HP_VCORE_TARGET n) = tgt
      ∧ getF t (HP_VCORE_MOVING n) = b2n (decide (set ≠ getF s (HP_VCORE_ACTUAL n))) ∧ getF t (HP_VCORE_ACTUAL n) = getF s (HP_VCORE_ACTUAL n) ∧ t = { s with regs := t.regs }))
    ∧ Does (.avsTransaction n false mv) s (flagRegs (HP_VCORE_AVS_ERR n)) (fun t => Flagged s t (HP_VCORE_AVS_ERR n))
    ∧ Does (.avsTransaction n true mv) s [HP_VCORE n] (fun t => getF t (HP_VCORE_ACTUAL n) = mv ∧ getF t (HP_VCORE_MOVING n) = b2n (decide (setPoint (getF s (HP_VCORE_TARGET n)) ≠ mv.val))
      ∧ getF t (HP_VCORE_RETENTION n) = b2n (decide (mv.val < 650)) ∧ getF t (HP_VCORE_TARGET n) = getF s (HP_VCORE_TARGET n))
    ∧ (e.val = 12 ∨ pkgSafe s = true → Nothing (.supplyFault e) s) ∧ (e.val ≠ 12 → pkgSafe s = false → Graves (.supplyFault e) s 0x0905 e)
    ∧ (count_ < 10 ∨ ¬ live ∨ pkgSafe s = true → Nothing (.thermalTrip k) s) ∧ (10 ≤ count_ → live → pkgSafe s = false → Graves (.thermalTrip k) s 0x0904 k)
    ∧ (¬ up ∨ epochStale s n = true → Nothing (.speedMonitorWindow n i count) s)
    ∧ (up → epochStale s n = false → Does (.speedMonitorWindow n i count) s [CD_SPD_MON n i] (fun t =>
      getF t (CD_SPD_MON_STEP n i) = (if count = 0 then (draw s).1.toNat % 2 ^ 20 else min (16384000 / count) (2 ^ 20 - 1)) ∧ getF t (CD_SPD_MON_STALE n i) = 0
      ∧ getF t (CD_SPD_MON_VALID n i) = 1 ∧ getF t (CD_SPD_MON_SEQ n i) = (getF s (CD_SPD_MON_SEQ n i) + 1) % 2 ^ 16 ∧ t.draws = s.draws + if count = 0 then 1 else 0))
    ∧ (¬ live → Nothing (.tempSensorReading k t0) s)
    ∧ (live → Goes (exec (.tempSensorReading k t0) s) (fun t => t.mem = s.mem ∧ t.reports = s.reports ∧ ∃ u, (k.val < 64 → t = thermalRisk u (k / 16)) ∧ (64 ≤ k.val → t = u)
      ∧ tabGet (fun _ => none) u.side.temps k = some v ∧ tabGet (fun _ => 0) u.side.trips k = (if 16 * tempTrip k ≤ v then min (count_ + 1) 10 else 0)
      ∧ (∀ r, tempReg k = some r → bitsOf (rd u r) 15 0 = wrapN v 16 ∧ bitsOf (rd u r) 17 17 = 1 ∧ bitsOf (rd u r) 47 32 = (bitsOf (rd s r) 47 32 + 1) % 2 ^ 16)
      ∧ (161 ≤ k.val → getF u (CD_HBM_STS_TEMP ((k - 161) / 2) ((k - 161) % 2)) = min 255 (v / 16).toNat)
      ∧ (16 * tempLimit k ≤ v → was < 16 * tempLimit k → getF u hot = (getF s hot + 1) % 2 ^ 16
        ∧ bitsOf (rd u HP_THERM) ((hotOf k).1.lo + (hotOf k).2) ((hotOf k).1.lo + (hotOf k).2) = 1)
      ∧ (v < 16 * tempLimit k ∨ 16 * tempLimit k ≤ was → getF u hot = getF s hot)))
    ∧ (¬ up → Nothing (.tempSensorTrim n i none) s ∧ Nothing (.tempSensorTrim n i (some (a, b))) s)
    ∧ (up → Does (.tempSensorTrim n i none) s [CD_TEMP n i] (fun t => getF t (CD_TEMP_STALE n i) = 1 ∧ t = { s with regs := t.regs })
      ∧ (getF s (CD_TEMP_STALE n i) = 0 → Nothing (.tempSensorTrim n i (some (a, b))) s)
      ∧ (getF s (CD_TEMP_STALE n i) = 1 → (good → Does (.tempSensorTrim n i (some (a, b))) s [CD_TEMP n i] (fun t => getF t (CD_TEMP_STALE n i) = 0 ∧ getF t (CD_TEMP_TRIM_FUSED n i) = 0 ∧ t.reports = s.reports))
        ∧ (¬ good → Does (.tempSensorTrim n i (some (a, b))) s [CD_TEMP n i] (fun t => getF t (CD_TEMP_STALE n i) = 0 ∧ getF t (CD_TEMP_TRIM_FUSED n i) = 1 ∧ Reported s t 0x0201 (2 ^ n.val)))))

namespace Sys2Proof.Claims
open Machine

/-- What a machine that has just been reset reads: each pair is a register and the value that its card gives for reset. -/
def resetPairs : List (Nat × Word) :=
  (List.range 4).flatMap (fun n => [(CD_HUB_WAIT_LIM n, 100000), (CH_SLEW_CTL n, 0x1F4), (HP_VCORE n, 0x02EE02EE)])
  ++ [(HP_FWD_CTL, 0x1F4), (SN_CTL, 0x7D0), (HP_BRIDGE_CMD, 0), (HP_BOOT_STS, 0), (HP_SPAN_CMD, 0), (FC_PKG, 0), (HP_CLK_LOSS, 0), (PI_STEER_CMD, 0), (SN_CMD, 0), (HP_KS_MB, 0),
    (HP_FW_CMD, 0)]
  ++ (List.range 5).map (fun c => (FC_CTL c, 0x64))

end Sys2Proof.Claims


/-- The model's own queue (assumptions 1 and 5): a step carries out the command at the front on the state with the rest of the queue; where none waits and nothing is held back, one nanosecond passes:
the hub's time and the epoch counters of the channels whose clocks run (R155) advance by one, and nothing else changes. -/
def Obligations.StepTakesFront : Prop :=
  ∀ (s : State),
    (∀ c rest, s.pending = c :: rest → step s = exec c { s with pending := rest })
    ∧ (s.pending = [] → s.boot.held = [] → s.hub.hostOut = [] → (∀ r ∈ s.ropes, r.2.narrow = none) → Goes (step s) (fun t =>
      (∀ n : Die, getF t (CD_EPOCH_EPOCH n) = if dieUp s n = true ∧ getF s (CD_EPOCH_STALE n) = 0 then (getF s (CD_EPOCH_EPOCH n) + 1) % 2 ^ 48 else getF s (CD_EPOCH_EPOCH n))
      ∧ (∀ n : Die, getF t (CD_EPOCH_STALE n) = getF s (CD_EPOCH_STALE n))
      ∧ SameRegs s t ((List.range 4).map CD_EPOCH) ∧ t = { s with
        regs := t.regs
        hubTime := s.hubTime + 1 }))

/-- The machine at reset: registers, memory and queues as State.reset gives them. The registers' numbers are those of their cards; that memory which nothing has written reads 0, and that the queue is
empty, are the model's choices (assumptions 1 and 3), as are the fuses and the strap (assumption 2). Management is not served, no die is up, and register file and memory are in canonical form. -/
def Obligations.ResetState : Prop :=
  (∀ x ∈ resetPairs, rd State.reset x.1 = x.2)
  ∧ (∀ a, rd State.reset a = resetWord a) ∧ (∀ pa, memGet State.reset pa = 0) ∧ State.reset.pending = [] ∧ served State.reset = false
  ∧ (∀ n : Die, dieUp State.reset n = false ∧ getF State.reset (CD_EPOCH_EPOCH n) = 0 ∧ ∀ (b : Fin 384) (q : Fin 4), plyState State.reset n b q = 0 ∧ getPc State.reset ⟨n, b, q⟩ = 0
    ∧ (∀ i : Fin 32, getS State.reset ⟨n, b, q⟩ i = 0) ∧ (∀ i : Fin 16, getA State.reset ⟨n, b, q⟩ i = 0))
  ∧ Canonical State.reset

/-- From every state whose register file and memory are in canonical form, every step, whichever command is at the front of the queue, goes on to a state in which they are: no command faults or is
refused, and equal contents stay equal data. -/
def Obligations.StepKeepsCanonical : Prop :=
  ∀ (s : State), Canonical s → Goes (step s) Canonical

/-- R8, R10, R14 (and R11, and R7 for the way in): accesses that are not performed. A write that is not of 8 bytes at an aligned address, one where no register stands, and one to unit 7 are discarded
and counted and change nothing else; a write to a command register whose status shows a command in progress leaves the register, its status and all else as they were and is counted; a read that is
neither of an aligned register nor of an aligned half, or where no register stands, returns 0, and the former is counted. -/
def Obligations.AccessesNotPerformed : Prop :=
  ∀ (s : State) (a : BitVec 36) (len : Fin 17) (w : Word) (ok : Bool) (rank : Fin 16) (op : MgmtOp),
    let b := a.toNat
    let r := b + opOff op
    let write : Instr := .mgmtWrite a len w ok
    let read : Instr := .bar2RemoteAccess rank a op 0
    let ignored : Prop := Goes (exec write s) (fun t => ∃ c, Discarded s t b true c)
    let zero (st : BarStatus) (P : State → Prop) : Prop := Goes (exec read s) (fun t => t.hub.port.done = s.hub.port.done ++ [⟨b, st, 0⟩] ∧ P { t with hub := s.hub })
    let misses := if op = .read64 then r % 8 ≠ 0 else r % 4 ≠ 0
    served s = true →
      (len.val ≠ 8 ∨ b % 8 ≠ 0 → ignored) ∧ (placeOf b = .none → ignored) ∧ (adrUnit b = 7 → ignored)
      ∧ (∀ c x, placeOf b = .reg c x → c.cmd ≠ 0 → bitsOf (rd s b) (c.sts + 1) c.sts = 1 → ignored ∧ Goes (exec write s) (fun t => rd t b = rd s b))
      ∧ (s.hub.port.up = true → rank.val = ownRank s → op ≠ .write64 →
        (misses → zero .done (fun t => Discarded s t r false 1))
        ∧ (¬ misses → placeOf (r - r % 8) = .none → (hidden s r = true ∨ dieAway s r = false → zero .done (fun t => Discarded s t r false 2))
          ∧ (hidden s r = false → dieAway s r = true → zero .poisoned (fun t => t = s))))

/-- R305: the queue page, which is every offset of block 0x060 outside the four ranges of the role page. While a package is not PRIMARY every write to it is discarded and counted and changes nothing
else, and every read of it, of whatever size, returns 0; the role page is live in every role: its registers read as they stand, and no write to it is refused for the role. BAR0 is a window onto the
same addresses, so that its accesses are these commands. -/
def Obligations.QueuePage : Prop :=
  ∀ (s : State) (a : BitVec 36) (len : Fin 17) (w : Word) (ok : Bool) (op : MgmtOp),
    let page (x : Nat) : Prop := adrUnit x = 0 ∧ adrBlk x = 0x60
    let role (x : Nat) : Prop := let o := adrOff x
      o < 0x1000 ∨ (0x40000 ≤ o ∧ o < 0x41000) ∨ o = 0x7FFF8 ∨ (0x80000 ≤ o ∧ o < 0x84000)
    let r := a.toNat + opOff op
    let read (x : MgmtOp) (v : Word → Prop) : Prop := ∀ rank : Fin 16, rank.val = ownRank s → s.hub.port.up = true → x ≠ .write64 →
      Goes (exec (.bar2RemoteAccess rank a x 0) s) (fun t => ∃ z, v z ∧ t.hub.port.done = s.hub.port.done ++ [⟨a.toNat, .done, z.toNat⟩])
    served s = true →
      (roleOf s ≠ 2 → page a.toNat → ¬ role a.toNat → Goes (exec (.mgmtWrite a len w ok) s) (fun t => ∃ c, Discarded s t a.toNat true c))
      ∧ (roleOf s ≠ 2 → page r → ¬ role (r - r % 8) → read op (fun z => z = 0))
      ∧ (page a.toNat → role a.toNat → a.toNat % 8 = 0 → hidden s a.toNat = false → placeOf a.toNat ≠ .none →
          read .read64 (fun z => z = readReg s a.toNat) ∧ ∀ v, writeRefusal s a.toNat 8 v ≠ some 6)
end

