-- ==== Sys2Proof/Laws/Tab.lean ====
section
/-! SUPPORT. What the operations on a table do: a read after a write, and that the canonical form is kept. -/
namespace Sys2Proof.Machine
variable {α : Type}

theorem tabGet_tabErase_same (d : Nat → α) (t : Tab α) (k : Nat) : tabGet d (tabErase t k) k = d k := by
  induction t with
  | nil => rfl
  | cons e t ih =>
    obtain ⟨k', v'⟩ := e
    by_cases h : k' = k <;> simp [tabErase, tabGet, h, ih]

theorem tabGet_tabErase_ne (d : Nat → α) (t : Tab α) {k j : Nat} (h : j ≠ k) : tabGet d (tabErase t k) j = tabGet d t j := by
  induction t with
  | nil => rfl
  | cons e t ih =>
    obtain ⟨k', v'⟩ := e
    by_cases hk : k' = k
    · simp [tabErase, tabGet, hk, ih, Ne.symm h]
    · simp [tabErase, tabGet, hk, ih]

theorem tabGet_tabIns_ne (d : Nat → α) (t : Tab α) (v : α) {k j : Nat} (h : j ≠ k) : tabGet d (tabIns t k v) j = tabGet d t j := by
  induction t with
  | nil => simp [tabIns, tabGet, Ne.symm h]
  | cons e t ih =>
    obtain ⟨k', v'⟩ := e
    by_cases hk : k < k'
    · simp [tabIns, tabGet, hk, Ne.symm h]
    · simp [tabIns, tabGet, hk, ih]

theorem tabGet_tabIns_erase (d : Nat → α) (t : Tab α) (k : Nat) (v : α) : tabGet d (tabIns (tabErase t k) k v) k = v := by
  induction t with
  | nil => simp [tabErase, tabIns, tabGet]
  | cons e t ih =>
    obtain ⟨k', v'⟩ := e
    by_cases hk : k' = k
    · simpa [tabErase, hk] using ih
    · by_cases hl : k < k'
      · simp [tabErase, hk, tabIns, hl, tabGet]
      · simpa [tabErase, hk, tabIns, hl, tabGet] using ih

/-- A read after a write to the same key gives the value written. -/
@[simp] theorem tabGet_tabSet_same [DecidableEq α] (d : Nat → α) (t : Tab α) (k : Nat) (v : α) : tabGet d (tabSet d t k v) k = v := by
  unfold tabSet
  split
  · next h => rw [tabGet_tabErase_same, h]
  · exact tabGet_tabIns_erase d t k v

/-- A write leaves every other key alone. -/
theorem tabGet_tabSet_ne [DecidableEq α] (d : Nat → α) (t : Tab α) (v : α) {k j : Nat} (h : j ≠ k) :
    tabGet d (tabSet d t k v) j = tabGet d t j := by
  unfold tabSet
  split
  · exact tabGet_tabErase_ne d t h
  · rw [tabGet_tabIns_ne d _ v h, tabGet_tabErase_ne d t h]

/-- A read after a write, at any key. -/
theorem tabGet_tabSet [DecidableEq α] (d : Nat → α) (t : Tab α) (v : α) (k j : Nat) :
    tabGet d (tabSet d t k v) j = if j = k then v else tabGet d t j := by
  split
  · next h => subst h; simp
  · next h => exact tabGet_tabSet_ne d t v h

/-- Dropping keys: a dropped key reads as the default. -/
theorem tabGet_tabDrop (d : Nat → α) (p : Nat → Bool) (t : Tab α) (j : Nat) :
    tabGet d (tabDrop p t) j = if p j then d j else tabGet d t j := by
  induction t with
  | nil => simp [tabDrop, tabGet]
  | cons e t ih =>
    obtain ⟨k', v'⟩ := e
    unfold tabDrop at ih ⊢
    by_cases hk : k' = j
    · subst hk
      cases hp : p k' <;> simp [List.filter, hp, tabGet] at ih ⊢
      exact ih
    · cases hp : p k' <;> simp [List.filter, hp, tabGet, hk, ih]

theorem tabErase_noKey (k : Nat) (t : Tab α) : ∀ e ∈ tabErase t k, e.1 ≠ k := by
  induction t with
  | nil => simp [tabErase]
  | cons e t ih =>
    obtain ⟨k', v'⟩ := e
    by_cases hk : k' = k
    · simpa [tabErase, hk] using ih
    · intro e he
      simp only [tabErase, hk, if_false, List.mem_cons] at he
      rcases he with rfl | he
      · exact hk
      · exact ih e he

/-! ## The canonical form -/
variable [DecidableEq α]

theorem tabWfFrom_mono (d : Nat → α) {lo lo' : Nat} (h : lo' ≤ lo) (t : Tab α) (w : tabWfFrom d lo t = true) : tabWfFrom d lo' t = true := by
  cases t with
  | nil => rfl
  | cons e t =>
    obtain ⟨k, v⟩ := e
    simp only [tabWfFrom, Bool.and_eq_true, decide_eq_true_eq] at w ⊢
    exact ⟨⟨by omega, w.1.2⟩, w.2⟩

theorem tabErase_wf (d : Nat → α) (k : Nat) : ∀ (t : Tab α) (lo : Nat), tabWfFrom d lo t = true → tabWfFrom d lo (tabErase t k) = true
  | [], _, _ => rfl
  | (k', v') :: t, lo, w => by
    simp only [tabWfFrom, Bool.and_eq_true, decide_eq_true_eq] at w
    have ih := tabErase_wf d k t (k' + 1) w.2
    by_cases hk : k' = k
    · simp only [tabErase, hk, if_true]
      exact tabWfFrom_mono d (by omega) _ (hk ▸ ih)
    · simp only [tabErase, hk, if_false, tabWfFrom, Bool.and_eq_true, decide_eq_true_eq]
      exact ⟨⟨w.1.1, w.1.2⟩, ih⟩

theorem tabIns_wf (d : Nat → α) (k : Nat) (v : α) (hv : v ≠ d k) :
    ∀ (t : Tab α) (lo : Nat), lo ≤ k → (∀ e ∈ t, e.1 ≠ k) → tabWfFrom d lo t = true → tabWfFrom d lo (tabIns t k v) = true
  | [], lo, hlo, _, _ => by simp [tabIns, tabWfFrom, hlo, hv]
  | (k', v') :: t, lo, hlo, hn, w => by
    simp only [tabWfFrom, Bool.and_eq_true, decide_eq_true_eq] at w
    have hk : k' ≠ k := hn (k', v') (by simp)
    by_cases hl : k < k'
    · simp only [tabIns, hl, if_true, tabWfFrom, Bool.and_eq_true, decide_eq_true_eq]
      exact ⟨⟨hlo, hv⟩, ⟨by omega, w.1.2⟩, w.2⟩
    · simp only [tabIns, hl, if_false, tabWfFrom, Bool.and_eq_true, decide_eq_true_eq]
      exact ⟨⟨w.1.1, w.1.2⟩, tabIns_wf d k v hv t (k' + 1) (by omega) (fun e he => hn e (by simp [he])) w.2⟩

/-- Every write keeps the canonical form. -/
theorem tabSet_wf (d : Nat → α) (t : Tab α) (k : Nat) (v : α) (w : tabWf d t = true) : tabWf d (tabSet d t k v) = true := by
  unfold tabSet
  split
  · exact tabErase_wf d k t 0 w
  · next h => exact tabIns_wf d k v h _ 0 (by omega) (tabErase_noKey k t) (tabErase_wf d k t 0 w)

theorem tabFilter_wf (d : Nat → α) (p : Nat × α → Bool) :
    ∀ (t : Tab α) (lo : Nat), tabWfFrom d lo t = true → tabWfFrom d lo (t.filter p) = true
  | [], _, _ => rfl
  | e :: t, lo, w => by
    obtain ⟨k', v'⟩ := e
    simp only [tabWfFrom, Bool.and_eq_true, decide_eq_true_eq] at w
    have ih := tabFilter_wf d p t (k' + 1) w.2
    cases hp : p (k', v') <;> simp only [List.filter, hp]
    · exact tabWfFrom_mono d (by omega) _ ih
    · simp only [tabWfFrom, Bool.and_eq_true, decide_eq_true_eq]
      exact ⟨w.1, ih⟩

/-- Dropping keys keeps the canonical form. -/
theorem tabDrop_wf (d : Nat → α) (p : Nat → Bool) (t : Tab α) (w : tabWf d t = true) : tabWf d (tabDrop p t) = true :=
  tabFilter_wf d _ t 0 w

/-- A change of one value keeps the canonical form. -/
theorem tabMod_wf (d : Nat → α) (t : Tab α) (k : Nat) (f : α → α) (w : tabWf d t = true) : tabWf d (tabMod d t k f) = true :=
  tabSet_wf d t k _ w

theorem tabModKeys_wf (d : Nat → α) (f : α → α) : ∀ (ks : List Nat) (t : Tab α), tabWf d t = true → tabWf d (tabModKeys d f ks t) = true
  | [], _, w => w
  | k :: ks, t, w => tabModKeys_wf d f ks _ (tabMod_wf d t k f w)

/-- A change of every value of some keys keeps the canonical form. -/
theorem tabModWhere_wf (d : Nat → α) (p : Nat → Bool) (f : α → α) (t : Tab α) (w : tabWf d t = true) : tabWf d (tabModWhere d p f t) = true :=
  tabModKeys_wf d f _ t w

/-- A series of writes keeps the canonical form. -/
theorem tabFold_wf {β : Type} (d : Nat → α) (k : β → Nat) (v : β → α) :
    ∀ (l : List β) (t : Tab α), tabWf d t = true → tabWf d (l.foldl (fun m e => tabSet d m (k e) (v e)) t) = true
  | [], _, w => w
  | e :: l, t, w => tabFold_wf d k v l _ (tabSet_wf d t (k e) (v e) w)

end Sys2Proof.Machine
end

