-- ==== Sys2Proof/Laws/State.lean ====
section
/-! SUPPORT. One lemma per field per update of the state. -/
namespace Sys2Proof.Machine
variable (s : State)

@[simp] theorem wr_regs (a : Nat) (v : Word) : (wr s a v).regs = tabSet resetWord s.regs a v := rfl
@[simp] theorem wr_mem (a : Nat) (v : Word) : (wr s a v).mem = s.mem := rfl
@[simp] theorem wr_poisoned (a : Nat) (v : Word) : (wr s a v).poisoned = s.poisoned := rfl
@[simp] theorem wr_hubTime (a : Nat) (v : Word) : (wr s a v).hubTime = s.hubTime := rfl
@[simp] theorem wr_draws (a : Nat) (v : Word) : (wr s a v).draws = s.draws := rfl
@[simp] theorem wr_plies (a : Nat) (v : Word) : (wr s a v).plies = s.plies := rfl
@[simp] theorem wr_bricks (a : Nat) (v : Word) : (wr s a v).bricks = s.bricks := rfl
@[simp] theorem wr_dies (a : Nat) (v : Word) : (wr s a v).dies = s.dies := rfl
@[simp] theorem wr_flights (a : Nat) (v : Word) : (wr s a v).flights = s.flights := rfl
@[simp] theorem wr_knotOps (a : Nat) (v : Word) : (wr s a v).knotOps = s.knotOps := rfl
@[simp] theorem wr_notices (a : Nat) (v : Word) : (wr s a v).notices = s.notices := rfl
@[simp] theorem wr_reports (a : Nat) (v : Word) : (wr s a v).reports = s.reports := rfl
@[simp] theorem wr_opt (a : Nat) (v : Word) : (wr s a v).opt = s.opt := rfl
@[simp] theorem wr_ropes (a : Nat) (v : Word) : (wr s a v).ropes = s.ropes := rfl
@[simp] theorem wr_net (a : Nat) (v : Word) : (wr s a v).net = s.net := rfl
@[simp] theorem wr_hub (a : Nat) (v : Word) : (wr s a v).hub = s.hub := rfl
@[simp] theorem wr_ks (a : Nat) (v : Word) : (wr s a v).ks = s.ks := rfl
@[simp] theorem wr_boot (a : Nat) (v : Word) : (wr s a v).boot = s.boot := rfl
@[simp] theorem wr_side (a : Nat) (v : Word) : (wr s a v).side = s.side := rfl
@[simp] theorem wr_read (a : Nat) (v : Word) : (wr s a v).read = s.read := rfl
@[simp] theorem wr_pending (a : Nat) (v : Word) : (wr s a v).pending = s.pending := rfl

@[simp] theorem setF_mem (f : Fld) (v : Nat) : (setF s f v).mem = s.mem := rfl
@[simp] theorem setF_poisoned (f : Fld) (v : Nat) : (setF s f v).poisoned = s.poisoned := rfl
@[simp] theorem setF_hubTime (f : Fld) (v : Nat) : (setF s f v).hubTime = s.hubTime := rfl
@[simp] theorem setF_draws (f : Fld) (v : Nat) : (setF s f v).draws = s.draws := rfl
@[simp] theorem setF_plies (f : Fld) (v : Nat) : (setF s f v).plies = s.plies := rfl
@[simp] theorem setF_bricks (f : Fld) (v : Nat) : (setF s f v).bricks = s.bricks := rfl
@[simp] theorem setF_dies (f : Fld) (v : Nat) : (setF s f v).dies = s.dies := rfl
@[simp] theorem setF_flights (f : Fld) (v : Nat) : (setF s f v).flights = s.flights := rfl
@[simp] theorem setF_knotOps (f : Fld) (v : Nat) : (setF s f v).knotOps = s.knotOps := rfl
@[simp] theorem setF_notices (f : Fld) (v : Nat) : (setF s f v).notices = s.notices := rfl
@[simp] theorem setF_reports (f : Fld) (v : Nat) : (setF s f v).reports = s.reports := rfl
@[simp] theorem setF_opt (f : Fld) (v : Nat) : (setF s f v).opt = s.opt := rfl
@[simp] theorem setF_ropes (f : Fld) (v : Nat) : (setF s f v).ropes = s.ropes := rfl
@[simp] theorem setF_net (f : Fld) (v : Nat) : (setF s f v).net = s.net := rfl
@[simp] theorem setF_hub (f : Fld) (v : Nat) : (setF s f v).hub = s.hub := rfl
@[simp] theorem setF_ks (f : Fld) (v : Nat) : (setF s f v).ks = s.ks := rfl
@[simp] theorem setF_boot (f : Fld) (v : Nat) : (setF s f v).boot = s.boot := rfl
@[simp] theorem setF_side (f : Fld) (v : Nat) : (setF s f v).side = s.side := rfl
@[simp] theorem setF_read (f : Fld) (v : Nat) : (setF s f v).read = s.read := rfl
@[simp] theorem setF_pending (f : Fld) (v : Nat) : (setF s f v).pending = s.pending := rfl

@[simp] theorem memPut_regs (pa : Nat) (v : Byte) : (memPut s pa v).regs = s.regs := rfl
@[simp] theorem memPut_mem (pa : Nat) (v : Byte) : (memPut s pa v).mem = tabSet memDefault s.mem pa v := rfl
@[simp] theorem memPut_poisoned (pa : Nat) (v : Byte) : (memPut s pa v).poisoned = s.poisoned := rfl
@[simp] theorem memPut_hubTime (pa : Nat) (v : Byte) : (memPut s pa v).hubTime = s.hubTime := rfl
@[simp] theorem memPut_draws (pa : Nat) (v : Byte) : (memPut s pa v).draws = s.draws := rfl
@[simp] theorem memPut_plies (pa : Nat) (v : Byte) : (memPut s pa v).plies = s.plies := rfl
@[simp] theorem memPut_bricks (pa : Nat) (v : Byte) : (memPut s pa v).bricks = s.bricks := rfl
@[simp] theorem memPut_dies (pa : Nat) (v : Byte) : (memPut s pa v).dies = s.dies := rfl
@[simp] theorem memPut_flights (pa : Nat) (v : Byte) : (memPut s pa v).flights = s.flights := rfl
@[simp] theorem memPut_knotOps (pa : Nat) (v : Byte) : (memPut s pa v).knotOps = s.knotOps := rfl
@[simp] theorem memPut_notices (pa : Nat) (v : Byte) : (memPut s pa v).notices = s.notices := rfl
@[simp] theorem memPut_reports (pa : Nat) (v : Byte) : (memPut s pa v).reports = s.reports := rfl
@[simp] theorem memPut_opt (pa : Nat) (v : Byte) : (memPut s pa v).opt = s.opt := rfl
@[simp] theorem memPut_ropes (pa : Nat) (v : Byte) : (memPut s pa v).ropes = s.ropes := rfl
@[simp] theorem memPut_net (pa : Nat) (v : Byte) : (memPut s pa v).net = s.net := rfl
@[simp] theorem memPut_hub (pa : Nat) (v : Byte) : (memPut s pa v).hub = s.hub := rfl
@[simp] theorem memPut_ks (pa : Nat) (v : Byte) : (memPut s pa v).ks = s.ks := rfl
@[simp] theorem memPut_boot (pa : Nat) (v : Byte) : (memPut s pa v).boot = s.boot := rfl
@[simp] theorem memPut_side (pa : Nat) (v : Byte) : (memPut s pa v).side = s.side := rfl
@[simp] theorem memPut_read (pa : Nat) (v : Byte) : (memPut s pa v).read = s.read := rfl
@[simp] theorem memPut_pending (pa : Nat) (v : Byte) : (memPut s pa v).pending = s.pending := rfl

@[simp] theorem poisonLine_regs (pa : Nat) : (poisonLine s pa).regs = s.regs := rfl
@[simp] theorem poisonLine_mem (pa : Nat) : (poisonLine s pa).mem = s.mem := rfl
@[simp] theorem poisonLine_poisoned (pa : Nat) : (poisonLine s pa).poisoned = insertAsc (pa / 64) s.poisoned := rfl
@[simp] theorem poisonLine_hubTime (pa : Nat) : (poisonLine s pa).hubTime = s.hubTime := rfl
@[simp] theorem poisonLine_draws (pa : Nat) : (poisonLine s pa).draws = s.draws := rfl
@[simp] theorem poisonLine_plies (pa : Nat) : (poisonLine s pa).plies = s.plies := rfl
@[simp] theorem poisonLine_bricks (pa : Nat) : (poisonLine s pa).bricks = s.bricks := rfl
@[simp] theorem poisonLine_dies (pa : Nat) : (poisonLine s pa).dies = s.dies := rfl
@[simp] theorem poisonLine_flights (pa : Nat) : (poisonLine s pa).flights = s.flights := rfl
@[simp] theorem poisonLine_knotOps (pa : Nat) : (poisonLine s pa).knotOps = s.knotOps := rfl
@[simp] theorem poisonLine_notices (pa : Nat) : (poisonLine s pa).notices = s.notices := rfl
@[simp] theorem poisonLine_reports (pa : Nat) : (poisonLine s pa).reports = s.reports := rfl
@[simp] theorem poisonLine_opt (pa : Nat) : (poisonLine s pa).opt = s.opt := rfl
@[simp] theorem poisonLine_ropes (pa : Nat) : (poisonLine s pa).ropes = s.ropes := rfl
@[simp] theorem poisonLine_net (pa : Nat) : (poisonLine s pa).net = s.net := rfl
@[simp] theorem poisonLine_hub (pa : Nat) : (poisonLine s pa).hub = s.hub := rfl
@[simp] theorem poisonLine_ks (pa : Nat) : (poisonLine s pa).ks = s.ks := rfl
@[simp] theorem poisonLine_boot (pa : Nat) : (poisonLine s pa).boot = s.boot := rfl
@[simp] theorem poisonLine_side (pa : Nat) : (poisonLine s pa).side = s.side := rfl
@[simp] theorem poisonLine_read (pa : Nat) : (poisonLine s pa).read = s.read := rfl
@[simp] theorem poisonLine_pending (pa : Nat) : (poisonLine s pa).pending = s.pending := rfl

@[simp] theorem cleanLine_regs (pa : Nat) : (cleanLine s pa).regs = s.regs := rfl
@[simp] theorem cleanLine_mem (pa : Nat) : (cleanLine s pa).mem = s.mem := rfl
@[simp] theorem cleanLine_poisoned (pa : Nat) : (cleanLine s pa).poisoned = s.poisoned.filter (· ≠ pa / 64) := rfl
@[simp] theorem cleanLine_hubTime (pa : Nat) : (cleanLine s pa).hubTime = s.hubTime := rfl
@[simp] theorem cleanLine_draws (pa : Nat) : (cleanLine s pa).draws = s.draws := rfl
@[simp] theorem cleanLine_plies (pa : Nat) : (cleanLine s pa).plies = s.plies := rfl
@[simp] theorem cleanLine_bricks (pa : Nat) : (cleanLine s pa).bricks = s.bricks := rfl
@[simp] theorem cleanLine_dies (pa : Nat) : (cleanLine s pa).dies = s.dies := rfl
@[simp] theorem cleanLine_flights (pa : Nat) : (cleanLine s pa).flights = s.flights := rfl
@[simp] theorem cleanLine_knotOps (pa : Nat) : (cleanLine s pa).knotOps = s.knotOps := rfl
@[simp] theorem cleanLine_notices (pa : Nat) : (cleanLine s pa).notices = s.notices := rfl
@[simp] theorem cleanLine_reports (pa : Nat) : (cleanLine s pa).reports = s.reports := rfl
@[simp] theorem cleanLine_opt (pa : Nat) : (cleanLine s pa).opt = s.opt := rfl
@[simp] theorem cleanLine_ropes (pa : Nat) : (cleanLine s pa).ropes = s.ropes := rfl
@[simp] theorem cleanLine_net (pa : Nat) : (cleanLine s pa).net = s.net := rfl
@[simp] theorem cleanLine_hub (pa : Nat) : (cleanLine s pa).hub = s.hub := rfl
@[simp] theorem cleanLine_ks (pa : Nat) : (cleanLine s pa).ks = s.ks := rfl
@[simp] theorem cleanLine_boot (pa : Nat) : (cleanLine s pa).boot = s.boot := rfl
@[simp] theorem cleanLine_side (pa : Nat) : (cleanLine s pa).side = s.side := rfl
@[simp] theorem cleanLine_read (pa : Nat) : (cleanLine s pa).read = s.read := rfl
@[simp] theorem cleanLine_pending (pa : Nat) : (cleanLine s pa).pending = s.pending := rfl

@[simp] theorem report_regs (r : Report) : (report s r).regs = s.regs := rfl
@[simp] theorem report_mem (r : Report) : (report s r).mem = s.mem := rfl
@[simp] theorem report_poisoned (r : Report) : (report s r).poisoned = s.poisoned := rfl
@[simp] theorem report_hubTime (r : Report) : (report s r).hubTime = s.hubTime := rfl
@[simp] theorem report_draws (r : Report) : (report s r).draws = s.draws := rfl
@[simp] theorem report_plies (r : Report) : (report s r).plies = s.plies := rfl
@[simp] theorem report_bricks (r : Report) : (report s r).bricks = s.bricks := rfl
@[simp] theorem report_dies (r : Report) : (report s r).dies = s.dies := rfl
@[simp] theorem report_flights (r : Report) : (report s r).flights = s.flights := rfl
@[simp] theorem report_knotOps (r : Report) : (report s r).knotOps = s.knotOps := rfl
@[simp] theorem report_notices (r : Report) : (report s r).notices = s.notices := rfl
@[simp] theorem report_reports (r : Report) : (report s r).reports = s.reports ++ [r] := rfl
@[simp] theorem report_opt (r : Report) : (report s r).opt = s.opt := rfl
@[simp] theorem report_ropes (r : Report) : (report s r).ropes = s.ropes := rfl
@[simp] theorem report_net (r : Report) : (report s r).net = s.net := rfl
@[simp] theorem report_hub (r : Report) : (report s r).hub = s.hub := rfl
@[simp] theorem report_ks (r : Report) : (report s r).ks = s.ks := rfl
@[simp] theorem report_boot (r : Report) : (report s r).boot = s.boot := rfl
@[simp] theorem report_side (r : Report) : (report s r).side = s.side := rfl
@[simp] theorem report_read (r : Report) : (report s r).read = s.read := rfl
@[simp] theorem report_pending (r : Report) : (report s r).pending = s.pending := rfl

@[simp] theorem pushKnot_regs (k : KnotOp) : (pushKnot s k).regs = s.regs := rfl
@[simp] theorem pushKnot_mem (k : KnotOp) : (pushKnot s k).mem = s.mem := rfl
@[simp] theorem pushKnot_poisoned (k : KnotOp) : (pushKnot s k).poisoned = s.poisoned := rfl
@[simp] theorem pushKnot_hubTime (k : KnotOp) : (pushKnot s k).hubTime = s.hubTime := rfl
@[simp] theorem pushKnot_draws (k : KnotOp) : (pushKnot s k).draws = s.draws := rfl
@[simp] theorem pushKnot_plies (k : KnotOp) : (pushKnot s k).plies = s.plies := rfl
@[simp] theorem pushKnot_bricks (k : KnotOp) : (pushKnot s k).bricks = s.bricks := rfl
@[simp] theorem pushKnot_dies (k : KnotOp) : (pushKnot s k).dies = s.dies := rfl
@[simp] theorem pushKnot_flights (k : KnotOp) : (pushKnot s k).flights = s.flights := rfl
@[simp] theorem pushKnot_knotOps (k : KnotOp) : (pushKnot s k).knotOps = s.knotOps ++ [k] := rfl
@[simp] theorem pushKnot_notices (k : KnotOp) : (pushKnot s k).notices = s.notices := rfl
@[simp] theorem pushKnot_reports (k : KnotOp) : (pushKnot s k).reports = s.reports := rfl
@[simp] theorem pushKnot_opt (k : KnotOp) : (pushKnot s k).opt = s.opt := rfl
@[simp] theorem pushKnot_ropes (k : KnotOp) : (pushKnot s k).ropes = s.ropes := rfl
@[simp] theorem pushKnot_net (k : KnotOp) : (pushKnot s k).net = s.net := rfl
@[simp] theorem pushKnot_hub (k : KnotOp) : (pushKnot s k).hub = s.hub := rfl
@[simp] theorem pushKnot_ks (k : KnotOp) : (pushKnot s k).ks = s.ks := rfl
@[simp] theorem pushKnot_boot (k : KnotOp) : (pushKnot s k).boot = s.boot := rfl
@[simp] theorem pushKnot_side (k : KnotOp) : (pushKnot s k).side = s.side := rfl
@[simp] theorem pushKnot_read (k : KnotOp) : (pushKnot s k).read = s.read := rfl
@[simp] theorem pushKnot_pending (k : KnotOp) : (pushKnot s k).pending = s.pending := rfl

@[simp] theorem brickMod_regs (n b : Nat) (f : BrickX → BrickX) : (brickMod s n b f).regs = s.regs := rfl
@[simp] theorem brickMod_mem (n b : Nat) (f : BrickX → BrickX) : (brickMod s n b f).mem = s.mem := rfl
@[simp] theorem brickMod_poisoned (n b : Nat) (f : BrickX → BrickX) : (brickMod s n b f).poisoned = s.poisoned := rfl
@[simp] theorem brickMod_hubTime (n b : Nat) (f : BrickX → BrickX) : (brickMod s n b f).hubTime = s.hubTime := rfl
@[simp] theorem brickMod_draws (n b : Nat) (f : BrickX → BrickX) : (brickMod s n b f).draws = s.draws := rfl
@[simp] theorem brickMod_plies (n b : Nat) (f : BrickX → BrickX) : (brickMod s n b f).plies = s.plies := rfl
@[simp] theorem brickMod_bricks (n b : Nat) (f : BrickX → BrickX) : (brickMod s n b f).bricks = tabMod (fun _ => BrickX.reset) s.bricks (brickKey n b) f := rfl
@[simp] theorem brickMod_dies (n b : Nat) (f : BrickX → BrickX) : (brickMod s n b f).dies = s.dies := rfl
@[simp] theorem brickMod_flights (n b : Nat) (f : BrickX → BrickX) : (brickMod s n b f).flights = s.flights := rfl
@[simp] theorem brickMod_knotOps (n b : Nat) (f : BrickX → BrickX) : (brickMod s n b f).knotOps = s.knotOps := rfl
@[simp] theorem brickMod_notices (n b : Nat) (f : BrickX → BrickX) : (brickMod s n b f).notices = s.notices := rfl
@[simp] theorem brickMod_reports (n b : Nat) (f : BrickX → BrickX) : (brickMod s n b f).reports = s.reports := rfl
@[simp] theorem brickMod_opt (n b : Nat) (f : BrickX → BrickX) : (brickMod s n b f).opt = s.opt := rfl
@[simp] theorem brickMod_ropes (n b : Nat) (f : BrickX → BrickX) : (brickMod s n b f).ropes = s.ropes := rfl
@[simp] theorem brickMod_net (n b : Nat) (f : BrickX → BrickX) : (brickMod s n b f).net = s.net := rfl
@[simp] theorem brickMod_hub (n b : Nat) (f : BrickX → BrickX) : (brickMod s n b f).hub = s.hub := rfl
@[simp] theorem brickMod_ks (n b : Nat) (f : BrickX → BrickX) : (brickMod s n b f).ks = s.ks := rfl
@[simp] theorem brickMod_boot (n b : Nat) (f : BrickX → BrickX) : (brickMod s n b f).boot = s.boot := rfl
@[simp] theorem brickMod_side (n b : Nat) (f : BrickX → BrickX) : (brickMod s n b f).side = s.side := rfl
@[simp] theorem brickMod_read (n b : Nat) (f : BrickX → BrickX) : (brickMod s n b f).read = s.read := rfl
@[simp] theorem brickMod_pending (n b : Nat) (f : BrickX → BrickX) : (brickMod s n b f).pending = s.pending := rfl

@[simp] theorem plyMod_regs (n b q : Nat) (f : PlyX → PlyX) : (plyMod s n b q f).regs = s.regs := rfl
@[simp] theorem plyMod_mem (n b q : Nat) (f : PlyX → PlyX) : (plyMod s n b q f).mem = s.mem := rfl
@[simp] theorem plyMod_poisoned (n b q : Nat) (f : PlyX → PlyX) : (plyMod s n b q f).poisoned = s.poisoned := rfl
@[simp] theorem plyMod_hubTime (n b q : Nat) (f : PlyX → PlyX) : (plyMod s n b q f).hubTime = s.hubTime := rfl
@[simp] theorem plyMod_draws (n b q : Nat) (f : PlyX → PlyX) : (plyMod s n b q f).draws = s.draws := rfl
@[simp] theorem plyMod_plies (n b q : Nat) (f : PlyX → PlyX) : (plyMod s n b q f).plies = tabMod (fun _ => PlyX.reset) s.plies (plyKey n b q) f := rfl
@[simp] theorem plyMod_bricks (n b q : Nat) (f : PlyX → PlyX) : (plyMod s n b q f).bricks = s.bricks := rfl
@[simp] theorem plyMod_dies (n b q : Nat) (f : PlyX → PlyX) : (plyMod s n b q f).dies = s.dies := rfl
@[simp] theorem plyMod_flights (n b q : Nat) (f : PlyX → PlyX) : (plyMod s n b q f).flights = s.flights := rfl
@[simp] theorem plyMod_knotOps (n b q : Nat) (f : PlyX → PlyX) : (plyMod s n b q f).knotOps = s.knotOps := rfl
@[simp] theorem plyMod_notices (n b q : Nat) (f : PlyX → PlyX) : (plyMod s n b q f).notices = s.notices := rfl
@[simp] theorem plyMod_reports (n b q : Nat) (f : PlyX → PlyX) : (plyMod s n b q f).reports = s.reports := rfl
@[simp] theorem plyMod_opt (n b q : Nat) (f : PlyX → PlyX) : (plyMod s n b q f).opt = s.opt := rfl
@[simp] theorem plyMod_ropes (n b q : Nat) (f : PlyX → PlyX) : (plyMod s n b q f).ropes = s.ropes := rfl
@[simp] theorem plyMod_net (n b q : Nat) (f : PlyX → PlyX) : (plyMod s n b q f).net = s.net := rfl
@[simp] theorem plyMod_hub (n b q : Nat) (f : PlyX → PlyX) : (plyMod s n b q f).hub = s.hub := rfl
@[simp] theorem plyMod_ks (n b q : Nat) (f : PlyX → PlyX) : (plyMod s n b q f).ks = s.ks := rfl
@[simp] theorem plyMod_boot (n b q : Nat) (f : PlyX → PlyX) : (plyMod s n b q f).boot = s.boot := rfl
@[simp] theorem plyMod_side (n b q : Nat) (f : PlyX → PlyX) : (plyMod s n b q f).side = s.side := rfl
@[simp] theorem plyMod_read (n b q : Nat) (f : PlyX → PlyX) : (plyMod s n b q f).read = s.read := rfl
@[simp] theorem plyMod_pending (n b q : Nat) (f : PlyX → PlyX) : (plyMod s n b q f).pending = s.pending := rfl

@[simp] theorem dieMod_regs (n : Nat) (f : DieX → DieX) : (dieMod s n f).regs = s.regs := rfl
@[simp] theorem dieMod_mem (n : Nat) (f : DieX → DieX) : (dieMod s n f).mem = s.mem := rfl
@[simp] theorem dieMod_poisoned (n : Nat) (f : DieX → DieX) : (dieMod s n f).poisoned = s.poisoned := rfl
@[simp] theorem dieMod_hubTime (n : Nat) (f : DieX → DieX) : (dieMod s n f).hubTime = s.hubTime := rfl
@[simp] theorem dieMod_draws (n : Nat) (f : DieX → DieX) : (dieMod s n f).draws = s.draws := rfl
@[simp] theorem dieMod_plies (n : Nat) (f : DieX → DieX) : (dieMod s n f).plies = s.plies := rfl
@[simp] theorem dieMod_bricks (n : Nat) (f : DieX → DieX) : (dieMod s n f).bricks = s.bricks := rfl
@[simp] theorem dieMod_dies (n : Nat) (f : DieX → DieX) : (dieMod s n f).dies = tabMod (fun _ => DieX.reset) s.dies n f := rfl
@[simp] theorem dieMod_flights (n : Nat) (f : DieX → DieX) : (dieMod s n f).flights = s.flights := rfl
@[simp] theorem dieMod_knotOps (n : Nat) (f : DieX → DieX) : (dieMod s n f).knotOps = s.knotOps := rfl
@[simp] theorem dieMod_notices (n : Nat) (f : DieX → DieX) : (dieMod s n f).notices = s.notices := rfl
@[simp] theorem dieMod_reports (n : Nat) (f : DieX → DieX) : (dieMod s n f).reports = s.reports := rfl
@[simp] theorem dieMod_opt (n : Nat) (f : DieX → DieX) : (dieMod s n f).opt = s.opt := rfl
@[simp] theorem dieMod_ropes (n : Nat) (f : DieX → DieX) : (dieMod s n f).ropes = s.ropes := rfl
@[simp] theorem dieMod_net (n : Nat) (f : DieX → DieX) : (dieMod s n f).net = s.net := rfl
@[simp] theorem dieMod_hub (n : Nat) (f : DieX → DieX) : (dieMod s n f).hub = s.hub := rfl
@[simp] theorem dieMod_ks (n : Nat) (f : DieX → DieX) : (dieMod s n f).ks = s.ks := rfl
@[simp] theorem dieMod_boot (n : Nat) (f : DieX → DieX) : (dieMod s n f).boot = s.boot := rfl
@[simp] theorem dieMod_side (n : Nat) (f : DieX → DieX) : (dieMod s n f).side = s.side := rfl
@[simp] theorem dieMod_read (n : Nat) (f : DieX → DieX) : (dieMod s n f).read = s.read := rfl
@[simp] theorem dieMod_pending (n : Nat) (f : DieX → DieX) : (dieMod s n f).pending = s.pending := rfl

@[simp] theorem ropeMod_regs (r : Nat) (f : RopeX → RopeX) : (ropeMod s r f).regs = s.regs := rfl
@[simp] theorem ropeMod_mem (r : Nat) (f : RopeX → RopeX) : (ropeMod s r f).mem = s.mem := rfl
@[simp] theorem ropeMod_poisoned (r : Nat) (f : RopeX → RopeX) : (ropeMod s r f).poisoned = s.poisoned := rfl
@[simp] theorem ropeMod_hubTime (r : Nat) (f : RopeX → RopeX) : (ropeMod s r f).hubTime = s.hubTime := rfl
@[simp] theorem ropeMod_draws (r : Nat) (f : RopeX → RopeX) : (ropeMod s r f).draws = s.draws := rfl
@[simp] theorem ropeMod_plies (r : Nat) (f : RopeX → RopeX) : (ropeMod s r f).plies = s.plies := rfl
@[simp] theorem ropeMod_bricks (r : Nat) (f : RopeX → RopeX) : (ropeMod s r f).bricks = s.bricks := rfl
@[simp] theorem ropeMod_dies (r : Nat) (f : RopeX → RopeX) : (ropeMod s r f).dies = s.dies := rfl
@[simp] theorem ropeMod_flights (r : Nat) (f : RopeX → RopeX) : (ropeMod s r f).flights = s.flights := rfl
@[simp] theorem ropeMod_knotOps (r : Nat) (f : RopeX → RopeX) : (ropeMod s r f).knotOps = s.knotOps := rfl
@[simp] theorem ropeMod_notices (r : Nat) (f : RopeX → RopeX) : (ropeMod s r f).notices = s.notices := rfl
@[simp] theorem ropeMod_reports (r : Nat) (f : RopeX → RopeX) : (ropeMod s r f).reports = s.reports := rfl
@[simp] theorem ropeMod_opt (r : Nat) (f : RopeX → RopeX) : (ropeMod s r f).opt = s.opt := rfl
@[simp] theorem ropeMod_ropes (r : Nat) (f : RopeX → RopeX) : (ropeMod s r f).ropes = tabMod (fun _ => RopeX.reset) s.ropes r f := rfl
@[simp] theorem ropeMod_net (r : Nat) (f : RopeX → RopeX) : (ropeMod s r f).net = s.net := rfl
@[simp] theorem ropeMod_hub (r : Nat) (f : RopeX → RopeX) : (ropeMod s r f).hub = s.hub := rfl
@[simp] theorem ropeMod_ks (r : Nat) (f : RopeX → RopeX) : (ropeMod s r f).ks = s.ks := rfl
@[simp] theorem ropeMod_boot (r : Nat) (f : RopeX → RopeX) : (ropeMod s r f).boot = s.boot := rfl
@[simp] theorem ropeMod_side (r : Nat) (f : RopeX → RopeX) : (ropeMod s r f).side = s.side := rfl
@[simp] theorem ropeMod_read (r : Nat) (f : RopeX → RopeX) : (ropeMod s r f).read = s.read := rfl
@[simp] theorem ropeMod_pending (r : Nat) (f : RopeX → RopeX) : (ropeMod s r f).pending = s.pending := rfl

@[simp] theorem hubMod_regs (f : HubX → HubX) : (hubMod s f).regs = s.regs := rfl
@[simp] theorem hubMod_mem (f : HubX → HubX) : (hubMod s f).mem = s.mem := rfl
@[simp] theorem hubMod_poisoned (f : HubX → HubX) : (hubMod s f).poisoned = s.poisoned := rfl
@[simp] theorem hubMod_hubTime (f : HubX → HubX) : (hubMod s f).hubTime = s.hubTime := rfl
@[simp] theorem hubMod_draws (f : HubX → HubX) : (hubMod s f).draws = s.draws := rfl
@[simp] theorem hubMod_plies (f : HubX → HubX) : (hubMod s f).plies = s.plies := rfl
@[simp] theorem hubMod_bricks (f : HubX → HubX) : (hubMod s f).bricks = s.bricks := rfl
@[simp] theorem hubMod_dies (f : HubX → HubX) : (hubMod s f).dies = s.dies := rfl
@[simp] theorem hubMod_flights (f : HubX → HubX) : (hubMod s f).flights = s.flights := rfl
@[simp] theorem hubMod_knotOps (f : HubX → HubX) : (hubMod s f).knotOps = s.knotOps := rfl
@[simp] theorem hubMod_notices (f : HubX → HubX) : (hubMod s f).notices = s.notices := rfl
@[simp] theorem hubMod_reports (f : HubX → HubX) : (hubMod s f).reports = s.reports := rfl
@[simp] theorem hubMod_opt (f : HubX → HubX) : (hubMod s f).opt = s.opt := rfl
@[simp] theorem hubMod_ropes (f : HubX → HubX) : (hubMod s f).ropes = s.ropes := rfl
@[simp] theorem hubMod_net (f : HubX → HubX) : (hubMod s f).net = s.net := rfl
@[simp] theorem hubMod_hub (f : HubX → HubX) : (hubMod s f).hub = f s.hub := rfl
@[simp] theorem hubMod_ks (f : HubX → HubX) : (hubMod s f).ks = s.ks := rfl
@[simp] theorem hubMod_boot (f : HubX → HubX) : (hubMod s f).boot = s.boot := rfl
@[simp] theorem hubMod_side (f : HubX → HubX) : (hubMod s f).side = s.side := rfl
@[simp] theorem hubMod_read (f : HubX → HubX) : (hubMod s f).read = s.read := rfl
@[simp] theorem hubMod_pending (f : HubX → HubX) : (hubMod s f).pending = s.pending := rfl

@[simp] theorem readMod_regs (f : ReadX → ReadX) : (readMod s f).regs = s.regs := rfl
@[simp] theorem readMod_mem (f : ReadX → ReadX) : (readMod s f).mem = s.mem := rfl
@[simp] theorem readMod_poisoned (f : ReadX → ReadX) : (readMod s f).poisoned = s.poisoned := rfl
@[simp] theorem readMod_hubTime (f : ReadX → ReadX) : (readMod s f).hubTime = s.hubTime := rfl
@[simp] theorem readMod_draws (f : ReadX → ReadX) : (readMod s f).draws = s.draws := rfl
@[simp] theorem readMod_plies (f : ReadX → ReadX) : (readMod s f).plies = s.plies := rfl
@[simp] theorem readMod_bricks (f : ReadX → ReadX) : (readMod s f).bricks = s.bricks := rfl
@[simp] theorem readMod_dies (f : ReadX → ReadX) : (readMod s f).dies = s.dies := rfl
@[simp] theorem readMod_flights (f : ReadX → ReadX) : (readMod s f).flights = s.flights := rfl
@[simp] theorem readMod_knotOps (f : ReadX → ReadX) : (readMod s f).knotOps = s.knotOps := rfl
@[simp] theorem readMod_notices (f : ReadX → ReadX) : (readMod s f).notices = s.notices := rfl
@[simp] theorem readMod_reports (f : ReadX → ReadX) : (readMod s f).reports = s.reports := rfl
@[simp] theorem readMod_opt (f : ReadX → ReadX) : (readMod s f).opt = s.opt := rfl
@[simp] theorem readMod_ropes (f : ReadX → ReadX) : (readMod s f).ropes = s.ropes := rfl
@[simp] theorem readMod_net (f : ReadX → ReadX) : (readMod s f).net = s.net := rfl
@[simp] theorem readMod_hub (f : ReadX → ReadX) : (readMod s f).hub = s.hub := rfl
@[simp] theorem readMod_ks (f : ReadX → ReadX) : (readMod s f).ks = s.ks := rfl
@[simp] theorem readMod_boot (f : ReadX → ReadX) : (readMod s f).boot = s.boot := rfl
@[simp] theorem readMod_side (f : ReadX → ReadX) : (readMod s f).side = s.side := rfl
@[simp] theorem readMod_read (f : ReadX → ReadX) : (readMod s f).read = f s.read := rfl
@[simp] theorem readMod_pending (f : ReadX → ReadX) : (readMod s f).pending = s.pending := rfl

@[simp] theorem bootMod_regs (f : BootX → BootX) : (bootMod s f).regs = s.regs := rfl
@[simp] theorem bootMod_mem (f : BootX → BootX) : (bootMod s f).mem = s.mem := rfl
@[simp] theorem bootMod_poisoned (f : BootX → BootX) : (bootMod s f).poisoned = s.poisoned := rfl
@[simp] theorem bootMod_hubTime (f : BootX → BootX) : (bootMod s f).hubTime = s.hubTime := rfl
@[simp] theorem bootMod_draws (f : BootX → BootX) : (bootMod s f).draws = s.draws := rfl
@[simp] theorem bootMod_plies (f : BootX → BootX) : (bootMod s f).plies = s.plies := rfl
@[simp] theorem bootMod_bricks (f : BootX → BootX) : (bootMod s f).bricks = s.bricks := rfl
@[simp] theorem bootMod_dies (f : BootX → BootX) : (bootMod s f).dies = s.dies := rfl
@[simp] theorem bootMod_flights (f : BootX → BootX) : (bootMod s f).flights = s.flights := rfl
@[simp] theorem bootMod_knotOps (f : BootX → BootX) : (bootMod s f).knotOps = s.knotOps := rfl
@[simp] theorem bootMod_notices (f : BootX → BootX) : (bootMod s f).notices = s.notices := rfl
@[simp] theorem bootMod_reports (f : BootX → BootX) : (bootMod s f).reports = s.reports := rfl
@[simp] theorem bootMod_opt (f : BootX → BootX) : (bootMod s f).opt = s.opt := rfl
@[simp] theorem bootMod_ropes (f : BootX → BootX) : (bootMod s f).ropes = s.ropes := rfl
@[simp] theorem bootMod_net (f : BootX → BootX) : (bootMod s f).net = s.net := rfl
@[simp] theorem bootMod_hub (f : BootX → BootX) : (bootMod s f).hub = s.hub := rfl
@[simp] theorem bootMod_ks (f : BootX → BootX) : (bootMod s f).ks = s.ks := rfl
@[simp] theorem bootMod_boot (f : BootX → BootX) : (bootMod s f).boot = f s.boot := rfl
@[simp] theorem bootMod_side (f : BootX → BootX) : (bootMod s f).side = s.side := rfl
@[simp] theorem bootMod_read (f : BootX → BootX) : (bootMod s f).read = s.read := rfl
@[simp] theorem bootMod_pending (f : BootX → BootX) : (bootMod s f).pending = s.pending := rfl

@[simp] theorem optMod_regs (f : OptX → OptX) : (optMod s f).regs = s.regs := rfl
@[simp] theorem optMod_mem (f : OptX → OptX) : (optMod s f).mem = s.mem := rfl
@[simp] theorem optMod_poisoned (f : OptX → OptX) : (optMod s f).poisoned = s.poisoned := rfl
@[simp] theorem optMod_hubTime (f : OptX → OptX) : (optMod s f).hubTime = s.hubTime := rfl
@[simp] theorem optMod_draws (f : OptX → OptX) : (optMod s f).draws = s.draws := rfl
@[simp] theorem optMod_plies (f : OptX → OptX) : (optMod s f).plies = s.plies := rfl
@[simp] theorem optMod_bricks (f : OptX → OptX) : (optMod s f).bricks = s.bricks := rfl
@[simp] theorem optMod_dies (f : OptX → OptX) : (optMod s f).dies = s.dies := rfl
@[simp] theorem optMod_flights (f : OptX → OptX) : (optMod s f).flights = s.flights := rfl
@[simp] theorem optMod_knotOps (f : OptX → OptX) : (optMod s f).knotOps = s.knotOps := rfl
@[simp] theorem optMod_notices (f : OptX → OptX) : (optMod s f).notices = s.notices := rfl
@[simp] theorem optMod_reports (f : OptX → OptX) : (optMod s f).reports = s.reports := rfl
@[simp] theorem optMod_opt (f : OptX → OptX) : (optMod s f).opt = f s.opt := rfl
@[simp] theorem optMod_ropes (f : OptX → OptX) : (optMod s f).ropes = s.ropes := rfl
@[simp] theorem optMod_net (f : OptX → OptX) : (optMod s f).net = s.net := rfl
@[simp] theorem optMod_hub (f : OptX → OptX) : (optMod s f).hub = s.hub := rfl
@[simp] theorem optMod_ks (f : OptX → OptX) : (optMod s f).ks = s.ks := rfl
@[simp] theorem optMod_boot (f : OptX → OptX) : (optMod s f).boot = s.boot := rfl
@[simp] theorem optMod_side (f : OptX → OptX) : (optMod s f).side = s.side := rfl
@[simp] theorem optMod_read (f : OptX → OptX) : (optMod s f).read = s.read := rfl
@[simp] theorem optMod_pending (f : OptX → OptX) : (optMod s f).pending = s.pending := rfl

@[simp] theorem netMod_regs (f : NetX → NetX) : (netMod s f).regs = s.regs := rfl
@[simp] theorem netMod_mem (f : NetX → NetX) : (netMod s f).mem = s.mem := rfl
@[simp] theorem netMod_poisoned (f : NetX → NetX) : (netMod s f).poisoned = s.poisoned := rfl
@[simp] theorem netMod_hubTime (f : NetX → NetX) : (netMod s f).hubTime = s.hubTime := rfl
@[simp] theorem netMod_draws (f : NetX → NetX) : (netMod s f).draws = s.draws := rfl
@[simp] theorem netMod_plies (f : NetX → NetX) : (netMod s f).plies = s.plies := rfl
@[simp] theorem netMod_bricks (f : NetX → NetX) : (netMod s f).bricks = s.bricks := rfl
@[simp] theorem netMod_dies (f : NetX → NetX) : (netMod s f).dies = s.dies := rfl
@[simp] theorem netMod_flights (f : NetX → NetX) : (netMod s f).flights = s.flights := rfl
@[simp] theorem netMod_knotOps (f : NetX → NetX) : (netMod s f).knotOps = s.knotOps := rfl
@[simp] theorem netMod_notices (f : NetX → NetX) : (netMod s f).notices = s.notices := rfl
@[simp] theorem netMod_reports (f : NetX → NetX) : (netMod s f).reports = s.reports := rfl
@[simp] theorem netMod_opt (f : NetX → NetX) : (netMod s f).opt = s.opt := rfl
@[simp] theorem netMod_ropes (f : NetX → NetX) : (netMod s f).ropes = s.ropes := rfl
@[simp] theorem netMod_net (f : NetX → NetX) : (netMod s f).net = f s.net := rfl
@[simp] theorem netMod_hub (f : NetX → NetX) : (netMod s f).hub = s.hub := rfl
@[simp] theorem netMod_ks (f : NetX → NetX) : (netMod s f).ks = s.ks := rfl
@[simp] theorem netMod_boot (f : NetX → NetX) : (netMod s f).boot = s.boot := rfl
@[simp] theorem netMod_side (f : NetX → NetX) : (netMod s f).side = s.side := rfl
@[simp] theorem netMod_read (f : NetX → NetX) : (netMod s f).read = s.read := rfl
@[simp] theorem netMod_pending (f : NetX → NetX) : (netMod s f).pending = s.pending := rfl

@[simp] theorem ksMod_regs (f : KsX → KsX) : (ksMod s f).regs = s.regs := rfl
@[simp] theorem ksMod_mem (f : KsX → KsX) : (ksMod s f).mem = s.mem := rfl
@[simp] theorem ksMod_poisoned (f : KsX → KsX) : (ksMod s f).poisoned = s.poisoned := rfl
@[simp] theorem ksMod_hubTime (f : KsX → KsX) : (ksMod s f).hubTime = s.hubTime := rfl
@[simp] theorem ksMod_draws (f : KsX → KsX) : (ksMod s f).draws = s.draws := rfl
@[simp] theorem ksMod_plies (f : KsX → KsX) : (ksMod s f).plies = s.plies := rfl
@[simp] theorem ksMod_bricks (f : KsX → KsX) : (ksMod s f).bricks = s.bricks := rfl
@[simp] theorem ksMod_dies (f : KsX → KsX) : (ksMod s f).dies = s.dies := rfl
@[simp] theorem ksMod_flights (f : KsX → KsX) : (ksMod s f).flights = s.flights := rfl
@[simp] theorem ksMod_knotOps (f : KsX → KsX) : (ksMod s f).knotOps = s.knotOps := rfl
@[simp] theorem ksMod_notices (f : KsX → KsX) : (ksMod s f).notices = s.notices := rfl
@[simp] theorem ksMod_reports (f : KsX → KsX) : (ksMod s f).reports = s.reports := rfl
@[simp] theorem ksMod_opt (f : KsX → KsX) : (ksMod s f).opt = s.opt := rfl
@[simp] theorem ksMod_ropes (f : KsX → KsX) : (ksMod s f).ropes = s.ropes := rfl
@[simp] theorem ksMod_net (f : KsX → KsX) : (ksMod s f).net = s.net := rfl
@[simp] theorem ksMod_hub (f : KsX → KsX) : (ksMod s f).hub = s.hub := rfl
@[simp] theorem ksMod_ks (f : KsX → KsX) : (ksMod s f).ks = f s.ks := rfl
@[simp] theorem ksMod_boot (f : KsX → KsX) : (ksMod s f).boot = s.boot := rfl
@[simp] theorem ksMod_side (f : KsX → KsX) : (ksMod s f).side = s.side := rfl
@[simp] theorem ksMod_read (f : KsX → KsX) : (ksMod s f).read = s.read := rfl
@[simp] theorem ksMod_pending (f : KsX → KsX) : (ksMod s f).pending = s.pending := rfl

@[simp] theorem sideMod_regs (f : SideX → SideX) : (sideMod s f).regs = s.regs := rfl
@[simp] theorem sideMod_mem (f : SideX → SideX) : (sideMod s f).mem = s.mem := rfl
@[simp] theorem sideMod_poisoned (f : SideX → SideX) : (sideMod s f).poisoned = s.poisoned := rfl
@[simp] theorem sideMod_hubTime (f : SideX → SideX) : (sideMod s f).hubTime = s.hubTime := rfl
@[simp] theorem sideMod_draws (f : SideX → SideX) : (sideMod s f).draws = s.draws := rfl
@[simp] theorem sideMod_plies (f : SideX → SideX) : (sideMod s f).plies = s.plies := rfl
@[simp] theorem sideMod_bricks (f : SideX → SideX) : (sideMod s f).bricks = s.bricks := rfl
@[simp] theorem sideMod_dies (f : SideX → SideX) : (sideMod s f).dies = s.dies := rfl
@[simp] theorem sideMod_flights (f : SideX → SideX) : (sideMod s f).flights = s.flights := rfl
@[simp] theorem sideMod_knotOps (f : SideX → SideX) : (sideMod s f).knotOps = s.knotOps := rfl
@[simp] theorem sideMod_notices (f : SideX → SideX) : (sideMod s f).notices = s.notices := rfl
@[simp] theorem sideMod_reports (f : SideX → SideX) : (sideMod s f).reports = s.reports := rfl
@[simp] theorem sideMod_opt (f : SideX → SideX) : (sideMod s f).opt = s.opt := rfl
@[simp] theorem sideMod_ropes (f : SideX → SideX) : (sideMod s f).ropes = s.ropes := rfl
@[simp] theorem sideMod_net (f : SideX → SideX) : (sideMod s f).net = s.net := rfl
@[simp] theorem sideMod_hub (f : SideX → SideX) : (sideMod s f).hub = s.hub := rfl
@[simp] theorem sideMod_ks (f : SideX → SideX) : (sideMod s f).ks = s.ks := rfl
@[simp] theorem sideMod_boot (f : SideX → SideX) : (sideMod s f).boot = s.boot := rfl
@[simp] theorem sideMod_side (f : SideX → SideX) : (sideMod s f).side = f s.side := rfl
@[simp] theorem sideMod_read (f : SideX → SideX) : (sideMod s f).read = s.read := rfl
@[simp] theorem sideMod_pending (f : SideX → SideX) : (sideMod s f).pending = s.pending := rfl

end Sys2Proof.Machine
end

