-- ==== Sys2Proof/Laws/Ops.lean ====
section
/-! SUPPORT. What the shared operations do: registers and fields, memory, the records of plies and bricks, and the issue of an
instruction. -/
namespace Sys2Proof.Machine

/-! ## Registers -/

@[simp] theorem rd_wr_same (s : State) (a : Nat) (v : Word) : rd (wr s a v) a = v := by simp [rd]

theorem rd_wr_ne (s : State) {a b : Nat} (v : Word) (h : b ≠ a) : rd (wr s a v) b = rd s b := tabGet_tabSet_ne _ _ _ h

theorem rd_setF_ne (s : State) (f : Fld) (v : Nat) {b : Nat} (h : b ≠ f.addr) : rd (setF s f v) b = rd s b := rd_wr_ne s _ h

/-- A field reads as written, in its width. -/
theorem getF_setF_same (s : State) (f : Fld) (v : Nat) (h : f.hi < 64) : getF (setF s f v) f = v % 2 ^ (f.hi + 1 - f.lo) := by
  simp [getF, setF, bitsOf_putBits_same _ _ h]

/-- A write of a field leaves the fields of other registers alone. -/
theorem getF_setF_ne (s : State) (f g : Fld) (v : Nat) (h : g.addr ≠ f.addr) : getF (setF s f v) g = getF s g := by
  unfold getF; rw [rd_setF_ne s f v h]

/-- A write of a field leaves the other fields of its register alone. -/
theorem getF_setF_disjoint (s : State) (f g : Fld) (v : Nat) (ha : g.addr = f.addr) (h : g.hi < f.lo ∨ f.hi < g.lo) (hh : f.lo ≤ f.hi) :
    getF (setF s f v) g = getF s g := by
  simp [getF, setF, ha, bitsOf_putBits_disjoint _ _ h hh]

/-- Two states with the same registers read alike. -/
theorem rd_congr {s t : State} (h : t.regs = s.regs) (a : Nat) : rd t a = rd s a := by simp [rd, h]
theorem getF_congr {s t : State} (h : t.regs = s.regs) (f : Fld) : getF t f = getF s f := by simp [getF, rd_congr h]

@[simp] theorem rd_plyMod (s : State) (n b q a : Nat) (f : PlyX → PlyX) : rd (plyMod s n b q f) a = rd s a := rfl
@[simp] theorem rd_brickMod (s : State) (n b a : Nat) (f : BrickX → BrickX) : rd (brickMod s n b f) a = rd s a := rfl
@[simp] theorem rd_dieMod (s : State) (n a : Nat) (f : DieX → DieX) : rd (dieMod s n f) a = rd s a := rfl
@[simp] theorem rd_hubMod (s : State) (a : Nat) (f : HubX → HubX) : rd (hubMod s f) a = rd s a := rfl
@[simp] theorem rd_report (s : State) (a : Nat) (r : Report) : rd (report s r) a = rd s a := rfl
@[simp] theorem rd_memPut (s : State) (a pa : Nat) (v : Byte) : rd (memPut s pa v) a = rd s a := rfl
@[simp] theorem getF_plyMod (s : State) (n b q : Nat) (f : PlyX → PlyX) (g : Fld) : getF (plyMod s n b q f) g = getF s g := rfl
@[simp] theorem getF_brickMod (s : State) (n b : Nat) (f : BrickX → BrickX) (g : Fld) : getF (brickMod s n b f) g = getF s g := rfl
@[simp] theorem getF_hubMod (s : State) (f : HubX → HubX) (g : Fld) : getF (hubMod s f) g = getF s g := rfl

/-! ## Memory -/

@[simp] theorem memGet_memPut_same (s : State) (pa : Nat) (v : Byte) : memGet (memPut s pa v) pa = v := by simp [memGet]

theorem memGet_memPut_ne (s : State) {pa a : Nat} (v : Byte) (h : a ≠ pa) : memGet (memPut s pa v) a = memGet s a :=
  tabGet_tabSet_ne _ _ _ h

@[simp] theorem memGet_wr (s : State) (a : Nat) (v : Word) (pa : Nat) : memGet (wr s a v) pa = memGet s pa := rfl
@[simp] theorem memGet_setF (s : State) (f : Fld) (v pa : Nat) : memGet (setF s f v) pa = memGet s pa := rfl
@[simp] theorem memGet_plyMod (s : State) (n b q : Nat) (f : PlyX → PlyX) (pa : Nat) : memGet (plyMod s n b q f) pa = memGet s pa := rfl

/-- A write leaves every byte outside it alone. -/
theorem memGet_writeBytes_out (l : List Byte) : ∀ (s : State) (pa a : Nat), a < pa ∨ pa + l.length ≤ a →
    memGet (writeBytes s pa l) a = memGet s a := by
  induction l with
  | nil => intro _ _ _ _; rfl
  | cons x t ih =>
    intro s pa a h
    simp only [writeBytes, List.length_cons] at *
    rw [ih _ _ _ (by omega), memGet_memPut_ne _ _ (by omega)]

/-- The bytes that a write stores. -/
theorem memGet_writeBytes_in (l : List Byte) : ∀ (s : State) (pa i : Nat) (h : i < l.length), memGet (writeBytes s pa l) (pa + i) = l[i] := by
  induction l with
  | nil => intro _ _ i h; simp at h
  | cons x t ih =>
    intro s pa i h
    simp only [writeBytes]
    cases i with
    | zero => rw [memGet_writeBytes_out t _ _ _ (by omega)]; simp
    | succ i =>
      have := ih (memPut s pa x) (pa + 1) i (by simpa using h)
      rw [show pa + (i + 1) = pa + 1 + i by omega, this]; rfl

/-- What is read where bytes were written is those bytes. -/
theorem readBytes_writeBytes (l : List Byte) : ∀ (s : State) (pa : Nat), readBytes (writeBytes s pa l) pa l.length = l := by
  have aux : ∀ (n : Nat) (s : State) (pa : Nat), readBytes s pa n = (List.range n).map (fun i => memGet s (pa + i)) := by
    intro n
    induction n with
    | zero => intro _ _; rfl
    | succ n ih =>
      intro s pa
      rw [readBytes, ih, List.range_succ_eq_map, List.map_cons, List.map_map]
      congr 1
      apply List.map_congr_left
      intro i _
      show memGet s (pa + 1 + i) = memGet s (pa + (i + 1))
      congr 1; omega
  intro s pa
  rw [aux]
  apply List.ext_getElem
  · simp
  · intro i h1 h2
    simp only [List.getElem_map, List.getElem_range]
    exact memGet_writeBytes_in l s pa i h2

@[simp] theorem writeBytes_regs (l : List Byte) : ∀ (s : State) (pa : Nat), (writeBytes s pa l).regs = s.regs := by
  induction l with
  | nil => intro _ _; rfl
  | cons x t ih => intro s pa; simp only [writeBytes]; rw [ih]; rfl

/-! ## The canonical form of memory is kept by every memory operation -/

theorem memPut_wf (s : State) (pa : Nat) (v : Byte) (h : Memory.wf s.mem = true) : Memory.wf (memPut s pa v).mem = true :=
  tabSet_wf _ _ _ _ h

theorem writeBytes_wf (l : List Byte) : ∀ (s : State) (pa : Nat), Memory.wf s.mem = true → Memory.wf (writeBytes s pa l).mem = true := by
  induction l with
  | nil => intro _ _ h; exact h
  | cons x t ih => intro s pa h; exact ih _ _ (memPut_wf s pa x h)

theorem writeLE_wf (s : State) (pa n v : Nat) (h : Memory.wf s.mem = true) : Memory.wf (writeLE s pa n v).mem = true :=
  writeBytes_wf _ _ _ h

theorem memWrite_wf (s : State) (pa : Nat) (data : List Byte) (bad : Bool) (h : Memory.wf s.mem = true) :
    Memory.wf (memWrite s pa data bad).mem = true := by
  unfold memWrite
  split
  · exact h
  · dsimp only
    split <;> exact writeBytes_wf _ _ _ h

theorem copyRange_wf (s : State) (src dst len : Nat) (h : Memory.wf s.mem = true) : Memory.wf (copyRange s src dst len).mem = true :=
  tabFold_wf _ _ _ _ _ (tabDrop_wf _ _ _ h)

theorem devWrite_wf (s : State) (who pa : Nat) (data : List Byte) (bad : Bool) (h : Memory.wf s.mem = true) :
    Memory.wf (devWrite s who pa data bad).mem = true := by
  unfold devWrite
  split
  · exact h
  · exact memWrite_wf s pa data bad h

theorem reset_mem_wf : Memory.wf State.reset.mem = true := rfl

/-! ## Plies and bricks -/

@[simp] theorem plyGet_plyMod_same (s : State) (n b q : Nat) (f : PlyX → PlyX) : plyGet (plyMod s n b q f) n b q = f (plyGet s n b q) := by
  simp [plyGet, plyMod, tabMod]

theorem plyGet_plyMod_ne (s : State) {n b q n' b' q' : Nat} (f : PlyX → PlyX) (h : plyKey n' b' q' ≠ plyKey n b q) :
    plyGet (plyMod s n b q f) n' b' q' = plyGet s n' b' q' := tabGet_tabSet_ne _ _ _ h

@[simp] theorem plyGet_wr (s : State) (a : Nat) (v : Word) (n b q : Nat) : plyGet (wr s a v) n b q = plyGet s n b q := rfl
@[simp] theorem plyGet_setF (s : State) (f : Fld) (v n b q : Nat) : plyGet (setF s f v) n b q = plyGet s n b q := rfl

@[simp] theorem brickGet_brickMod_same (s : State) (n b : Nat) (f : BrickX → BrickX) : brickGet (brickMod s n b f) n b = f (brickGet s n b) := by
  simp [brickGet, brickMod, tabMod]

theorem brickGet_brickMod_ne (s : State) {n b n' b' : Nat} (f : BrickX → BrickX) (h : brickKey n' b' ≠ brickKey n b) :
    brickGet (brickMod s n b f) n' b' = brickGet s n' b' := tabGet_tabSet_ne _ _ _ h

@[simp] theorem dieGet_dieMod_same (s : State) (n : Nat) (f : DieX → DieX) : dieGet (dieMod s n f) n = f (dieGet s n) := by
  simp [dieGet, dieMod, tabMod]

theorem dieGet_dieMod_ne (s : State) {n n' : Nat} (f : DieX → DieX) (h : n' ≠ n) : dieGet (dieMod s n f) n' = dieGet s n' :=
  tabGet_tabSet_ne _ _ _ h

/-- Table 3-1: s0 reads 0, whatever was written. -/
@[simp] theorem getS_zero (s : State) (p : PlyId) : getS s p 0 = 0 := rfl
/-- Table 3-1: a write to s0 is discarded. -/
@[simp] theorem setS_zero (s : State) (p : PlyId) (v : Word) : setS s p 0 v = s := rfl

theorem getS_setS_same (s : State) (p : PlyId) {i : Nat} (v : Word) (h : i ≠ 0) : getS (setS s p i v) p i = v := by
  simp [getS, setS, h]

@[simp] theorem getA_setA_same (s : State) (p : PlyId) (i : Nat) (v : Word) : getA (setA s p i v) p i = v := by simp [getA, setA]

/-- Table 3-1: p0 reads 1. -/
@[simp] theorem getP_zero (s : State) (p : PlyId) : getP s p 0 = true := rfl
@[simp] theorem setP_zero (s : State) (p : PlyId) (v : Bool) : setP s p 0 v = s := rfl

/-! ## Issue -/

/-- A ply that may not issue does not change. -/
theorem issue_no (maj mi : Nat) (p : PlyId) (o : IOp) (s : State) (body : State → Body) (h : mayIssue s p = false) :
    issue maj mi p o s body = s := by
  simp [issue, h]

/-- R116: an illegal word raises the illegal-instruction trap. -/
theorem issue_illegal (maj mi : Nat) (p : PlyId) (o : IOp) (s : State) (body : State → Body) (h : mayIssue s p = true)
    (hl : legal (n3Avail s p.n) maj mi o = false) :
    issue maj mi p o s body = raiseTrap s p 1 (getPc s p) (wordOf maj mi o).toNat := by
  simp [issue, h, hl]

/-- R85: an instruction whose guard is off only moves the ply on. -/
theorem issue_guardOff (maj mi : Nat) (p : PlyId) (o : IOp) (s : State) (body : State → Body) (h : mayIssue s p = true)
    (hl : legal (n3Avail s p.n) maj mi o = true) (hg : guardOn s p o = false) :
    issue maj mi p o s body = advance s p (getPc s p) (getPc s p + 8) := by
  simp [issue, h, hl, hg]

end Sys2Proof.Machine
end

