-- ==== Sys2Proof/Laws/Issue.lean ====
section
/-! SUPPORT. What the issue of an instruction does: once for each thing that its body can do. -/
namespace Sys2Proof.Machine

/-- The entry that an issued instruction takes, if it needs one. -/
def issueEntry (s : State) (p : PlyId) (o : IOp) (maj mi : Nat) : State :=
  let cls := ((findOp maj mi).map (·.cls)).getD .S
  if cls.holds o.d.val && (cls != .W || plyState s p.n p.b p.q == 2) then sbTake s p maj mi o.d.val (getPc s p) cls.await else s

theorem Issues.found {s : State} {p : PlyId} {o : IOp} {maj mi : Nat} (h : Issues s p o maj mi) : ∃ r, findOp maj mi = some r := by
  obtain ⟨-, hl, -, -⟩ := h
  unfold legal at hl
  split at hl
  · cases hl
  · next r hr => exact ⟨r, hr⟩

/-- An instruction that completes: its effect, its entry, and the ply moves on. -/
theorem issue_done {s s' : State} {p : PlyId} {o : IOp} {maj mi : Nat} {body : State → Body} (h : Issues s p o maj mi) (hb : body s = .done s')
    (hpc : getPc s' p = getPc s p) :
    issue maj mi p o s body = advance (issueEntry s' p o maj mi) p (getPc s p) (getPc s p + 8) := by
  obtain ⟨r, hr⟩ := h.found
  obtain ⟨hm, hl, hg, hz⟩ := h
  obtain ⟨hz, hs⟩ := hz r hr
  cases hh : r.cls.holds o.d.val
  · simp [issue, hm, hl, hg, hr, hz, hb, hh, issueEntry]
  · simp [issue, hm, hl, hg, hr, hz, hb, hh, issueEntry, hs hh, hpc]

/-- An instruction that jumps. -/
theorem issue_jump {s s' : State} {p : PlyId} {o : IOp} {maj mi next : Nat} {body : State → Body} (h : Issues s p o maj mi)
    (hb : body s = .jump s' next) (hpc : getPc s' p = getPc s p) :
    issue maj mi p o s body = advance (issueEntry s' p o maj mi) p (getPc s p) next := by
  obtain ⟨r, hr⟩ := h.found
  obtain ⟨hm, hl, hg, hz⟩ := h
  obtain ⟨hz, hs⟩ := hz r hr
  cases hh : r.cls.holds o.d.val
  · simp [issue, hm, hl, hg, hr, hz, hb, hh, issueEntry]
  · simp [issue, hm, hl, hg, hr, hz, hb, hh, issueEntry, hs hh, hpc]

/-- R114: an instruction that traps has no effect but the trap. -/
theorem issue_trap {s : State} {p : PlyId} {o : IOp} {maj mi c i : Nat} {after : Bool} {body : State → Body} (h : Issues s p o maj mi)
    (hb : body s = .trap c i after) :
    issue maj mi p o s body = raiseTrap s p c (if after then getPc s p + 8 else getPc s p) i := by
  obtain ⟨r, hr⟩ := h.found
  obtain ⟨hm, hl, hg, hz⟩ := h
  obtain ⟨hz, hs⟩ := hz r hr
  cases hh : r.cls.holds o.d.val
  · simp [issue, hm, hl, hg, hr, hz, hb, hh]
  · simp [issue, hm, hl, hg, hr, hz, hb, hh, hs hh]

/-- R417: an instruction held at issue. -/
theorem issue_hold {s : State} {p : PlyId} {o : IOp} {maj mi : Nat} {body : State → Body} (h : Issues s p o maj mi) (hb : body s = .hold) :
    issue maj mi p o s body = s := by
  obtain ⟨r, hr⟩ := h.found
  obtain ⟨hm, hl, hg, hz⟩ := h
  obtain ⟨hz, hs⟩ := hz r hr
  cases hh : r.cls.holds o.d.val
  · simp [issue, hm, hl, hg, hr, hz, hb, hh]
  · simp [issue, hm, hl, hg, hr, hz, hb, hh, hs hh]

/-- R417: an instruction held at issue, counted. -/
theorem issue_stall {s s' : State} {p : PlyId} {o : IOp} {maj mi : Nat} {body : State → Body} (h : Issues s p o maj mi) (hb : body s = .stall s') :
    issue maj mi p o s body = s' := by
  obtain ⟨r, hr⟩ := h.found
  obtain ⟨hm, hl, hg, hz⟩ := h
  obtain ⟨hz, hs⟩ := hz r hr
  cases hh : r.cls.holds o.d.val
  · simp [issue, hm, hl, hg, hr, hz, hb, hh]
  · simp [issue, hm, hl, hg, hr, hz, hb, hh, hs hh]

/-! ## Moving on -/

/-- The address of a ply's register block. -/
theorem plyRegs_ne (n b q : Nat) : CD_PLY_PC n b q ≠ CD_PLY_STS n b q := by
  unfold CD_PLY_PC CD_PLY_STS adr; omega

theorem getPc_setPc (s : State) (p : PlyId) (pc : Nat) (h : pc % 8 = 0) : getPc (setPc s p pc) p = pc % 2 ^ 20 := by
  unfold getPc setPc
  rw [getF_setF_same _ _ _ (by simp [CD_PLY_PC_PC])]
  simp only [CD_PLY_PC_PC]
  omega

theorem getPc_mod8 (s : State) (p : PlyId) : getPc s p % 8 = 0 := by unfold getPc; omega

@[simp] theorem getPc_plyMod (s : State) (p : PlyId) (n b q : Nat) (f : PlyX → PlyX) : getPc (plyMod s n b q f) p = getPc s p := rfl

@[simp] theorem plyGet_setPc (s : State) (p : PlyId) (pc n b q : Nat) : plyGet (setPc s p pc) n b q = plyGet s n b q := rfl

@[simp] theorem plyGet_setIssued (s : State) (n b q v : Nat) : plyGet (setIssued s n b q v) n b q = { plyGet s n b q with issued := v } := by
  unfold setIssued; rw [plyGet_setF, plyGet_plyMod_same]

/-- A ply that moves on within the store. -/
theorem advance_moved (s : State) (p : PlyId) (next : Nat) (h : next % 8 = 0) (hn : next < 0x100000)
    (ht : (plyGet s p.n p.b p.q).trap = none) : Moved s (advance s p (getPc s p) next) p next := by
  unfold Moved advance
  rw [if_pos hn, getPc_setPc _ p next h, plyGet_setPc, plyGet_plyMod_same, plyGet_setIssued]
  refine ⟨rfl, rfl, ?_⟩
  rw [if_pos (show next < 2 ^ 20 from hn)]
  exact ht

/-- A ply that moves past the end of the store raises the address trap. -/
theorem advance_moved_end (s : State) (p : PlyId) (next : Nat) (h : next % 8 = 0) (hn : ¬ next < 0x100000) (hw : next < 2 ^ 64) :
    Moved s (advance s p (getPc s p) next) p next := by
  unfold Moved advance
  rw [if_neg hn]
  unfold raiseTrap
  rw [getPc_plyMod, getPc_setPc _ p next h, plyGet_plyMod_same, plyGet_setPc, plyGet_plyMod_same, plyGet_setIssued]
  refine ⟨rfl, rfl, ?_⟩
  rw [if_neg (show ¬ next < 2 ^ 20 from hn), Nat.mod_eq_of_lt hw]

end Sys2Proof.Machine
end

