-- ==== Sys2Proof/Tests/Slice0.lean ====
section
/-! SUPPORT. Tests: words of the spec against the model, ill-formed terms that WellFormed refuses, and for each statement states that meet its hypotheses. -/

namespace Sys2Proof.Slice0
open Machine Claims
set_option Elab.async false

/-! ## Small states and operands -/

/-- Die 0's brick 0, ply 0. -/
def p0 : PlyId := ⟨0, 0, 0⟩
def p1 : PlyId := ⟨0, 0, 1⟩
def k0 : BrickId := ⟨0, 0⟩

/-- The fields of a word. -/
def op (d a b : Fin 32) (x : BitVec 33) : IOp := ⟨d, a, b, false, 0, x⟩

/-- Registers given one by one. -/
def put (l : List (Nat × Word)) (s : State) : State := l.foldl (fun s e => wr s e.1 e.2) s

/-- Fields given one by one. -/
def puts (l : List (Fld × Nat)) (s : State) : State := setFs s l

/-- A state in which ply 0 of brick 0 of die 0 runs at byte 0x40: s1 = 5, s2 = 7, s3 = -2, s4 = 2^63, s5 = 65, a1 = 0x100, a2 = 0x4000, a3 = 0x5000. -/
def run : State := put [(CD_PLY_STS 0 0 0, 1), (CD_PLY_PC 0 0 0, 0x40), (CD_PLY_S 0 0 0 1, 5), (CD_PLY_S 0 0 0 2, 7), (CD_PLY_S 0 0 0 3, -2),
  (CD_PLY_S 0 0 0 4, 0x8000000000000000), (CD_PLY_S 0 0 0 5, 65), (CD_PLY_A 0 0 0 1, 0x100), (CD_PLY_A 0 0 0 2, 0x4000),
  (CD_PLY_A 0 0 0 3, 0x5000)] State.reset

/-- The same with eight bytes at 0x100 of the store. -/
def mem0 : State := writeLE run (storePa 0 0 0x100) 8 0xF0E0D0C0B0A09080

/-- A next state of which a test holds. -/
def goes (o : Out) (P : State → Bool) : Bool :=
  match o with
  | .next t => P t
  | _ => false

theorem goes_next {o : Out} {P : State → Bool} (h : goes o P = true) : Goes o (fun t => P t = true) := by
  cases o with
  | next t => exact ⟨t, rfl, h⟩
  | fault _ => cases h
  | refused _ => cases h

/-- What `Issues` asks, as a test. -/
def ready (s : State) (p : PlyId) (o : IOp) (maj mi : Nat) : Bool :=
  mayIssue s p && legal (n3Avail s p.n) maj mi o && guardOn s p o
  && match findOp maj mi with
    | some r => !hazard s p r o && (!r.cls.holds o.d.val || sbAvail s p.n p.b p.q)
    | none => false

theorem issues_of {s : State} {p : PlyId} {o : IOp} {maj mi : Nat} (h : ready s p o maj mi = true) : Issues s p o maj mi := by
  unfold ready at h
  simp only [Bool.and_eq_true] at h
  obtain ⟨⟨⟨h1, h2⟩, h3⟩, h4⟩ := h
  refine ⟨h1, h2, h3, fun r hr => ?_⟩
  simp only [hr, Bool.and_eq_true, Bool.or_eq_true, Bool.not_eq_true'] at h4
  refine ⟨h4.1, fun hh => ?_⟩
  rcases h4.2 with h5 | h5
  · rw [hh] at h5; cases h5
  · exact h5

/-- A powered package whose dies are ACTIVE and whose firmware serves, with ply 0 as in `run`. -/
def live : State := puts [(CH_DIE_STS_STATE 0, 3), (CH_DIE_STS_STATE 1, 3), (CH_DIE_STS_STATE 2, 3), (CH_DIE_STS_STATE 3, 3), (HP_BOOT_STS_STAGE, 7)]
  (bootMod run (fun b => { b with pwrok := true, fwUp := true }))

/-- What `Takes` asks, as a test. -/
def takes (s : State) (a : Nat) (v : Word) : Bool := served s && (writeRefusal s a 8 v).isNone && (!fwOwned a || !fwAway s)

theorem takes_of {s : State} {a : Nat} {v : Word} (h : takes s a v = true) : Takes s a v := by
  unfold takes at h
  simp only [Bool.and_eq_true, Bool.or_eq_true, Bool.not_eq_true', Option.isNone_iff_eq_none] at h
  obtain ⟨⟨h1, h2⟩, h3⟩ := h
  refine ⟨h1, h2, fun hf => ?_⟩
  rcases h3 with h4 | h4
  · rw [hf] at h4; cases h4
  · exact h4

/-- Bytes given by offset, width and value, as one number. -/
def bytes (l : List (Nat × Nat × Nat)) : Nat := l.foldl (fun a e => a + e.2.2 % 2 ^ (8 * e.2.1) * 2 ^ (8 * e.1)) 0

/-- What `Readable` asks, as a test. -/
def readable (s : State) (pa : Nat) : Bool := populated pa && !paLost s pa && memReady s pa && (decide (pa < hostBase) || isBridge s)

/-- Reports by cause and mask. -/
def reps (s : State) : List (Nat × Nat) := s.reports.map (fun r => (r.cause, r.mask))

/-! ## Scalar instructions: results worked out by hand from Tables 3-7 to 3-11 -/

theorem test_add : goes (exec (.add p0 (op 6 1 2 0)) run) (fun t => getS t p0 6 == 0xc && getPc t p0 == 0x48) = true := by decide
theorem test_sub : goes (exec (.sub p0 (op 6 1 2 0)) run) (fun t => getS t p0 6 == 0xfffffffffffffffe && getPc t p0 == 0x48) = true := by decide
theorem test_and : goes (exec (.and p0 (op 6 1 2 0)) run) (fun t => getS t p0 6 == 0x5 && getPc t p0 == 0x48) = true := by decide
theorem test_or : goes (exec (.or p0 (op 1 1 2 0)) run) (fun t => getS t p0 1 == 0x7 && getPc t p0 == 0x48) = true := by decide
theorem test_xor : goes (exec (.xor p0 (op 6 1 2 0)) run) (fun t => getS t p0 6 == 0x2 && getPc t p0 == 0x48) = true := by decide
theorem test_shl_by_65 : goes (exec (.shl p0 (op 6 1 5 0)) run) (fun t => getS t p0 6 == 0xa && getPc t p0 == 0x48) = true := by decide
theorem test_shr_by_65 : goes (exec (.shr p0 (op 6 4 5 0)) run) (fun t => getS t p0 6 == 0x4000000000000000 && getPc t p0 == 0x48) = true := by decide
theorem test_sra_by_65 : goes (exec (.sra p0 (op 6 4 5 0)) run) (fun t => getS t p0 6 == 0xc000000000000000 && getPc t p0 == 0x48) = true := by decide
theorem test_mul : goes (exec (.mul p0 (op 6 1 3 0)) run) (fun t => getS t p0 6 == 0xfffffffffffffff6 && getPc t p0 == 0x48) = true := by decide
theorem test_mulhu : goes (exec (.mulhu p0 (op 6 3 3 0)) run) (fun t => getS t p0 6 == 0xfffffffffffffffc && getPc t p0 == 0x48) = true := by decide
theorem test_mulh : goes (exec (.mulh p0 (op 6 3 1 0)) run) (fun t => getS t p0 6 == 0xffffffffffffffff && getPc t p0 == 0x48) = true := by decide
theorem test_min : goes (exec (.min p0 (op 6 3 1 0)) run) (fun t => getS t p0 6 == 0xfffffffffffffffe && getPc t p0 == 0x48) = true := by decide
theorem test_max : goes (exec (.max p0 (op 6 3 1 0)) run) (fun t => getS t p0 6 == 0x5 && getPc t p0 == 0x48) = true := by decide
theorem test_minu : goes (exec (.minu p0 (op 6 3 1 0)) run) (fun t => getS t p0 6 == 0x5 && getPc t p0 == 0x48) = true := by decide
theorem test_maxu : goes (exec (.maxu p0 (op 6 3 1 0)) run) (fun t => getS t p0 6 == 0xfffffffffffffffe && getPc t p0 == 0x48) = true := by decide
theorem test_popc : goes (exec (.popc p0 (op 6 2 0 0)) run) (fun t => getS t p0 6 == 0x3 && getPc t p0 == 0x48) = true := by decide
theorem test_clz : goes (exec (.clz p0 (op 6 1 0 0)) run) (fun t => getS t p0 6 == 0x3d && getPc t p0 == 0x48) = true := by decide
theorem test_addi : goes (exec (.addi p0 (op 6 1 0 (BitVec.ofInt 33 (-7)))) run) (fun t => getS t p0 6 == 0xfffffffffffffffe && getPc t p0 == 0x48) = true := by decide
theorem test_andi : goes (exec (.andi p0 (op 6 2 0 (BitVec.ofInt 33 (-2)))) run) (fun t => getS t p0 6 == 0x6 && getPc t p0 == 0x48) = true := by decide
theorem test_ori : goes (exec (.ori p0 (op 6 1 0 8)) run) (fun t => getS t p0 6 == 0xd && getPc t p0 == 0x48) = true := by decide
theorem test_xori : goes (exec (.xori p0 (op 6 1 0 (BitVec.ofInt 33 (-1)))) run) (fun t => getS t p0 6 == 0xfffffffffffffffa && getPc t p0 == 0x48) = true := by decide
theorem test_shli : goes (exec (.shli p0 (op 6 1 0 0x3f)) run) (fun t => getS t p0 6 == 0x8000000000000000 && getPc t p0 == 0x48) = true := by decide
theorem test_shri : goes (exec (.shri p0 (op 6 4 0 0x3f)) run) (fun t => getS t p0 6 == 0x1 && getPc t p0 == 0x48) = true := by decide
theorem test_srai : goes (exec (.srai p0 (op 6 4 0 0x3f)) run) (fun t => getS t p0 6 == 0xffffffffffffffff && getPc t p0 == 0x48) = true := by decide
theorem test_muli : goes (exec (.muli p0 (op 6 2 0 (BitVec.ofInt 33 (-3)))) run) (fun t => getS t p0 6 == 0xffffffffffffffeb && getPc t p0 == 0x48) = true := by decide
theorem test_li : goes (exec (.li p0 (op 6 0 0 (BitVec.ofInt 33 (-5)))) run) (fun t => getS t p0 6 == 0xfffffffffffffffb && getPc t p0 == 0x48) = true := by decide
theorem test_lih : goes (exec (.lih p0 (op 2 0 0 0x7fffffff)) run) (fun t => getS t p0 2 == 0xfffffffe00000007 && getPc t p0 == 0x48) = true := by decide
theorem test_s0_discards : goes (exec (.add p0 (op 0 1 2 0)) run) (fun t => getS t p0 0 == 0x0 && getPc t p0 == 0x48) = true := by decide
theorem test_cmp_eq : goes (exec (.cmpEq p0 (op 3 1 1 0)) run) (fun t => getP t p0 3 == true && getP t p0 0) = true := by decide
theorem test_cmp_ne : goes (exec (.cmpNe p0 (op 3 1 1 0)) run) (fun t => getP t p0 3 == false && getP t p0 0) = true := by decide
theorem test_cmp_lt : goes (exec (.cmpLt p0 (op 3 3 1 0)) run) (fun t => getP t p0 3 == true && getP t p0 0) = true := by decide
theorem test_cmp_ltu : goes (exec (.cmpLtu p0 (op 3 3 1 0)) run) (fun t => getP t p0 3 == false && getP t p0 0) = true := by decide
theorem test_cmp_ge : goes (exec (.cmpGe p0 (op 3 3 1 0)) run) (fun t => getP t p0 3 == false && getP t p0 0) = true := by decide
theorem test_cmp_geu : goes (exec (.cmpGeu p0 (op 3 3 1 0)) run) (fun t => getP t p0 3 == true && getP t p0 0) = true := by decide
theorem test_cmpi_eq : goes (exec (.cmpiEq p0 (op 3 3 0 (BitVec.ofInt 33 (-2)))) run) (fun t => getP t p0 3 == true && getP t p0 0) = true := by decide
theorem test_cmpi_ne : goes (exec (.cmpiNe p0 (op 3 3 0 (BitVec.ofInt 33 (-2)))) run) (fun t => getP t p0 3 == false && getP t p0 0) = true := by decide
theorem test_cmpi_lt : goes (exec (.cmpiLt p0 (op 3 3 0 (BitVec.ofInt 33 (-1)))) run) (fun t => getP t p0 3 == true && getP t p0 0) = true := by decide
theorem test_cmpi_ltu : goes (exec (.cmpiLtu p0 (op 3 1 0 (BitVec.ofInt 33 (-1)))) run) (fun t => getP t p0 3 == true && getP t p0 0) = true := by decide
theorem test_cmpi_ge : goes (exec (.cmpiGe p0 (op 3 1 0 (BitVec.ofInt 33 (-1)))) run) (fun t => getP t p0 3 == true && getP t p0 0) = true := by decide
theorem test_cmpi_geu : goes (exec (.cmpiGeu p0 (op 3 1 0 (BitVec.ofInt 33 (-1)))) run) (fun t => getP t p0 3 == false && getP t p0 0) = true := by decide
/-- p1 = 1, p2 = 0. -/
def preds : State := put [(CD_PLY_PRED 0 0 0, 3)] run
theorem test_pand : goes (exec (.pand p0 (op 3 1 2 0)) preds) (fun t => getP t p0 3 == false) = true := by decide
theorem test_por : goes (exec (.por p0 (op 3 1 2 0)) preds) (fun t => getP t p0 3 == true) = true := by decide
theorem test_pxor : goes (exec (.pxor p0 (op 3 1 0 0)) preds) (fun t => getP t p0 3 == false) = true := by decide
theorem test_pandn : goes (exec (.pandn p0 (op 3 1 2 0)) preds) (fun t => getP t p0 3 == true) = true := by decide
theorem test_pset : goes (exec (.pset p0 (op 3 0 0 1)) preds) (fun t => getP t p0 3 == true) = true := by decide
theorem test_pget : goes (exec (.pget p0 (op 6 0 0 0)) preds) (fun t => getS t p0 6 == 0x3 && getPc t p0 == 0x48) = true := by decide
theorem test_pput : goes (exec (.pput p0 (op 0 2 0 0)) run) (fun t => (List.range 8).map (getP t p0) == [true, true, true, false, false, false, false, false]) = true := by decide
theorem test_p0_discards : goes (exec (.pset p0 (op 0 0 0 0)) run) (fun t => getP t p0 0) = true := by decide
theorem test_amov : goes (exec (.amov p0 (op 5 2 0 0)) run) (fun t => getA t p0 5 == 7) = true := by decide
theorem test_smov : goes (exec (.smov p0 (op 6 2 0 0)) run) (fun t => getS t p0 6 == 0x4000 && getPc t p0 == 0x48) = true := by decide
theorem test_aadd : goes (exec (.aadd p0 (op 5 1 3 0)) run) (fun t => getA t p0 5 == 0xFE) = true := by decide
theorem test_aaddi : goes (exec (.aaddi p0 (op 1 1 0 (BitVec.ofInt 33 (-16)))) run) (fun t => getA t p0 1 == 0xF0) = true := by decide

/-! ## Branches: Table 3-10, R94 -/

theorem test_br : goes (exec (.br p0 (op 0 0 0 (BitVec.ofInt 33 (-8)))) run) (fun t => getPc t p0 == 0x0 && true) = true := by decide
theorem test_br_outside : goes (exec (.br p0 (op 0 0 0 (BitVec.ofInt 33 (-9)))) run) (fun t => getPc t p0 == 0x40 && (plyGet t 0 0 0).trap == some ⟨4, 0x40, 0xFFFFFFFFFFFFFFF8⟩) = true := by decide
theorem test_call : goes (exec (.call p0 (op 6 0 0 2)) run) (fun t => getPc t p0 == 0x50 && getS t p0 6 == 0x48) = true := by decide
/-- s1 = 0x1000, s2 = 0x100000, s6 = 1, s7 = 2. -/
def jumps : State := put [(CD_PLY_S 0 0 0 1, 0x1000), (CD_PLY_S 0 0 0 2, 0x100000), (CD_PLY_S 0 0 0 6, 1), (CD_PLY_S 0 0 0 7, 2)] run
theorem test_jr : goes (exec (.jr p0 (op 0 1 0 0)) jumps) (fun t => getPc t p0 == 0x1000 && true) = true := by decide
theorem test_jr_outside : goes (exec (.jr p0 (op 0 2 0 0)) jumps) (fun t => getPc t p0 == 0x40 && (plyGet t 0 0 0).trap == some ⟨4, 0x40, 0x100000⟩) = true := by decide
theorem test_jalr : goes (exec (.jalr p0 (op 1 1 0 0)) jumps) (fun t => getPc t p0 == 0x1000 && getS t p0 1 == 0x48) = true := by decide
theorem test_loop : goes (exec (.loop p0 (op 7 0 0 (BitVec.ofInt 33 (-1)))) jumps) (fun t => getPc t p0 == 0x38 && getS t p0 7 == 1) = true := by decide
theorem test_loop_ends : goes (exec (.loop p0 (op 6 0 0 (BitVec.ofInt 33 (-1)))) jumps) (fun t => getPc t p0 == 0x48 && getS t p0 6 == 0) = true := by decide
theorem test_bz : goes (exec (.bz p0 (op 0 0 0 4)) run) (fun t => getPc t p0 == 0x60 && true) = true := by decide
theorem test_bz_not_taken : goes (exec (.bz p0 (op 0 1 0 4)) run) (fun t => getPc t p0 == 0x48 && true) = true := by decide
theorem test_bnz : goes (exec (.bnz p0 (op 0 1 0 4)) run) (fun t => getPc t p0 == 0x60 && true) = true := by decide
theorem test_bnz_not_taken : goes (exec (.bnz p0 (op 0 0 0 (BitVec.ofInt 33 (-100)))) run) (fun t => getPc t p0 == 0x48 && true) = true := by decide
theorem test_nop : goes (exec (.nop p0 (op 0 0 0 0)) run) (fun t => getPc t p0 == 0x48 && (plyGet t 0 0 0).issued == 1) = true := by decide
theorem test_guard_off : goes (exec (.add p0 { op 6 1 2 0 with gp := 3 }) run) (fun t => getPc t p0 == 0x48 && getS t p0 6 == 0) = true := by decide
theorem test_guard_negated : goes (exec (.add p0 { op 6 1 2 0 with gp := 3, gn := true }) run) (fun t => getS t p0 6 == 12) = true := by decide
theorem test_br_guard_off : goes (exec (.br p0 { op 0 0 0 (BitVec.ofInt 33 (-9)) with gp := 3 }) run) (fun t => getPc t p0 == 0x48 && (plyGet t 0 0 0).trap.isNone) = true := by decide

/-! ## Loads, stores and atomics: Table 3-11, R95, R96 -/

theorem test_ld_b : goes (exec (.ldB p0 (op 6 1 0 0)) mem0) (fun t => getS t p0 6 == 0xffffffffffffff80 && getPc t p0 == 0x48) = true := by decide
theorem test_ld_bu : goes (exec (.ldBu p0 (op 6 1 0 1)) mem0) (fun t => getS t p0 6 == 0x90 && getPc t p0 == 0x48) = true := by decide
theorem test_ld_h : goes (exec (.ldH p0 (op 6 1 0 2)) mem0) (fun t => getS t p0 6 == 0xffffffffffffb0a0 && getPc t p0 == 0x48) = true := by decide
theorem test_ld_hu : goes (exec (.ldHu p0 (op 6 1 0 2)) mem0) (fun t => getS t p0 6 == 0xb0a0 && getPc t p0 == 0x48) = true := by decide
theorem test_ld_w : goes (exec (.ldW p0 (op 6 1 0 4)) mem0) (fun t => getS t p0 6 == 0xfffffffff0e0d0c0 && getPc t p0 == 0x48) = true := by decide
theorem test_ld_wu : goes (exec (.ldWu p0 (op 6 1 0 4)) mem0) (fun t => getS t p0 6 == 0xf0e0d0c0 && getPc t p0 == 0x48) = true := by decide
theorem test_ld_d : goes (exec (.ldD p0 (op 6 1 0 0)) mem0) (fun t => getS t p0 6 == 0xf0e0d0c0b0a09080 && getPc t p0 == 0x48) = true := by decide
theorem test_ld_a : goes (exec (.ldA p0 (op 5 1 0 0)) mem0) (fun t => getA t p0 5 == 0xF0E0D0C0B0A09080) = true := by decide
theorem test_st_b : goes (exec (.stB p0 (op 0 1 3 0)) mem0) (fun t => readLE t (storePa 0 0 0x100) 8 == 0xf0e0d0c0b0a090fe) = true := by decide
theorem test_st_h : goes (exec (.stH p0 (op 0 1 3 0)) mem0) (fun t => readLE t (storePa 0 0 0x100) 8 == 0xf0e0d0c0b0a0fffe) = true := by decide
theorem test_st_w : goes (exec (.stW p0 (op 0 1 3 0)) mem0) (fun t => readLE t (storePa 0 0 0x100) 8 == 0xf0e0d0c0fffffffe) = true := by decide
theorem test_st_d : goes (exec (.stD p0 (op 0 1 2 0)) mem0) (fun t => readLE t (storePa 0 0 0x100) 8 == 0x7) = true := by decide
theorem test_st_a : goes (exec (.stA p0 (op 0 1 2 0)) mem0) (fun t => readLE t (storePa 0 0 0x100) 8 == 0x4000) = true := by decide
theorem test_amoadd_d : goes (exec (.amoaddD p0 (op 6 1 1 0)) mem0) (fun t => getS t p0 6 == 0xF0E0D0C0B0A09080 && readLE t (storePa 0 0 0x100) 8 == 0xF0E0D0C0B0A09085) = true := by decide
theorem test_amoswap_d : goes (exec (.amoswapD p0 (op 6 1 1 0)) mem0) (fun t => getS t p0 6 == 0xF0E0D0C0B0A09080 && readLE t (storePa 0 0 0x100) 8 == 5) = true := by decide
theorem test_amocas_d_other : goes (exec (.amocasD p0 (op 2 1 1 0)) mem0) (fun t => getS t p0 2 == 0xF0E0D0C0B0A09080 && readLE t (storePa 0 0 0x100) 8 == 0xF0E0D0C0B0A09080) = true := by decide
theorem test_amocas_d_equal : goes (exec (.amocasD p0 (op 2 1 1 8)) (writeLE mem0 (storePa 0 0 0x108) 8 7)) (fun t => getS t p0 2 == 7 && readLE t (storePa 0 0 0x108) 8 == 5) = true := by decide
theorem test_ld_misaligned : goes (exec (.ldD p0 (op 6 1 0 4)) run) (fun t => (plyGet t 0 0 0).trap == some ⟨3, 0x40, 0x104⟩ && getPc t p0 == 0x40 && getS t p0 6 == 0) = true := by decide
theorem test_ld_outside : goes (exec (.ldD p0 (op 6 1 0 0xFFF00)) run) (fun t => (plyGet t 0 0 0).trap == some ⟨2, 0x40, 0x100000⟩) = true := by decide
theorem test_st_last_byte : goes (exec (.stB p0 (op 0 1 1 0xFFEFF)) run) (fun t => readLE t (storePa 0 0 0xFFFFF) 1 == 5 && (plyGet t 0 0 0).trap.isNone) = true := by decide
theorem test_st_last_misaligned : goes (exec (.stD p0 (op 0 1 1 0xFFEFC)) run) (fun t => (plyGet t 0 0 0).trap == some ⟨2, 0x40, 0x100000⟩) = true := by decide

/-! ## The hypotheses of the statements about scalar instructions are met -/

theorem wit_ScalarArithmetic : Issues run p0 (op 6 1 2 0) 0 0 := issues_of (by decide)
theorem wit_ScalarArithmetic_all :
    ((List.range 15).all (fun mi => ready run p0 (op 31 1 2 0) 0 mi) && ready run p0 (op 0 3 0 0) 0 15 && ready run p0 (op 6 3 0 0) 0 16) = true := by decide
theorem wit_ScalarImmediates :
    ((List.range 10).all (fun mi => ready run p0 (op 6 (if mi < 8 then 1 else 0) 0 63) 1 mi)) = true := by decide
theorem wit_Compares : ((List.range 6).all (fun mi => ready run p0 (op 7 1 2 0) 2 mi)
    && (List.range 6).all (fun mi => ready run p0 (op 0 1 0 (BitVec.allOnes 33)) 2 (8 + mi))) = true := by decide
theorem wit_PredicatesAndAddresses : ((List.range 4).all (fun mi => ready preds p0 (op 3 1 2 0) 3 mi) && ready preds p0 (op 0 0 0 1) 3 4
    && ready preds p0 (op 6 0 0 0) 3 5 && ready preds p0 (op 0 1 0 0) 3 6 && ready run p0 (op 15 1 0 0) 4 0 && ready run p0 (op 6 15 0 0) 4 1
    && ready run p0 (op 1 1 3 0) 4 2 && ready run p0 (op 1 1 0 5) 4 3) = true := by decide
/-- The last word of the store is a target; the byte after it is none. -/
theorem wit_Branches : ([(8, 0, op 0 0 0 0x1FFF7), (8, 1, op 6 0 0 0x1FFF7), (9, 0, op 0 1 0 0), (9, 1, op 6 2 0 0), (10, 0, op 7 0 0 0x1FFF8),
    (10, 1, op 0 0 0 0x1FFF7), (10, 2, op 0 1 0 0x1FFF8), (11, 0, op 0 0 0 0)].all (fun e => ready jumps p0 e.2.2 e.1 e.2.1)
    && 0x40 + 8 * 0x1FFF7 == 2 ^ 20 - 8 && mayIssue run p0 && legal false 8 0 { op 0 0 0 7 with gp := 3 }
    && !guardOn run p0 { op 0 0 0 7 with gp := 3 }) = true := by decide
theorem wit_LoadsAndStores : ((List.range 8).all (fun mi => ready mem0 p0 (op 6 1 0 0) 12 mi) && (List.range 5).all (fun mi => ready mem0 p0 (op 0 1 2 0) 13 mi)
    && (List.range 3).all (fun mi => ready mem0 p0 (op 6 1 2 0xFFEF8) 15 mi) && 0x100 + 0xFFEF8 + 8 == 2 ^ 20) = true := by decide
theorem wit_AddressTraps : ((List.range 8).all (fun mi => ready mem0 p0 (op 6 1 0 0xFFF00) 12 mi) && (List.range 5).all (fun mi => ready mem0 p0 (op 0 1 2 0xFFF00) 13 mi)
    && (List.range 3).all (fun mi => ready mem0 p0 (op 6 1 2 1) 15 mi)) = true := by decide

/-! ## Tensor accesses, weight planes, accumulators and vector instructions: Tables 3-12 to 3-17 -/

/-- A vector register of I32 or F32 elements, the rest zero. -/
def lanes (l : List Nat) : VReg := ⟨packElems 32 l, scaleOnes, 0, 0, 0⟩

/-- v1 and v2 hold 1.5 and 2.25, v3 holds 1.0 in F32; v4 holds 7, -3 and v5 holds 2, 5 in I32. -/
def vecs : State := [(1, [0x3FC00000]), (2, [0x40100000]), (3, [0x3F800000]), (4, [7, 0xFFFFFFFD]), (5, [2, 5])].foldl (fun s (e : Nat × List Nat) => setV s 0 0 e.1 (lanes e.2)) mem0
def lane (t : State) (i j : Nat) : Nat := (el32 (getV t 0 0 i) j).toNat

theorem test_vld_raw : goes (exec (.vld p0 (op 1 1 0 0x84000000)) mem0) (fun t => (getV t 0 0 1).data == 0xF0E0D0C0B0A09080 && (getV t 0 0 1).scale == scaleOnes && getA t p0 1 == 0x140) = true := by decide +kernel
theorem test_vld_n4 : goes (exec (.vld p0 (op 1 1 0 0x80000000)) (writeLE mem0 (storePa 0 0 0x4000) 1 0x7E)) (fun t => (getV t 0 0 1).blockData .n4 0 == 0xF0E0D0C0B0A09080 && (getV t 0 0 1).scaleOf 0 == 0x7E && getA t p0 1 == 0x108 && getA t p0 2 == 0x4001) = true := by decide +kernel
theorem test_vst_raw : goes (exec (.vst p0 (op 0 2 1 0x41fffff)) vecs) (fun t => readLE t (storePa 0 0 0x3FC0) 4 == 0x3FC00000 && readLE t (storePa 0 0 0x4000) 64 == 0) = true := by decide +kernel
theorem test_vst_f32 : goes (exec (.vst p0 (op 0 2 4 0x3000000)) vecs) (fun t => readLE t (storePa 0 0 0x4000) 64 == 0xFFFFFFFD00000007) = true := by decide +kernel
theorem test_vsbld : goes (exec (.vsbld p0 (op 1 1 0 0x4000000)) vecs) (fun t => getV t 0 0 1 == ⟨0x3FC00000, 0xF0E0D0C0B0A09080, 0, 0, 0⟩) = true := by decide +kernel
theorem test_vsbst : goes (exec (.vsbst p0 (op 0 2 1 0x4000000)) vecs) (fun t => readLE t (storePa 0 0 0x4000) 24 == scaleOnes) = true := by decide +kernel
/-- A descriptor of a plane at 0x4000: elements at 0x8000, scales at 0x9000, shadow base 0x10000. -/
def desc : State := put [(CD_PLY_A 0 0 0 5, 0x6000)] (writeLE (writeLE run (storePa 0 0 0x4000) 32 (0x8000 + 0x9000 * 2 ^ 64 + 0x10000 * 2 ^ 192)) (storePa 0 0 0x8000) 8 0x1122334455667788)

theorem test_wld_n4 : goes (exec (.wld p0 (op 1 2 0 0x0)) desc) (fun t => planeMode t 0 0 1 == 0) = true := by decide +kernel
theorem test_wld_f16 : goes (exec (.wld p0 (op 3 2 0 0xa0000000)) desc) (fun t => planeMode t 0 0 3 == 5) = true := by decide +kernel
theorem test_t2_borrows : (planeMode (loadMode run 0 0 3 2) 0 0 3 == 2 && planeMode (loadMode run 0 0 3 2) 0 0 0 == 0xE) = true := by decide
theorem test_wsel : goes (exec (.wsel p0 (op 2 0 0 0)) run) (fun t => getF t (CD_BK_ARRST_WACT 0 0) == 2) = true := by decide +kernel
/-- Plane 0 in N8, every element 0; bank 1 holds 3 in entry 0. -/
def n8s : State := putBank (puts [(CD_BK_WPL_MODE 0 0 0, 4), (CD_PLY_STS_CHK_PEND 0 0 0, 1)] run) 0 0 1 ((3, false) :: List.replicate 63 (0, false))
/-- Planes 0 and 1 hold a T2 plane, plane 2 an N4 plane and is active; the shadow data of plane 2 ends at the end of the store; the shadow queue has room for one step. -/
def n4s : State := puts [(CD_BK_WPL_MODE 0 0 2, 0), (CD_BK_ARRST_WACT 0 0, 2), (CD_BK_WPL_SHADOW 0 0 2, 0xF7800 / 64), (CD_PLY_STS_ESC_PEND 0 0 0, 1)] run

theorem test_step_n8 : goes (exec (.step p0 (op 1 1 0 0x80000000)) n8s) (fun t => (bankEntries t 0 0 1).getD 0 (9, true) == (3, false) && getF t (CD_PLY_STS_CHK_PEND 0 0 0) == 0 && getF t (CD_BK_SGCNT3_BLOCKS 0 0) == 0) = true := by decide +kernel
theorem test_step_plane_of_another_mode : goes (exec (.step p0 (op 1 1 0 0xa0000000)) n8s) (fun t => (plyGet t 0 0 0).trap == some ⟨6, 0x40, 0x40⟩) = true := by decide +kernel
theorem test_aclr : goes (exec (.aclr p0 (op 1 0 0 0x100)) n8s) (fun t => (bankEntries t 0 0 1).getD 0 (9, true) == (0, false) && bankF32 t 0 0 1) = true := by decide +kernel
theorem test_adrain_clears : goes (exec (.adrain p0 (op 3 1 0 0xe1000000)) n8s) (fun t => lane t 3 0 == 3 && lane t 3 1 == 0 && (bankEntries t 0 0 1).getD 0 (9, true) == (0, false)) = true := by decide +kernel
theorem test_aadd_saturates : goes (exec (.aaddFmt p0 (op 1 4 0 0xe0000000)) (putBank vecs 0 0 1 ((0x7FFFFFFE, false) :: List.replicate 63 (0, false)))) (fun t => (bankEntries t 0 0 1).getD 0 (9, true) == (0x7FFFFFFF, false) && (bankEntries t 0 0 1).getD 1 (9, true) == (0xFFFFFFFD, false)) = true := by decide +kernel

theorem test_vadd : goes (exec (.vadd p0 (op 6 1 2 0xc0000000)) vecs) (fun t => lane t 6 0 == 0x40700000) = true := by decide +kernel
theorem test_vsub : goes (exec (.vsub p0 (op 6 1 2 0xc0000000)) vecs) (fun t => lane t 6 0 == 0xBF400000) = true := by decide +kernel
theorem test_vmul : goes (exec (.vmul p0 (op 6 1 2 0xc0000000)) vecs) (fun t => lane t 6 0 == 0x40580000) = true := by decide +kernel
theorem test_vmax : goes (exec (.vmax p0 (op 6 1 2 0xc0000000)) vecs) (fun t => lane t 6 0 == 0x40100000) = true := by decide +kernel
theorem test_vmin : goes (exec (.vmin p0 (op 6 1 2 0xc0000000)) vecs) (fun t => lane t 6 0 == 0x3FC00000) = true := by decide +kernel
theorem test_vfma : goes (exec (.vfma p0 (op 3 1 2 0xc0000000)) vecs) (fun t => lane t 3 0 == 0x408C0000) = true := by decide +kernel
theorem test_vabs : goes (exec (.vabs p0 (op 6 4 0 0xe0000000)) vecs) (fun t => lane t 6 0 == 7 && lane t 6 1 == 3) = true := by decide +kernel
theorem test_vneg : goes (exec (.vneg p0 (op 6 1 0 0xc0000000)) vecs) (fun t => lane t 6 0 == 0xBFC00000) = true := by decide +kernel
theorem test_vrelu : goes (exec (.vrelu p0 (op 6 4 0 0xe0000000)) vecs) (fun t => lane t 6 0 == 7 && lane t 6 1 == 0) = true := by decide +kernel
theorem test_vadd_wraps : goes (exec (.vadd p0 (op 6 4 5 0xe0000000)) vecs) (fun t => lane t 6 0 == 9 && lane t 6 1 == 2) = true := by decide +kernel
theorem test_vrcp_of_zero : goes (exec (.vrcp p0 (op 6 9 0 0xc0000000)) vecs) (fun t => lane t 6 1 == 0x7F800000 && t.draws == 16) = true := by decide +kernel
theorem test_vrsqrt_of_zero : goes (exec (.vrsqrt p0 (op 6 9 0 0xc0000000)) vecs) (fun t => lane t 6 1 == 0x7F800000) = true := by decide +kernel
theorem test_vlog2_of_zero : goes (exec (.vlog2 p0 (op 6 9 0 0xc0000000)) vecs) (fun t => lane t 6 1 == 0xFF800000) = true := by decide +kernel
theorem test_vexp2_of_minus_infinity : goes (exec (.vexp2 p0 (op 6 7 0 0xc0000000)) (setV run 0 0 7 (lanes (List.replicate 16 0x7F800000)))) (fun t => lane t 6 0 == 0x7F800000 && (plyGet t 0 0 0).issued == 1) = true := by decide +kernel
theorem test_vcmp_eq : goes (exec (.vcmpEq p0 (op 6 4 5 0xe0000000)) vecs) (fun t => lane t 6 0 == 0 && lane t 6 2 == 0xFFFFFFFF) = true := by decide +kernel
theorem test_vcmp_lt : goes (exec (.vcmpLt p0 (op 6 4 5 0xe0000000)) vecs) (fun t => lane t 6 0 == 0 && lane t 6 1 == 0xFFFFFFFF) = true := by decide +kernel
theorem test_vcmp_le : goes (exec (.vcmpLe p0 (op 6 1 2 0xc0000000)) vecs) (fun t => lane t 6 0 == 0xFFFFFFFF && lane t 6 1 == 0xFFFFFFFF) = true := by decide +kernel
theorem test_vsel : goes (exec (.vsel p0 (op 4 5 1 0xe0000000)) vecs) (fun t => lane t 4 0 == 2 && lane t 4 1 == 0xFFFFFFFD) = true := by decide +kernel
theorem test_vmov : goes (exec (.vmov p0 (op 6 4 0 0x100000000)) vecs) (fun t => getV t 0 0 6 == getV vecs 0 0 4) = true := by decide +kernel
theorem test_vbcast : goes (exec (.vbcast p0 (op 6 3 0 0xe0000000)) vecs) (fun t => lane t 6 0 == 0xFFFFFFFE && lane t 6 15 == 0xFFFFFFFE) = true := by decide +kernel
theorem test_vins : goes (exec (.vins p0 (op 4 1 0 0xe1e00000)) vecs) (fun t => lane t 4 0 == 7 && lane t 4 15 == 5) = true := by decide +kernel
theorem test_vext : goes (exec (.vext p0 (op 6 4 0 0xe0200000)) vecs) (fun t => getS t p0 6 == (-3 : Word)) = true := by decide +kernel
theorem test_vperm : goes (exec (.vperm p0 (op 6 4 5 0xe0000000)) vecs) (fun t => lane t 6 0 == 0 && lane t 6 2 == 7) = true := by decide +kernel
theorem test_vred_add : goes (exec (.vredAdd p0 (op 6 4 0 0xe0000000)) vecs) (fun t => getS t p0 6 == 4) = true := by decide +kernel
theorem test_vred_max : goes (exec (.vredMax p0 (op 6 4 0 0xe0000000)) vecs) (fun t => getS t p0 6 == 7) = true := by decide +kernel
theorem test_vand : goes (exec (.vand p0 (op 6 4 5 0x100000000)) vecs) (fun t => lane t 6 0 == 2 && lane t 6 1 == 5) = true := by decide +kernel
theorem test_vor : goes (exec (.vor p0 (op 6 4 5 0x100000000)) vecs) (fun t => lane t 6 0 == 7) = true := by decide +kernel
theorem test_vxor : goes (exec (.vxor p0 (op 6 4 5 0x100000000)) vecs) (fun t => lane t 6 0 == 5) = true := by decide +kernel
theorem test_vnot : goes (exec (.vnot p0 (op 6 4 0 0x100000000)) vecs) (fun t => lane t 6 0 == 0xFFFFFFF8 && lane t 6 9 == 0xFFFFFFFF) = true := by decide +kernel
theorem test_cvt_f32_to_f16 : goes (exec (.cvt p0 (op 6 2 0 0xac000000)) vecs) (fun t => (getV t 0 0 6).data == 0x4080) = true := by decide +kernel
theorem test_scl : goes (exec (.scl p0 (op 1 0 0 0x1fe)) vecs) (fun t => (getV t 0 0 1).scaleOf 0 == 0x7D && (getV t 0 0 1).scaleOf 1 == 0x7F) = true := by decide +kernel

/-! ## Safeguards, system registers, control: Tables 3-18 and 3-19 -/

theorem test_sgctx : goes (exec (.sgctx p0 (op 0 0 0 5)) run) (fun t => getF t (CD_BK_ARRST_CTX 0 0) == 5) = true := by decide +kernel
theorem test_chk : goes (exec (.chk p0 (op 0 0 0 0)) run) (fun t => getF t (CD_PLY_STS_CHK_PEND 0 0 0) == 1) = true := by decide +kernel
theorem test_esc : goes (exec (.esc p0 (op 0 0 0 0)) run) (fun t => getF t (CD_PLY_STS_ESC_PEND 0 0 0) == 1) = true := by decide +kernel
theorem test_sgrd : goes (exec (.sgrd p0 (op 6 0 0 3)) (put [(CD_BK_SGCNT3 0 0, 0x123)] run)) (fun t => getS t p0 6 == 0x123) = true := by decide +kernel
theorem test_seed_zero : goes (exec (.seed p0 (op 0 0 0 0)) run) (fun t => getF t (CD_BK_SEED_STATE 0 0) == 1) = true := by decide +kernel
theorem test_seed : goes (exec (.seed p0 (op 0 3 0 0)) run) (fun t => getF t (CD_BK_SEED_STATE 0 0) == 0xFFFFFFFE) = true := by decide +kernel
theorem test_rdsr_die : goes (exec (.rdsr p1 (op 6 0 0 0)) (put [(CD_PLY_STS 0 0 1, 1)] run)) (fun t => getS t p1 6 == 1) = true := by decide +kernel
theorem test_wrsr : goes (exec (.wrsr p0 (op 0 3 0 5)) run) (fun t => rd t (CD_PLY_TVEC 0 0 0) == 0xFFFF8) = true := by decide +kernel
theorem test_fence : goes (exec (.fence p0 (op 0 0 0 15)) run) (fun t => getPc t p0 == 0x48) = true := by decide +kernel
theorem test_fence_waits : goes (exec (.fence p0 (op 0 0 0 1)) (put [(CD_BK_SB 0 0 0, BitVec.ofNat 64 (1 + 13 * 64 * 2 ^ 20))] run)) (fun t => getPc t p0 == 0x40) = true := by decide +kernel
theorem test_yield : goes (exec (.yield p0 (op 0 0 0 0)) run) (fun t => (brickGet t 0 0).yielded == [0] && getPc t p0 == 0x48) = true := by decide +kernel
theorem test_end : goes (exec (.endPly p0 (op 0 0 0 0)) run) (fun t => (plyGet t 0 0 0).ending && plyState t 0 0 0 == 1) = true := by decide +kernel
theorem test_ppt : goes (exec (.ppt p0 (op 0 0 0 0)) (plyMod run 0 0 0 (fun x => { x with marked := true }))) (fun t => (plyGet t 0 0 0).saving) = true := by decide +kernel
theorem test_trap : goes (exec (.trap p0 (op 0 0 0 (BitVec.ofInt 33 (-1)))) run) (fun t => (plyGet t 0 0 0).trap == some ⟨5, 0x48, 2 ^ 64 - 1⟩ && getPc t p0 == 0x40) = true := by decide +kernel
theorem test_tret : goes (exec (.tret p0 (op 0 0 0 0)) (put [(CD_PLY_STS 0 0 0, 9), (CD_PLY_EPC 0 0 0, 0x200)] run)) (fun t => getPc t p0 == 0x200 && getF t (CD_PLY_STS_TH 0 0 0) == 0) = true := by decide +kernel
theorem test_ckpt : goes (exec (.ckpt p0 (op 0 1 0 (BitVec.ofInt 33 (-1)))) run) (fun t => readLE t (storePa 0 0 (0xC0 + 24)) 8 == 2 ^ 64 - 2 && readLE t (storePa 0 0 (0xC0 + 392)) 8 == 0x48) = true := by decide +kernel
theorem test_brk : goes (exec (.brk p0 (op 0 0 0 0)) run) (fun t => (plyGet t 0 0 0).trap == some ⟨8, 0x48, 0⟩) = true := by decide +kernel

theorem wit_TensorAccess : ([0x4000000, 0x84000000].all (fun x => ready mem0 p0 (op 1 1 0 x) 14 0 && ready mem0 p0 (op 0 1 1 x) 14 1)
    && [(Fmt.n4, 0x1b8000000), (.i4, 0x800000), (.t2, 0x79000000), (.n8, 0x1a000000), (.f16, 0xa800000), (.f32, 0x103000000), (.i32, 0x3800000)].all (fun e =>
      rangeTrap (tensorRanges mem0 p0 (op 1 1 0 e.2) e.1) == none && ready mem0 p0 (op 1 1 0 e.2) 14 0 && ready mem0 p0 (op 0 1 1 e.2) 14 1)
    && ready mem0 p0 (op 1 1 0 0x4000000) 14 2 && ready mem0 p0 (op 0 1 1 0x4000000) 14 3) = true := by decide +kernel
theorem wit_WeightPlanes : ([0x0, 0x20000000, 0x40000000, 0x41000000, 0x80000000, 0xa0000000].all (fun x => ready desc p0 (op 3 2 0 x) 16 0) && ready run p0 (op 3 0 0 0) 16 1
    && storeVal desc p0 (0x4000 + 32) 1 % 2 == 0 && storeVal desc p0 0x4000 8 + 2048 * 8 ≤ 2 ^ 20) = true := by decide +kernel
theorem wit_Steps : (ready n4s p0 (op 1 1 3 0x0) 17 0 && planeMode n4s 0 0 2 == Fmt.n4.code && shadowBase n4s 0 0 2 + 64 * 32 + 64 * 2 ≤ 2 ^ 20
    && (brickGet n4s 0 0).shq.length + 2 ≤ 4 && ready n8s p0 (op 1 1 0 0x80000000) 17 0 && planeMode n8s 0 0 0 == Fmt.n8.code) = true := by decide +kernel
theorem wit_Accumulators : (ready run p0 (op 3 0 0 0x100) 18 0 && !bankBusy run 0 0 3 && ready vecs p0 (op 1 2 0 0xe7000000) 18 1 && !bankF32 vecs 0 0 2
    && ready vecs p0 (op 1 4 0 0xe6000000) 18 2 && ready (setBankBit vecs (CD_BK_ARITH_BANK_F32 0 0) 1 true) p0 (op 1 4 0 0xc6000000) 18 2) = true := by decide +kernel
theorem wit_VectorArithmetic : ([0xa0000000, 0xc0000000, 0xe0000000].all (fun x => (List.range 5).all (fun mi => ready vecs p0 (op 6 4 5 x) 24 mi)
    && ready vecs p0 (op 6 4 5 x) 25 0 && (List.range 3).all (fun mi => ready vecs p0 (op 6 4 0 x) 26 mi))) = true := by decide +kernel
theorem wit_VectorTranscendentals : ([0xb0000000, 0xc8000000].all (fun x => (List.range 4).all (fun i => ready vecs p0 (op 6 4 0 x) 26 (8 + i)))) = true := by decide +kernel
theorem wit_VectorMoves : ([0xa0000000, 0xc0000000, 0xe0000000].all (fun x => (List.range 4).all (fun mi => ready vecs p0 (op 6 4 5 x) 27 mi) && ready vecs p0 (op 6 1 0 x) 28 1
    && ready vecs p0 (op 6 4 5 x) 29 0 && ready vecs p0 (op 6 4 0 x) 29 1 && ready vecs p0 (op 0 4 0 x) 29 2)
    && ready vecs p0 (op 6 1 0 0xe1e00000) 28 2 && ready vecs p0 (op 6 4 0 0xa3e00000) 28 3 && ready vecs p0 (op 6 4 0 0x100000000) 28 0
    && (List.range 3).all (fun mi => ready vecs p0 (op 6 4 5 0x100000000) 30 mi) && ready vecs p0 (op 6 4 0 0x100000000) 30 3) = true := by decide +kernel
theorem wit_Precision : (ready vecs p0 (op 6 4 0 0xc380000) 50 0 && ready vecs p0 (op 6 4 0 0xc4780000) 50 0 && ready vecs p0 (op 6 0 0 0xFF80) 51 0) = true := by decide +kernel
theorem wit_SafeguardAndSystemRegisters : (ready run p0 (op 0 0 0 7) 52 0 && ready run p0 (op 0 0 0 0) 52 1 && ready run p0 (op 0 0 0 0) 52 2 && ready run p0 (op 6 0 0 5) 53 0
    && ready run p0 (op 0 0 0 0) 53 1 && (List.range 9).all (fun i => ready run p0 (op 6 0 0 (BitVec.ofNat 33 i)) 57 0)
    && [5, 6, 7, 8].all (fun i => ready run p0 (op 0 1 0 i) 57 1)) = true := by decide +kernel
theorem wit_SystemInstructions : (ready run p0 (op 0 0 0 15) 54 0 && fenceMet run p0 (op 0 0 0 15) && ready run p0 (op 0 0 0 0) 55 0 && ready run p0 (op 0 0 0 0) 55 1
    && ready run p0 (op 0 0 0 0) 55 2 && ready run p0 (op 0 0 0 9) 56 0 && ready run p0 (op 0 0 0 0) 56 1 && ready run p0 (op 0 1 0 0) 58 0 && ready run p0 (op 0 0 0 0) 59 0
    && ready (put [(CD_BK_SB 0 0 0, BitVec.ofNat 64 (1 + 13 * 64 * 2 ^ 20))] run) p0 (op 0 0 0 1) 54 0) = true := by decide +kernel

/-! ## Messages, DMA and knots from a ply: Tables 4-6, 4-9 and 4-12 -/

/-- s1 names the place of index 3 at brick 2 of die 0, s2 the global identifier 9 whose place is that of index 4 at brick 1; v1 holds 5 and 6; s6 is an offset of the store. -/
def msgs : State := brickMod (setV (put [(CD_PLY_S 0 0 0 1, 0x00020003), (CD_PLY_S 0 0 0 2, 9), (CD_PLY_S 0 0 0 6, 0x200)] run) 0 0 1 ⟨packElems 32 [5, 6], scaleOnes, 0, 0, 0⟩)
  0 0 (fun x => { x with dirCache := [(9, 0x80010004)] })
/-- The outbox of brick 0 is full. -/
def fullBox : State := { msgs with flights := List.replicate 64 ⟨0, 0, .outbox, ⟨0, 0⟩⟩ }
/-- A message waits in the inbox. -/
def boxed : State := brickMod run 0 0 (fun x => { x with inbox := [⟨0x1234, mkTag 0x7F7F7F7F7F7F7F7F 0 0 0 8 0 1 7⟩] })
def msg0 (t : State) : Msg := ((t.flights.getD 0 ⟨9, 9, .outbox, ⟨0, 0⟩⟩).msg)

theorem test_msend : goes (exec (.msend p0 (op 0 1 1 0xe2000000)) msgs) (fun t => (msg0 t).op == 0 && (msg0 t).fmt == 7 && (msg0 t).dest == 0x20003 && (msg0 t).body == 5 + 6 * 2 ^ 32 && (msg0 t).tally == 2 && (msg0 t).len == 0) = true := by decide
theorem test_msendg : goes (exec (.msendg p0 (op 0 2 1 0xe8000000)) msgs) (fun t => (msg0 t).op == 0 && (msg0 t).fmt == 7 && (msg0 t).dest == 0x10004 && (msg0 t).len == 1) = true := by decide
theorem test_mgath : goes (exec (.mgath p0 (op 0 1 6 0x1000000)) msgs) (fun t => (msg0 t).op == 1 && (msg0 t).fmt == 0 && (msg0 t).dest == 0x20003 && (msg0 t).body == 0x10) = true := by decide
theorem test_mgathg : goes (exec (.mgathg p0 (op 0 2 6 0x8000000)) msgs) (fun t => (msg0 t).op == 1 && (msg0 t).fmt == 0 && (msg0 t).dest == 0x10004 && (msg0 t).body == 0x10) = true := by decide
theorem test_scadd : goes (exec (.scadd p0 (op 0 1 1 0xc4000000)) msgs) (fun t => (msg0 t).op == 3 && (msg0 t).fmt == 6 && (msg0 t).dest == 0x20003 && (msg0 t).body == 0) = true := by decide
theorem test_scaddg : goes (exec (.scaddg p0 (op 0 2 1 0xc0000000)) msgs) (fun t => (msg0 t).op == 3 && (msg0 t).fmt == 6 && (msg0 t).dest == 0x10004 && (msg0 t).body == 5 + 6 * 2 ^ 32) = true := by decide
theorem test_msend_full : goes (exec (.msend p0 (op 0 1 1 0xe0000000)) fullBox) (fun t => getPc t p0 == 0x40 && getF t (CD_ME_STS_OB_STALL 0 0) == 1 && t.flights.length == 64) = true := by decide
theorem test_mrecv : goes (exec (.mrecv p0 (op 1 0 0 0)) boxed) (fun t => (getV t 0 0 1).data == 0x1234 && (brickGet t 0 0).inbox.isEmpty && getPc t p0 == 0x48) = true := by decide
theorem test_mrecv_waits : goes (exec (.mrecv p0 (op 1 0 0 0)) run) (fun t => plyState t 0 0 0 == 2 && rd t (CD_PLY_WAIT 0 0 0) == 3 && (brickGet t 0 0).recvQ == [0]) = true := by decide
theorem test_mpoll : goes (exec (.mpoll p0 (op 3 0 0 0)) boxed) (fun t => getP t p0 3) = true := by decide
theorem test_mtag : goes (exec (.mtag p0 (op 6 0 0 0)) (plyMod run 0 0 0 (fun x => { x with lastTag := 0x77 }))) (fun t => getS t p0 6 == 0x77) = true := by decide
theorem test_vtset : goes (exec (.vtset p0 (op 0 1 3 0)) run) (fun t => rd t (CD_ME_VT 0 0 5) == 0xFFFFFFFFFFFFE) = true := by decide
theorem test_vtget : goes (exec (.vtget p0 (op 6 1 0 0)) (put [(CD_ME_VT 0 0 5, 0x321)] run)) (fun t => getS t p0 6 == 0x321) = true := by decide
/-- Tally 1 of brick 0 arrives at knot 0x123 on every third event and has counted 2. -/
def tally : State := puts [(CD_ME_TALLY_EVERY 0 0 1, 3), (CD_ME_TALLY_COUNT 0 0 1, 2), (CD_ME_TALLY_KNOT 0 0 1, 0x123)] run
theorem test_mtadd : goes (exec (.mtadd p0 (op 0 1 0 1)) tally) (fun t => getF t (CD_ME_TALLY_COUNT 0 0 1) == 1 && t.knotOps == [⟨.engine 0, 0x123, .arrive, false, false, 0, 0⟩, ⟨.engine 0, 0x123, .arrive, false, false, 0, 0⟩]) = true := by decide
theorem test_mtrd : goes (exec (.mtrd p0 (op 6 0 0 1)) tally) (fun t => getS t p0 6 == rd tally (CD_ME_TALLY 0 0 1)) = true := by decide
theorem test_dmaq : goes (exec (.dmaq p0 (op 6 2 0 0)) (puts [(CD_BK_DMA_NEXT_TICKET 0 0, 0x11)] run)) (fun t => getS t p0 6 == 0x11 && (brickGet t 0 0).tickets == [0x11] && (dieGet t 0).dmaQ.length == 1 && getF t (CD_BK_DMA_NEXT_TICKET 0 0) == 0x12) = true := by decide
theorem test_dmat_not_complete : goes (exec (.dmat p0 (op 3 1 0 0)) (brickMod run 0 0 (fun x => { x with tickets := [5] }))) (fun t => !getP t p0 3) = true := by decide
theorem test_dmat_complete : goes (exec (.dmat p0 (op 3 1 0 0)) run) (fun t => getP t p0 3) = true := by decide
/-- AOR session 2 is open; brick 0 of die 0 is its source of number 1. -/
def aor2 : State := aorPut (puts [(PI_AOR_STS_STATE 2, 2), (HP_CAP_EFF_CERT_AOR, 1)] run) 2
  (some ⟨2 * 2 ^ 40 + 5 * 2 ^ 512 + 0 * 2 ^ 544, [[], []], [0, 7], [0, 0], 0, none, 0, 0, [], true⟩)

theorem test_maor : goes (exec (.maor p0 (op 0 0 1 0xa0020000)) aor2) (fun t => (((aorGet t 2).map (fun y => (y.contribs.map List.length, y.nextK))) == some ([0, 1], [0, 8])) && getPc t p0 == 0x48) = true := by decide +kernel
theorem test_maor_without_session : goes (exec (.maor p0 (op 0 0 1 0xa00f0000)) aor2) (fun t => (plyGet t 0 0 0).trap == some ⟨0x16, 0x40, 15⟩) = true := by decide

/-- s1 = 5 names a knot of die 0, s2 = 7; s8 = 0x2005 a span knot. -/
def knots : State := put [(CD_PLY_S 0 0 0 8, 0x2005)] run
def ask1 (t : State) : List (Nat × KOp × Bool × Nat) := t.knotOps.map (fun k => (k.handle, k.op, k.reply, k.arg))

theorem test_karr : goes (exec (.karr p0 (op 6 1 0 0)) knots) (fun t => ask1 t == [(5, .arrive, true, 0)]) = true := by decide
theorem test_ksig : goes (exec (.ksig p0 (op 0 1 0 0)) knots) (fun t => ask1 t == [(5, .signal, false, 0)]) = true := by decide
theorem test_ktest : goes (exec (.ktest p0 (op 6 1 0 0)) knots) (fun t => ask1 t == [(5, .test, true, 0)]) = true := by decide
theorem test_karm : goes (exec (.karm p0 (op 0 1 2 1)) knots) (fun t => ask1 t == [(5, .arm, false, 7)]) = true := by decide
theorem test_krst : goes (exec (.krst p0 (op 0 1 0 0)) knots) (fun t => ask1 t == [(5, .reset, false, 0)]) = true := by decide
theorem test_kwait : goes (exec (.kwait p0 (op 6 1 2 100)) knots) (fun t => ask1 t == [(5, .watch, true, 7)] && plyState t 0 0 0 == 2 && (plyGet t 0 0 0).wait == some ⟨6, some 100⟩ && sbWaitEntry t 0 0 0 == some 0) = true := by decide
theorem test_karm_zero : goes (exec (.karm p0 (op 0 1 0 0)) knots) (fun t => (plyGet t 0 0 0).trap == some ⟨0x13, 0x40, 5 + 3 * 2 ^ 16⟩) = true := by decide
theorem test_karr_bad_handle : goes (exec (.karr p0 (op 0 4 0 0)) knots) (fun t => ask1 t == [(0, .arrive, false, 0)]) = true := by decide
theorem test_karr_span_knot_without_span : goes (exec (.karr p0 (op 0 8 0 0)) knots) (fun t => (plyGet t 0 0 0).trap == some ⟨0x12, 0x40, 0x2005⟩) = true := by decide
theorem test_ksigr_own_rank : goes (exec (.ksigr p0 (op 0 1 0 0)) (puts [(CH_DIE_STS_STATE 0, 3)] run)) (fun t => t.knotOps == [⟨.engine 4, 5, .signal, false, false, 0, 0⟩] && getPc t p0 == 0x48) = true := by decide
theorem test_lwait_reached : goes (exec (.lwait p0 (op 0 0 0 0)) run) (fun t => getPc t p0 == 0x48 && plyState t 0 0 0 == 1) = true := by decide
theorem test_lwait_waits : goes (exec (.lwait p0 (op 0 1 0 0)) run) (fun t => plyState t 0 0 0 == 2 && rd t (CD_PLY_WAIT 0 0 0) == 0x52) = true := by decide
theorem test_lwaitr : goes (exec (.lwaitr p0 (op 0 0 0 9)) (puts [(CD_EPOCH_EPOCH 0, 2)] run)) (fun t => rd t (CD_PLY_WAIT 0 0 0) == 0xB2) = true := by decide
/-- s6 = 0x400, an instruction's address. -/
def slots : State := put [(CD_PLY_S 0 0 0 6, 0x400)] run
theorem test_larm_ply : goes (exec (.larmPly p0 (op 0 1 6 3)) slots) (fun t => getF t (CD_BK_LSLOT_ARMED 0 0 3) == 1 && getF t (CD_BK_LSLOT_EPOCH 0 0 3) == 5 && getF t (CD_BK_LSARG_ARG 0 0 3) == 0x400) = true := by decide
theorem test_larm_ply_late : goes (exec (.larmPly p0 (op 0 0 6 3)) slots) (fun t => plyState t 0 0 3 == 1 && getPc t ⟨0, 0, 3⟩ == 0x400 && getF t (CD_BK_LSLOT_LATE 0 0 3) == 1) = true := by decide
theorem test_larm_ply_busy : goes (exec (.larmPly p0 (op 0 1 6 0)) slots) (fun t => (plyGet t 0 0 0).trap == some ⟨0x15, 0x40, 0⟩) = true := by decide
theorem test_larm_knot : goes (exec (.larmKnot p0 (op 0 2 1 0)) slots) (fun t => getF t (CD_BK_LSLOT_ARMED 0 0 4) == 1 && getF t (CD_BK_LSARG_ARG 0 0 4) == 5) = true := by decide
theorem test_ldis : goes (exec (.ldis p0 (op 0 0 0 6)) (puts [(CD_BK_LSLOT_ARMED 0 0 6, 1)] run)) (fun t => getF t (CD_BK_LSLOT_ARMED 0 0 6) == 0) = true := by decide

theorem wit_MessagesSent : (placeOk msgs 0 0x00020003 && outboxCount msgs 0 0 < 64 && ready msgs p0 (op 0 1 1 0x84000000) 32 0 && ready msgs p0 (op 0 1 1 0xc8000000) 34 0
    && ready msgs p0 (op 0 1 6 0x8000000) 33 0 && dirEntry msgs 0 0 9 == some 0x80010004 && placeOk msgs 0 0x80010004
    && ready msgs p0 (op 0 2 1 0x108000000) 32 1 && ready msgs p0 (op 0 2 1 0x0) 34 1 && ready msgs p0 (op 0 2 6 0) 33 1) = true := by decide
theorem wit_MessagesSent_full : (!decide (outboxCount fullBox 0 0 < 64) && ready fullBox p0 (op 0 1 1 0x80000000) 32 0 && ready fullBox p0 (op 0 2 1 0x80000000) 32 1
    && ready fullBox p0 (op 0 1 6 0) 33 0 && ready fullBox p0 (op 0 2 6 0) 33 1 && ready fullBox p0 (op 0 1 1 0x80000000) 34 0 && ready fullBox p0 (op 0 2 1 0x80000000) 34 1) = true := by decide
theorem wit_MessageEngine : (ready boxed p0 (op 1 0 0 0) 36 0 && ready run p0 (op 1 0 0 0) 36 0 && ready run p0 (op 3 0 0 0) 36 1 && ready run p0 (op 6 0 0 0) 36 2
    && ready run p0 (op 0 1 3 0) 37 0 && ready run p0 (op 6 1 0 0) 37 1 && ready tally p0 (op 0 1 0 1) 38 0 && ready run p0 (op 0 1 0 3) 38 0 && ready tally p0 (op 6 0 0 1) 38 1
    && ready aor2 p0 (op 0 0 1 0xa0020000) 35 0 && ready run p0 (op 6 2 0 0) 40 0 && ready run p0 (op 3 1 0 0) 41 0) = true := by decide +kernel
theorem wit_KnotInstructions : (handleOk knots 0 5 && knotQueue knots 0 0 < 8 && ready knots p0 (op 6 1 0 0) 44 0 && ready knots p0 (op 0 1 0 0) 44 1 && ready knots p0 (op 6 1 0 0) 45 1
    && ready knots p0 (op 0 1 2 0) 46 0 && ready knots p0 (op 0 1 0 0) 46 1 && ready knots p0 (op 6 1 2 7) 45 0 && (plyGet knots 0 0 0).rewait.isNone
    && ready knots p0 (op 0 1 0 0) 49 0 && !epochReached 0 5 && epochReached 0 0 && ready knots p0 (op 0 0 0 0) 49 0 && ready knots p0 (op 0 0 0 5) 49 1 && ready knots p0 (op 0 0 0 0) 49 1) = true := by decide
theorem wit_KnotInstructions_slots : (ready slots p0 (op 0 1 6 3) 48 0 && plyState slots 0 0 3 == 0 && ready slots p0 (op 0 2 1 0) 48 1 && handleOk slots 0 5
    && ready slots p0 (op 0 0 0 7) 48 2 && ready run p0 (op 0 1 0 0) 47 0 && ownRank run == 0) = true := by decide
/-- Rank 1 is present in the group; s6 = 1. -/
def rank1 : State := puts [(HP_GRP_STS_PRESENT, 3)] (put [(CD_PLY_S 0 0 0 6, 1)] run)
/-- A ksigr to another package of the group, whose rank is 1. -/
theorem wit_KnotInstructions_remote : (ready rank1 p0 (op 0 1 6 0) 47 0 && (getS rank1 p0 6).toNat % 16 != ownRank rank1 && rankPresent rank1 ((getS rank1 p0 6).toNat % 16)) = true := by decide

/-! ## Instructions that do not execute; the word and the instruction -/

theorem test_illegal_word : goes (exec (.add p0 (op 6 1 2 1)) run) (fun t => (plyGet t 0 0 0).trap == some ⟨1, 0x40, 6 * 2 ^ 47 + 1 * 2 ^ 42 + 2 * 2 ^ 37 + 1⟩) = true := by decide
/-- s6 is still to be written by the karr of entry 0. -/
def owed : State := put [(CD_BK_SB 0 0 0, BitVec.ofNat 64 (1 + 44 * 64 * 2 ^ 20 + 6 * 2 ^ 32 + 2 * 2 ^ 37))] run
theorem test_waits_for_register : goes (exec (.add p0 (op 7 6 2 0)) owed) (fun t => getPc t p0 == 0x40) = true := by decide
theorem test_idle_ply : goes (exec (.add p1 (op 7 6 2 0)) run) (fun t => getPc t p1 == 0 && getS t p1 7 == 0) = true := by decide
theorem wit_InstructionsNotExecuted : (mayIssue run p0 && legal false 0 0 { op 6 1 2 0 with gp := 3 } && !guardOn run p0 { op 6 1 2 0 with gp := 3 } && !legal false 0 0 (op 6 1 2 1)
    && ((findOp 0 0).map (fun r => hazard owed p0 r (op 7 6 2 0))) == some true && mayIssue owed p0 && guardOn owed p0 (op 7 6 2 0) && !mayIssue run p1
    && ((Instr.add p0 (op 6 1 2 0)).fields == some ⟨0, 0, p0, op 6 1 2 0⟩)) = true := by decide

/-- Table 3-2: a word written out as its fields: major opcode, minor opcode, D, A, B, guard negate, guard predicate, bits 32 to 0. -/
def word (maj mi : BitVec 6) (d a b : BitVec 5) (gn : BitVec 1) (gp : BitVec 3) (x : BitVec 33) : Word := maj ++ mi ++ d ++ a ++ b ++ gn ++ gp ++ x

theorem test_decode_scalar : decodeBrick false p0 (word 0x00 0x08 6 1 2 0 0 0) = some (.mul p0 (op 6 1 2 0)) := by decide
theorem test_decode_immediate : decodeBrick false p0 (word 0x01 0x08 31 0 0 0 0 0x1FFFFFFFF) = some (.li p0 (op 31 0 0 0x1FFFFFFFF)) := by decide
theorem test_decode_compare : decodeBrick false p0 (word 0x02 0x0A 7 1 0 1 5 9) = some (.cmpiLt p0 ⟨7, 1, 0, true, 5, 9⟩) := by decide
theorem test_decode_predicate : decodeBrick false p0 (word 0x03 0x04 7 0 0 0 0 1) = some (.pset p0 (op 7 0 0 1)) := by decide
theorem test_decode_address : decodeBrick false p0 (word 0x04 0x02 15 1 3 0 0 0) = some (.aadd p0 (op 15 1 3 0)) := by decide
theorem test_decode_branch : decodeBrick false p0 (word 0x08 0x01 6 0 0 0 7 0x1FFFFFFFE) = some (.call p0 ⟨6, 0, 0, false, 7, 0x1FFFFFFFE⟩) := by decide
theorem test_decode_loop : decodeBrick false p0 (word 0x0A 0x00 7 0 0 0 0 2) = some (.loop p0 (op 7 0 0 2)) := by decide
theorem test_decode_nop : decodeBrick false p0 (word 0x0B 0x00 0 0 0 0 0 0) = some (.nop p0 (op 0 0 0 0)) := by decide
theorem test_decode_load : decodeBrick false p0 (word 0x0C 0x07 15 1 0 0 0 8) = some (.ldA p0 (op 15 1 0 8)) := by decide
theorem test_decode_store : decodeBrick false p0 (word 0x0D 0x03 0 1 2 0 0 8) = some (.stD p0 (op 0 1 2 8)) := by decide
theorem test_decode_tensor : decodeBrick false p0 (word 0x0E 0x01 0 2 31 0 0 (0#1 ++ 1#1 ++ 7#4 ++ 0x0#4 ++ 0#2 ++ 3#21)) = some (.vst p0 (op 0 2 31 0xb8000003)) := by decide
theorem test_decode_atomic : decodeBrick false p0 (word 0x0F 0x02 6 1 2 0 0 0) = some (.amocasD p0 (op 6 1 2 0)) := by decide
theorem test_decode_plane : decodeBrick false p0 (word 0x10 0x00 3 2 0 0 0 (2#4 ++ 0#2 ++ 0#2 ++ 1#1 ++ 0#3 ++ 5#21)) = some (.wld p0 (op 3 2 0 0x41000005)) := by decide
theorem test_decode_step : decodeBrick false p0 (word 0x11 0x00 3 1 4 0 0 (1#4 ++ 2#2 ++ 0#2 ++ 0#1 ++ 0#3 ++ 7#21)) = some (.step p0 (op 3 1 4 0x30000007)) := by decide
theorem test_decode_accumulator : decodeBrick false p0 (word 0x12 0x01 31 3 0 0 0 (7#4 ++ 0#2 ++ 3#2 ++ 1#1 ++ 0#3 ++ 0#21)) = some (.adrain p0 (op 31 3 0 0xe7000000)) := by decide
theorem test_decode_vector : decodeBrick false p0 (word 0x19 0x00 3 1 2 0 0 (6#4 ++ 1#2 ++ 0#27)) = some (.vfma p0 (op 3 1 2 0xc8000000)) := by decide
theorem test_decode_vector_index : decodeBrick false p0 (word 0x1C 0x02 3 1 0 0 0 (5#4 ++ 0#2 ++ 0#1 ++ 31#5 ++ 0#21)) = some (.vins p0 (op 3 1 0 0xa3e00000)) := by decide
theorem test_decode_message : decodeBrick false p0 (word 0x20 0x00 0 1 2 0 0 (4#4 ++ 1#1 ++ 0#1 ++ 1#1 ++ 3#2 ++ 0#8 ++ 0#16)) = some (.msend p0 (op 0 1 2 0x97000000)) := by decide
theorem test_decode_contribution : decodeBrick false p0 (word 0x23 0x00 0 0 2 0 0 (5#4 ++ 0#1 ++ 0#1 ++ 0#1 ++ 0#2 ++ 9#8 ++ 0#16)) = some (.maor p0 (op 0 0 2 0xa0090000)) := by decide
theorem test_decode_knot : decodeBrick false p0 (word 0x2D 0x00 6 1 2 0 0 100) = some (.kwait p0 (op 6 1 2 100)) := by decide
theorem test_decode_dma : decodeBrick false p0 (word 0x28 0x00 6 2 0 0 0 1) = some (.dmaq p0 (op 6 2 0 1)) := by decide
theorem test_decode_launch : decodeBrick false p0 (word 0x30 0x01 0 1 2 0 0 0) = some (.larmKnot p0 (op 0 1 2 0)) := by decide
theorem test_decode_convert : decodeBrick false p0 (word 0x32 0x00 6 1 0 0 0 (0#4 ++ 6#4 ++ 1#2 ++ 7#4 ++ 0#19)) = some (.cvt p0 (op 6 1 0 0xcb80000)) := by decide
theorem test_decode_scale : decodeBrick false p0 (word 0x33 0x00 6 0 0 0 0 0xFF01) = some (.scl p0 (op 6 0 0 0xFF01)) := by decide
theorem test_decode_control : decodeBrick false p0 (word 0x37 0x01 0 0 0 0 0 0) = some (.endPly p0 (op 0 0 0 0)) := by decide
theorem test_decode_system : decodeBrick false p0 (word 0x39 0x01 0 1 0 0 0 5) = some (.wrsr p0 (op 0 1 0 5)) := by decide
theorem test_decode_reserved : decodeBrick false p0 (word 0x3F 0x00 0 0 0 0 0 0) = none := by decide
theorem test_decode_reserved_minor : decodeBrick false p0 (word 0x02 0x06 1 1 1 0 0 0) = none := by decide
theorem wit_DecodeEncode : ((Instr.add p0 (op 6 1 2 0)).wellFormed false = true ∧ (Instr.add p0 (op 6 1 2 0)).fields = some ⟨0, 0, p0, op 6 1 2 0⟩)
    ∧ decodeBrick false p0 (word 0 0 6 1 2 0 0 0) = some (.add p0 (op 6 1 2 0)) := by decide
/-- A legal word and an illegal one, for a ply that may issue. -/
theorem wit_SchedulerRunsDecoded : decodeBrick (n3Avail run 0) p0 (word 0 0 6 1 2 0 0 0) = some (.add p0 (op 6 1 2 0))
    ∧ decodeBrick (n3Avail run 0) p0 (word 0x3F 0 0 0 0 0 0 0) = none ∧ mayIssue run p0 = true := by decide

/-! ## Well-formedness: one ill-formed term for each check -/

theorem test_illFormed_instructions : ([
    .amov p0 (op 16 1 0 0),
    .wsel p0 (op 4 0 0 0),
    .nop p0 (op 0 0 1 0),
    .add p0 (op 1 1 1 1),
    .shli p0 (op 1 1 0 64),
    .lih p0 (op 1 0 0 0x80000000),
    .pset p0 (op 1 0 0 2),
    .scl p0 (op 1 0 0 0xa0000000),
    .sgctx p0 (op 0 0 0 8),
    .sgrd p0 (op 1 0 0 6),
    .fence p0 (op 0 0 0 16),
    .rdsr p0 (op 1 0 0 9),
    .wrsr p0 (op 0 1 0 4),
    .mtrd p0 (op 1 0 0 4),
    .kwait p0 (op 1 1 1 0x100000000),
    .karm p0 (op 0 1 1 2),
    .larmPly p0 (op 0 1 1 4),
    .ldis p0 (op 0 0 0 8),
    .lwaitr p0 (op 0 0 0 0x100000000),
    .vld p0 (op 1 1 0 0x4200000),
    .vld p0 (op 1 1 0 0x4800000),
    .vld p0 (op 1 1 0 0xc000000),
    .vld p0 (op 1 1 0 0x40000000),
    .vld p0 (op 1 14 0 0),
    .vsbld p0 (op 1 1 0 0x84000000),
    .step p0 (op 1 1 1 0x18000000),
    .wld p0 (op 1 1 0 0xc0000000),
    .wld p0 (op 1 1 0 0x1000000),
    .step p0 (op 1 1 1 0x80000000),
    .aclr p0 (op 1 0 0 0x101),
    .adrain p0 (op 1 1 0 0x4000000),
    .aaddFmt p0 (op 1 1 0 0x80000000),
    .vadd p0 (op 1 1 1 0x80000000),
    .vadd p0 (op 1 1 1 0xe8000000),
    .vext p0 (op 1 1 0 0xe2000000),
    .vmov p0 (op 1 1 0 0xe0000000),
    .vrcp p0 (op 1 1 0 0xe0000000),
    .cvt p0 (op 1 1 0 0xcc000000),
    .cvt p0 (op 1 1 0 0xac100000),
    .msend p0 (op 0 1 1 0x8c000000),
    .msend p0 (op 0 1 1 0x48000000),
    .mgath p0 (op 0 1 1 0x80000000),
    .scadd p0 (op 0 1 1 0x20000000),
    .maor p0 (op 0 0 1 0xc0000000)] : List Instr).all (fun i => !i.wellFormed true) = true := by decide
theorem test_n3_only_where_available : (!(Instr.wld p0 (op 1 1 0 0x60000000)).wellFormed false && (Instr.wld p0 (op 1 1 0 0x60000000)).wellFormed true
    && !(Instr.cvt p0 (op 1 1 0 0x6a000000)).wellFormed false) = true := by decide
theorem test_illFormed_events : ([.mgmtWrite 0 0 0 true, .i3cPrivateWrite [0, 0, 0, 0, 0], .guestWrite 0 0 (List.replicate 65 0), .guestWrite 0 0 [], .activity [] true] : List Instr).all
    (fun i => !i.wellFormed true) = true := by decide
theorem test_wellFormed_events : ([.mgmtWrite 0 7 0 true, .i3cPrivateWrite [0, 0, 0, 0, 0, 0], .guestWrite 0 0 (List.replicate 64 0), .larmPly p0 (op 0 1 1 3)] : List Instr).all
    (fun i => i.wellFormed false) = true := by decide
theorem test_decodeTableWord : decodeTableWord 64 0 = none := rfl

/-! ## Scheduling, completions, traps and wakes -/

/-- The word of `addi s6, s1, 1` stands at the PC of ply 0. -/
def coded : State := writeLE run (storePa 0 0 0x40) 8 (wordOf 1 0 (op 6 1 0 1)).toNat
/-- The same, fetched. -/
def ready0 : State := plyMod coded 0 0 0 (fun x => { x with fbuf := [(0x40, wordOf 1 0 (op 6 1 0 1))] })

theorem wit_FetchAndAgeing_fetch : (mayIssue coded p0 && (plyGet coded 0 0 0).fbuf.isEmpty && !mayIssue coded p1 && goes (exec (.fetch p0) coded) (fun t => headWord t p0 == some (wordOf 1 0 (op 6 1 0 1)) && (plyGet t 0 0 0).fbuf.length == 16)) = true := by decide
theorem wit_FetchAndAgeing_ageing : (goes (exec (.ageing p0) (plyMod run 0 0 0 (fun x => { x with age := 64 }))) (fun t => (plyGet t 0 0 0).aged && (plyGet t 0 0 0).age == 0)) = true := by decide
theorem wit_ScheduleStep : (choose ready0 k0 == (none, some p0) && (pliesAt k0).all (fun q => q == p0 || !mayIssue ready0 q) && goes (exec (.scheduleStep k0) ready0) (fun t => getS t p0 6 == 6 && getPc t p0 == 0x48 && (brickGet t 0 0).lastS == 0)) = true := by decide
theorem wit_ScheduleStep_idle : ((pliesAt k0).all (fun q => !mayIssue State.reset q) && goes (exec (.scheduleStep k0) State.reset) (fun t => t.flights.isEmpty && (plyGet t 0 0 0).age == 0)) = true := by decide
/-- Entry 3 is held by an instruction of ply 0 that awaits nothing. -/
def held3 : State := put [(CD_BK_SB 0 0 3, 1)] run
theorem wit_Completions : (getF held3 (CD_BK_SB_VALID 0 0 3) == 1 && getF held3 (CD_BK_SB_AWAIT 0 0 3) == 0 && !(plyGet held3 0 0 0).aborting && goes (exec (.instructionComplete k0 3) held3) (fun t => getF t (CD_BK_SB_VALID 0 0 3) == 0)) = true := by decide
theorem wit_Completions_aborting : (goes (exec (.instructionComplete k0 3) (plyMod held3 0 0 0 (fun x => { x with aborting := true }))) (fun t => getF t (CD_BK_SB_VALID 0 0 3) == 0 && plyState t 0 0 0 == 0 && !(plyGet t 0 0 0).aborting)) = true := by decide
theorem wit_Completions_end : (sbHeld run 0 0 0 == 0 && goes (exec (.endComplete p0) (plyMod run 0 0 0 (fun x => { x with ending := true }))) (fun t => plyState t 0 0 0 == 0 && !(plyGet t 0 0 0).ending)) = true := by decide
/-- A memory-range trap waits for its entry, with a handler at 0x800. -/
def trapped : State := put [(CD_PLY_TVEC 0 0 0, 0x801)] (plyMod run 0 0 0 (fun x => { x with trap := some ⟨2, 0x40, 0x100000⟩ }))
theorem wit_TrapEntry_handled : (sbHeld trapped 0 0 0 == 0 && plyState trapped 0 0 0 == 1 && getF trapped (CD_PLY_CMD_STATUS 0 0 0) != 1 && goes (exec (.trapEntry p0) trapped) (fun t => getPc t p0 == 0x800 && rd t (CD_PLY_EPC 0 0 0) == 0x40 && rd t (CD_PLY_CAUSE 0 0 0) == 2 && rd t (CD_PLY_TINFO 0 0 0) == 0x100000 && getF t (CD_PLY_STS_TH 0 0 0) == 1 && plyState t 0 0 0 == 1)) = true := by decide
theorem wit_TrapEntry_double : (goes (exec (.trapEntry p0) (puts [(CD_PLY_STS_TH 0 0 0, 1)] trapped)) (fun t => plyState t 0 0 0 == 3 && getF t (CD_PLY_STS_DOUBLE 0 0 0) == 1 && getF t (occFld (CD_PLY_STS_DOUBLE 0 0 0) 0) == 1 && reps t == [(0x202, 1)])) = true := by decide
theorem wit_TrapEntry_breakpoint : (goes (exec (.trapEntry p0) (plyMod trapped 0 0 0 (fun x => { x with trap := some ⟨8, 0x48, 0⟩ }))) (fun t => plyState t 0 0 0 == 3 && reps t == [] && getPc t p0 == 0x48)) = true := by decide
/-- Ply 0 waits for epoch 5 in entry 2; the channel's epoch is 5. -/
def asleep : State := puts [(CD_PLY_STS_STATE 0 0 0, 2), (CD_EPOCH_EPOCH 0, 5)] (put [(CD_PLY_WAIT 0 0 0, 0x52), (CD_BK_SB 0 0 2, BitVec.ofNat 64 (1 + 3 * 2 ^ 37))] run)
theorem wit_Wakes_lwait : (epochReached (epochOf asleep 0) (bitsOf (rd asleep (CD_PLY_WAIT 0 0 0)) 51 4) && !epochReached (epochOf (puts [(CD_EPOCH_EPOCH 0, 4)] asleep) 0) 5 && goes (exec (.lwaitWake p0) asleep) (fun t => plyState t 0 0 0 == 1 && rd t (CD_PLY_WAIT 0 0 0) == 0 && getF t (CD_BK_SB_VALID 0 0 2) == 0)) = true := by decide
/-- Ply 0 waits on knot 0x123 with GEN 7, until epoch 5, for s6. -/
def watching : State := plyMod (put [(CD_PLY_WAIT 0 0 0, BitVec.ofNat 64 (1 + 0x123 * 16 + 7 * 2 ^ 20))] asleep) 0 0 0 (fun x => { x with wait := some ⟨6, some 5⟩ })
theorem wit_Wakes_kwait : (knotWait watching 0 0 0 == some (0x123, 7) && goes (exec (.kwaitTimeout p0) watching) (fun t => plyState t 0 0 0 == 1 && getS t p0 6 == 0x70002 && (plyGet t 0 0 0).wait.isNone)) = true := by decide
theorem test_lwait_not_yet : (goes (exec (.lwaitWake p0) (puts [(CD_EPOCH_EPOCH 0, 4)] asleep)) (fun t => plyState t 0 0 0 == 2)) = true := by decide
theorem test_kwait_not_yet : (goes (exec (.kwaitTimeout p0) (puts [(CD_EPOCH_EPOCH 0, 4)] watching)) (fun t => plyState t 0 0 0 == 2)) = true := by decide
/-- A sampled step waits in the shadow queue; its shadow operands lie in cleared store. -/
def shade (esc : Bool) : State := brickMod run 0 0 (fun x => { x with shq := [⟨0, 1, List.replicate 64 .zero, 0x1000, 0x1100, 0x2000, 0x2100, 0, true, esc, false⟩] })

theorem wit_ShadowCheck : ((brickGet run 0 0).shq.isEmpty && goes (exec (.shadowCheck k0) (shade false)) (fun t => (brickGet t 0 0).shq.isEmpty && getF t (CD_BK_SGCNT1_CHECKS 0 0) == 1 && getF t (CD_BK_SGCNT1_TRIPS 0 0) == 0 && getF t (CD_BK_SGSTS_ESC 0 0) == 0)) = true := by decide +kernel

/-! ## Messages performed (R129-R132) -/

/-- A message on its way from brick 0 to index `idx` of brick 2 of die 0. -/
def flying (o fmt : Nat) (body idx : Nat) (s : State) : State := { s with flights := [⟨0, 0, .outbox, ⟨body, mkTag 0x7F7F7F7F7F7F7F7F 0 0 o fmt 0 1 (0x20000 + idx)⟩⟩] }
/-- Record 0x13 of brick 2: index 3 of entry 1, F32, stride 1, base 0x400. -/
def vt2 : State := puts [(CD_ME_VT_VALID 0 2 1, 1), (CD_ME_VT_LAST 0 2 1, 15), (CD_ME_VT_STRIDE 0 2 1, 1), (CD_ME_VT_RFMT 0 2 1, 6), (CD_ME_VT_BASE 0 2 1, 0x400 / 32)]
  (writeLE run (storePa 0 2 0x460) 4 0x3F800000)

theorem wit_MessagesPerformed_send : ((performable (flying 0 7 0x55 0 run) 0 0).isSome && (performable (flying 0 7 0x55 0 run) 1 0).isNone && goes (exec (.sendPerformed 0) (flying 0 7 0x55 0 run)) (fun t => ((brickGet t 0 2).inbox.map Msg.body) == [0x55] && t.flights.isEmpty && getF t (CD_ME_TALLY_COUNT 0 2 1) == 1)) = true := by decide
theorem wit_MessagesPerformed_swapped : (goes (exec (.sendPerformed 0) (brickMod (flying 0 7 0x55 0 run) 0 2 (fun x => { x with swapped := true }))) (fun t => getF t (CD_ME_STS_BAD_DEST 0 2) == 1 && reps t == [(0x302, 1)] && t.flights.isEmpty)) = true := by decide
theorem wit_MessagesPerformed_full : ((List.replicate 256 (0 : Nat)).length == 256 && goes (exec (.sendPerformed 0) (brickMod (flying 0 7 0x55 0 run) 0 2 (fun x => { x with inbox := List.replicate 256 ⟨0, 0⟩ }))) (fun t => t.flights.length == 1)) = true := by decide +kernel
theorem wit_MessagesPerformed_gather : (((recordOf vt2 0 2 0x13).map (fun r => (r.addr, r.bytes)) == some (0x460, 32)) && goes (exec (.gatherRequest 0) (flying 1 0 0x77 0x13 vt2)) (fun t => t.flights.map (fun x => (x.brick, x.msg.op, x.msg.fmt, x.msg.body, x.msg.dest)) == [(2, 2, 6, 0x3F800000, 0x77)] && reps t == [])) = true := by decide
theorem wit_MessagesPerformed_gather_invalid : ((recordOf vt2 0 2 0x23).isNone && goes (exec (.gatherRequest 0) (flying 1 0 0x77 0x23 vt2)) (fun t => t.flights.map (fun x => (x.msg.op, x.msg.fmt, x.msg.body)) == [(2, 15, 0)] && reps t == [(0x302, 1)] && getF t (CD_ME_STS_BAD_DEST 0 2) == 1)) = true := by decide
theorem wit_MessagesPerformed_reply : (goes (exec (.gatherReply 0) (flying 2 6 0x1234 0x13 run)) (fun t => readLE t (storePa 0 2 0x260) 4 == 0x1234 && t.flights.isEmpty && getF t (CD_ME_TALLY_COUNT 0 2 1) == 1)) = true := by decide
theorem wit_MessagesPerformed_reply_invalid : (goes (exec (.gatherReply 0) (flying 2 15 0 0x13 run)) (fun t => readLE t (storePa 0 2 0x260) 4 == 0 && getF t (CD_ME_STS_BAD_DEST 0 2) == 1 && t.reports.isEmpty)) = true := by decide
theorem wit_MessagesPerformed_scatter : (scaddPair .f32 .f32 && goes (exec (.scatterAdd 0) (flying 3 6 0x3f8000003fc00000 0x13 vt2)) (fun t => readLE t (storePa 0 2 0x460) 8 == 0x3f80000040200000 && reps t == [])) = true := by decide +kernel
theorem wit_MessagesPerformed_scatter_pair : (!scaddPair .f32 .f16 && goes (exec (.scatterAdd 0) (flying 3 6 0 0x13 (puts [(CD_ME_VT_RFMT 0 2 1, 5)] vt2))) (fun t => reps t == [(0x302, 1)] && readLE t (storePa 0 2 0x460) 2 == 0x7E01)) = true := by decide +kernel
theorem wit_MessagesPerformed_scatter_invalid : (goes (exec (.scatterAdd 0) (flying 3 6 0 0x23 vt2)) (fun t => reps t == [(0x302, 1)] && t.mem == vt2.mem)) = true := by decide +kernel
theorem wit_MessagesPerformed_stall : (goes (exec (.inboxStall ⟨0, 2⟩) (brickMod (flying 0 7 0x55 0 run) 0 2 (fun x => { x with inbox := List.replicate 256 ⟨0, 0⟩ }))) (fun t => getF t (CD_ME_STS_IB_STALL 0 2) == 1 && reps t == [(0x301, 1)])) = true := by decide +kernel

/-! ## Knots at their engines (R138-R143), notices, launch slots -/

/-- Knot 0x123 of die 0, with COUNT, TARGET, GEN, ARMED, AUTO as given; course 0 and die 1 watch it; one operation is on its way to it. -/
def knot (count target gen armed auto : Nat) (o : KOp) (reply : Bool) (arg : Nat) : State :=
  { puts [(kCount 0x123, count), (kTarget 0x123, target), (kGen 0x123, gen), (kArmed 0x123, armed), (kAuto 0x123, auto), (kCourses 0x123, 1), (kDies 0x123, 2)] run with
    knotOps := [⟨.ply 0 0 0, 0x123, o, true, reply, arg, 4⟩] }
def kst (t : State) : Nat × Nat × Nat × Nat := (getF t (kCount 0x123), getF t (kGen 0x123), getF t (kArmed 0x123), getF t (kAuto 0x123))
def sent (t : State) : List (NDest × NKind × Nat) := t.notices.map (fun v => (v.dest, v.kind, v.gen))

theorem wit_KnotOperations_arrive_counts : (knotReady (knot 2 2 7 1 0 .arrive true 0).knotOps 0 ⟨.ply 0 0 0, 0x123, .arrive, true, true, 0, 4⟩ && handleOk run 0 0x123 && !pkgSafe run && goes (exec (.knotArrive 0) (knot 2 2 7 1 0 .arrive true 0)) (fun t => kst t == (1, 7, 1, 0) && sent t == [(.ply 0 0 0, .reply, 7)] && t.knotOps.isEmpty)) = true := by decide
theorem wit_KnotOperations_arrive_fires : (goes (exec (.knotArrive 0) (knot 1 2 0xFFFF 1 0 .arrive false 0)) (fun t => kst t == (0, 0, 0, 0) && sent t == [(.course 0 0, .fire, 0), (.die 1, .fire, 0)] && getF t (kDies 0x123) == 0 && t.knotOps.isEmpty)) = true := by decide
theorem wit_KnotOperations_arrive_auto : (goes (exec (.knotArrive 0) (knot 1 2 7 1 1 .arrive false 0)) (fun t => kst t == (2, 8, 1, 1) && t.knotOps.isEmpty)) = true := by decide
theorem wit_KnotOperations_arrive_stray : (goes (exec (.knotArrive 0) (knot 0 2 7 0 0 .arrive false 0)) (fun t => getF t (kStray 0x123) == 1 && getF t (occFld (kStray 0x123) 0) == 1 && sent t == [] && t.knotOps.isEmpty)) = true := by decide
theorem wit_KnotOperations_signal : (goes (exec (.knotSignal 0) (knot 5 5 7 1 0 .signal false 0)) (fun t => kst t == (5, 8, 0, 0) && (sent t).length == 2 && t.knotOps.isEmpty)) = true := by decide
theorem wit_KnotOperations_signal_stray : (goes (exec (.knotSignal 0) (knot 5 5 7 0 0 .signal false 0)) (fun t => getF t (kStray 0x123) == 1 && t.knotOps.isEmpty)) = true := by decide
theorem wit_KnotOperations_test : (goes (exec (.knotTest 0) (knot 5 6 7 1 0 .test true 0)) (fun t => (t.notices.map (·.word)) == [5 + 6 * 2 ^ 16 + 7 * 2 ^ 32 + 2 ^ 48] && t.knotOps.isEmpty)) = true := by decide
theorem wit_KnotOperations_arm : (goes (exec (.knotArm 0) (knot 0 0 7 0 0 .arm false 3)) (fun t => kst t == (3, 7, 1, 1) && getF t (kTarget 0x123) == 3 && t.knotOps.isEmpty)) = true := by decide
theorem wit_KnotOperations_reset : (goes (exec (.knotReset 0) (knot 5 6 7 1 0 .reset false 0)) (fun t => kst t == (0, 8, 0, 0) && sent t == [(.course 0 0, .reset, 8), (.die 1, .reset, 8)] && t.knotOps.isEmpty)) = true := by decide
theorem wit_KnotOperations_watch_registers : (goes (exec (.knotWatch 0) (knot 5 6 7 1 0 .watch true 7)) (fun t => getF t (kCourses 0x123) == 1 && sent t == [] && t.knotOps.isEmpty)) = true := by decide
theorem wit_KnotOperations_watch_answers : (goes (exec (.knotWatch 0) (knot 5 6 7 1 0 .watch true 6)) (fun t => sent t == [(.ply 0 0 0, .reply, 7)] && t.knotOps.isEmpty)) = true := by decide
def noticed (k : NKind) (g : Nat) : State := { watching with notices := [⟨.course 0 0, 0x123, k, g, 0, 0⟩] }
theorem wit_KnotNotices_fire : (goes (exec (.knotNoticeFire 0) (noticed .fire 8)) (fun t => plyState t 0 0 0 == 1 && getS t p0 6 == 0x80000 && t.notices.isEmpty)) = true := by decide +kernel
theorem wit_KnotNotices_reset : (goes (exec (.knotNoticeReset 0) (noticed .reset 8)) (fun t => plyState t 0 0 0 == 1 && getS t p0 6 == 0x80001)) = true := by decide +kernel
theorem test_notice_of_the_observed_gen : (goes (exec (.knotNoticeFire 0) (noticed .fire 7)) (fun t => plyState t 0 0 0 == 2)) = true := by decide +kernel
theorem wit_KnotNotices_reply : (getF owed (CD_BK_SB_OPC 0 0 0) == 44 * 64 && getF owed (CD_BK_SB_D 0 0 0) == 6 && goes (exec (.knotNoticeReply 0) { owed with notices := [⟨.ply 0 0 0, 0x123, .reply, 9, 0, 0⟩] }) (fun t => getS t p0 6 == 9 && getF t (CD_BK_SB_VALID 0 0 0) == 0)) = true := by decide
/-- Slot `i` of brick 0 is armed for epoch 5 with argument 0x400; the epoch is 6. -/
def slotted (i adm : Nat) : State := puts [(CD_BK_LSLOT_ARMED 0 0 i, 1), (CD_BK_LSLOT_EPOCH 0 0 i, 5), (CD_BK_LSARG_ARG 0 0 i, 0x400), (CD_BK_LSLOT_ADM 0 0 i, adm), (CD_EPOCH_EPOCH 0, 6)] live
/-- A launch of ply 3 of brick 0 with ΔP 10 W at 0x400, in entry 7. -/
def launch : LedX := ⟨bytes [(0, 1, 1), (28, 1, 8), (30, 2, 10), (32, 4, 0x400), (44, 1, 0xFF)], 5, none, false, 0, false, false, false, [3], 0, 10, none, false, false⟩
def launched (x : LedX) (s : State) : State := puts [(CH_LEDGER_STATE 0 7, 1)] (ledPut s 0 7 (some x))

theorem wit_LaunchSlots : (getF (slotted 3 0) (CD_BK_LSLOT_ARMED 0 0 3) == 1 && !slotsHeld (slotted 3 0) 0 && epochReached (epochOf (slotted 3 0) 0) 5 && plyState (slotted 3 0) 0 0 3 == 0 && goes (exec (.launchSlotAct k0 3) (slotted 3 0)) (fun t => plyState t 0 0 3 == 1 && getPc t ⟨0, 0, 3⟩ == 0x400 && getF t (CD_BK_LSLOT_LATE 0 0 3) == 1 && getF t (CD_BK_LSLOT_ARMED 0 0 3) == 0)) = true := by decide
theorem wit_LaunchSlots_admission : ((launchOf (launched launch (slotted 3 1)) 0 3 == some (7, launch)) && slewOk (launched launch (slotted 3 1)) 0 launch && goes (exec (.launchSlotAct k0 3) (launched launch (slotted 3 1))) (fun t => plyState t 0 0 3 == 1 && getF t (CH_LEDGER_STATE 0 7) == 2 && getF t (CH_SLEW_STS_E 0) == 10)) = true := by decide +kernel
/-- The slew limit is at its least, and the launch exceeds it. -/
def big : LedX := { launch with dEff := 600 }
def steep (x : LedX) : State := launched x (slotted 3 1)
theorem wit_LaunchSlots_deferred : (!slewOk (steep big) 0 big && goes (exec (.launchSlotAct k0 3) (steep big)) (fun t => plyState t 0 0 3 == 0 && ((ledGet t 0 7).map (·.deferred)) == some true && getF t (CH_SLEW_STS_DEFER 0) == 1)) = true := by decide +kernel
theorem wit_LaunchSlots_knot : (goes (exec (.knotSlotAct k0 2) (slotted 6 0)) (fun t => t.knotOps == [⟨.engine 0, 0x400, .signal, false, false, 0, 0⟩] && getF t (CD_BK_LSLOT_ARMED 0 0 6) == 0)) = true := by decide
theorem test_slot_not_due : (goes (exec (.launchSlotAct k0 3) (puts [(CD_EPOCH_EPOCH 0, 4)] (slotted 3 0))) (fun t => plyState t 0 0 3 == 0 && getF t (CD_BK_LSLOT_ARMED 0 0 3) == 1)) = true := by decide +kernel
theorem wit_SlewGovernor_deferred : (slewOk (steep { launch with deferred := true }) 0 launch && goes (exec (.slewDeferredLaunch 0 7) (steep { launch with deferred := true })) (fun t => plyState t 0 0 3 == 1 && getPc t ⟨0, 0, 3⟩ == 0x400 && getF t (CH_LEDGER_STATE 0 7) == 2)) = true := by decide +kernel
theorem wit_SlewGovernor_successor : (epochReached (epochOf (steep launch) 0) launch.start && goes (exec (.successorLaunch 0 7) (steep { launch with pred := some 2, predDone := true })) (fun t => plyState t 0 0 3 == 1 && ((ledGet t 0 7).map (·.acted)) == some true)) = true := by decide +kernel
theorem wit_SlewGovernor_successor_deferred : (goes (exec (.successorLaunch 0 7) (steep { big with pred := some 2, predDone := true })) (fun t => plyState t 0 0 3 == 0 && getF t (CH_SLEW_STS_DEFER 0) == 1)) = true := by decide +kernel
theorem test_slew_still_held : (goes (exec (.slewDeferredLaunch 0 7) (steep { big with deferred := true })) (fun t => plyState t 0 0 3 == 0 && getF t (CH_LEDGER_STATE 0 7) == 1)) = true := by decide +kernel
def estimates : State := dieMod run 0 (fun d => { d with powerP := [100] })
theorem wit_SlewGovernor_estimate : (getF estimates (CH_SLEW_CTL_LIM 0) == 500 && goes (exec (.slewEstimate 0 601) estimates) (fun t => getF t (CH_SLEW_STS_P_EST 0) == 601 && getF t (CH_SLEW_STS_OVER 0) == 1 && reps t == [(0x401, 1)])) = true := by decide
theorem test_slew_estimate_at_limit : (goes (exec (.slewEstimate 0 600) estimates) (fun t => getF t (CH_SLEW_STS_OVER 0) == 0 && reps t == [] && (dieGet t 0).powerP == [600, 100])) = true := by decide

/-! ## Ply and knot commands, spans, admission, promises -/

theorem wit_PlyAndKnotCommands_resume : (takes live (CD_PLY_CMD 0 0 0) 1 && goes (exec (.resume p0) (puts [(CD_PLY_STS_STATE 0 0 0, 3), (CD_PLY_STS_TH 0 0 0, 1)] live)) (fun t => getF t (CD_PLY_CMD_STATUS 0 0 0) == 2 && plyState t 0 0 0 == 1 && getF t (CD_PLY_STS_TH 0 0 0) == 0)) = true := by decide
theorem wit_PlyAndKnotCommands_resume_refused : (goes (exec (.resume p0) live) (fun t => getF t (CD_PLY_CMD_STATUS 0 0 0) == 3 && plyState t 0 0 0 == 1)) = true := by decide
theorem wit_PlyAndKnotCommands_resume_held : (takes (plyMod live 0 0 0 (fun x => { x with trap := some ⟨2, 0, 0⟩ })) (CD_PLY_CMD 0 0 0) 1 && goes (exec (.resume p0) (plyMod live 0 0 0 (fun x => { x with trap := some ⟨2, 0, 0⟩ }))) (fun t => getF t (CD_PLY_CMD_STATUS 0 0 0) == 1 && t.boot.held == [((CD_PLY_CMD 0 0 0), true)])) = true := by decide
theorem wit_PlyAndKnotCommands_abort : (takes live (CD_PLY_CMD 0 0 0) 2 && sbHeld live 0 0 0 == 0 && goes (exec (.abort p0) live) (fun t => getF t (CD_PLY_CMD_STATUS 0 0 0) == 2 && plyState t 0 0 0 == 0)) = true := by decide +kernel
theorem wit_PlyAndKnotCommands_abort_waits : (takes (put [(CD_BK_SB 0 0 3, 1)] live) (CD_PLY_CMD 0 0 0) 2 && goes (exec (.abort p0) (put [(CD_BK_SB 0 0 3, 1)] live)) (fun t => getF t (CD_PLY_CMD_STATUS 0 0 0) == 1 && (plyGet t 0 0 0).aborting && !mayIssue t p0)) = true := by decide +kernel
theorem wit_PlyAndKnotCommands_abort_idle : (takes live (CD_PLY_CMD 0 0 1) 2 && goes (exec (.abort ⟨0, 0, 1⟩) live) (fun t => getF t (CD_PLY_CMD_STATUS 0 0 1) == 3)) = true := by decide
theorem wit_PlyAndKnotCommands_knot : (takes live (CD_KNOT 0 0x123) (5 + 0x10000) && goes (exec (.knotRegisterWrite 0 0x123 (5 + 0x10000)) live) (fun t => getF t (kCount 0x123) == 5 && getF t (kTarget 0x123) == 1)) = true := by decide
theorem wit_PlyAndKnotCommands_spanKnot : (takes live (HP_SKNOT 5) (2 ^ 52) && goes (exec (.spanKnotRegisterWrite 5 (2 ^ 52)) live) (fun t => tabGet (fun _ => 0) (dieGet t 2).skMirror 5 == 1)) = true := by decide +kernel
theorem wit_PlyAndKnotCommands_directory : (takes live (CD_DIR 0) 0 && goes (exec (.directoryWrite 0 0) (brickMod live 0 0 (fun x => { x with dirCache := [(9, 1)] }))) (fun t => (brickGet t 0 0).dirCache.isEmpty)) = true := by decide
/-- The capability for a span of dies 0 and 1 is there; no ply of theirs runs. -/
def spans : State := puts [(HP_CAP_EFF_SPAN01, 1), (CD_PLY_STS_STATE 0 0 0, 0)] live
def formW (c : Nat) : Word := cmdWord [(HP_SPAN_CMD_OP, 1), (HP_SPAN_CMD_SPAN, c)]
def dissW (c f : Nat) : Word := cmdWord [(HP_SPAN_CMD_OP, 2), (HP_SPAN_CMD_SPAN, c), (HP_SPAN_CMD_FORCE, f)]
/-- Span 1 is formed. -/
def formed : State := puts [(spanFld 1, 1), (HP_SKNOT_SPAN 5, 1), (HP_SKNOT_ARMED 5, 1)] spans

theorem wit_Spans_refused : (takes live HP_SPAN_CMD (formW 3) && formRefusal live 3 == some 1 && goes (exec (.spanForm 3) live) (fun t => getF t HP_SPAN_CMD_STATUS == 3 && getF t HP_SPAN_CMD_REASON == 1)) = true := by decide
theorem wit_Spans_form : (takes spans HP_SPAN_CMD (formW 1) && formRefusal spans 1 == none) = true := by decide +kernel
theorem wit_Spans_dissolve_unformed : (takes spans HP_SPAN_CMD (dissW 1 0) && goes (exec (.spanDissolve 1 false) spans) (fun t => getF t HP_SPAN_CMD_REASON == 5)) = true := by decide
theorem wit_Spans_dissolve_live : (liveLed (getF (launched launch formed) (CH_LEDGER_STATE 0 7)) && spanMembers 1 == [0, 1] && goes (exec (.spanDissolve 1 false) (launched launch formed)) (fun t => getF t HP_SPAN_CMD_REASON == 6)) = true := by decide +kernel
theorem wit_Spans_dissolve : (takes formed HP_SPAN_CMD (dissW 1 1) && getF formed (spanFld 1) != 0 && (ledAll formed 0).isEmpty && (ledAll formed 1).isEmpty) = true := by decide +kernel

/-- A request at the front of channel 0's admission queue, which admits. -/
def asks (r : Nat) (s : State) : State := dieMod (puts [(CH_ADM_CTL_EN 0, 1)] s) 0 (fun d => { d with admQ := [⟨.submit, 0, some r⟩] })
/-- A promised launch of ply 0 of brick 5, 1,000 steps, with a deadline of 1 ms. -/
def launchReq : Nat := bytes [(0, 1, 1), (1, 1, 1), (4, 4, 0x77), (8, 4, 1000000), (24, 2, 5), (26, 2, 5), (28, 1, 1), (30, 2, 10), (32, 4, 0x400), (36, 4, 1000), (44, 1, 0xFF)]
/-- A best-effort transfer whose first descriptor lies at 0x1000 of brick 0's store. -/
def dmaReq : Nat := bytes [(0, 1, 2), (24, 8, storePa 0 0 0x1000), (32, 8, 4096), (40, 1, 1), (41, 1, 0xFF)]
def ropeReq : Nat := bytes [(0, 1, 3), (24, 8, storePa 0 0 0x1000), (32, 8, 64), (40, 1, 1), (41, 1, 4), (42, 1, 0xFF)]
def withdrawReq : Nat := bytes [(0, 1, 6), (22, 2, 7)]
/-- Rope 1 is ACTIVE and its engine admitted. -/
def ropes : State := puts [(OE_ROPE_STS_STATE 0, 3), (HP_CAP_EFF_OE_ADMITTED, 0xFF)] live
def resp (t : State) : Nat × Nat × Nat := (bitsOf (rd t (CH_ADM_RESP0 0)) 12 12, bitsOf (rd t (CH_ADM_RESP0 0)) 31 16, bitsOf (rd t (CH_ADM_RESP0 0)) 63 32)

theorem wit_AdmissionRequests_refused : (refusal (asks launchReq (puts [(CD_PLY_STS_STATE 0 5 0, 1)] live)) 0 launchReq == some (3, 1) && kindFor 1 launchReq
    && refusal (puts [(CH_ADM_CTL_EN 0, 0)] (asks dmaReq live)) 0 dmaReq == some (11, 0) && refusal (asks (dmaReq + 2 ^ 8 * 2) live) 0 (dmaReq + 2 ^ 8 * 2) == some (12, 1)
    && refusal (asks ropeReq live) 0 ropeReq == some (6, 0xFFFFFFFF) && refusal (asks withdrawReq live) 0 withdrawReq == some (13, 0)
    && goes (exec (.admissionRopeTransfer 0) (asks ropeReq live)) (fun t => (dieGet t 0).admQ.isEmpty && t.draws == 1)) = true := by decide +kernel
theorem wit_AdmissionRequests_launch : (refusal (asks launchReq live) 0 launchReq == none && goes (exec (.admissionLaunch 0) (asks launchReq live)) (fun t => (resp t).1 == 1 && getF t (CH_LEDGER_STATE 0 0) == 1 && getF t (CH_LEDGER_TAG 0 0) == 0x77 && getF t (CD_BK_LSLOT_ARMED 0 5 0) == 1 && getF t (CD_BK_LSLOT_EPOCH 0 5 0) == 200 && getF t (CH_LEDGER_DEADLINE 0 0) == 1000000)) = true := by decide +kernel
theorem wit_AdmissionRequests_dma : (refusal (asks dmaReq live) 0 dmaReq == none && readable live (storePa 0 0 0x1000) && goes (exec (.admissionDmaTransfer 0) (asks dmaReq live)) (fun t => resp t == (1, 0, 0) && ((dieGet t 0).dmaQ.map (fun d => (d.addr, d.entry))) == [(storePa 0 0 0x1000, some 0)] && getF t (CD_DMA_ENG_RSVD 0 0) == 1)) = true := by decide +kernel
theorem wit_AdmissionRequests_rope : (refusal (asks ropeReq ropes) 0 ropeReq == none && goes (exec (.admissionRopeTransfer 0) (asks ropeReq ropes)) (fun t => resp t == (1, 0, 0) && (dieGet t 0).dmaQ.length == 1)) = true := by decide +kernel
theorem wit_AdmissionRequests_withdraw : (refusal (asks withdrawReq (launched launch live)) 0 withdrawReq == none && goes (exec (.withdraw 0) (asks withdrawReq (launched launch live))) (fun t => resp t == (1, 0, 0) && getF t (CH_LEDGER_STATE 0 7) == 6 && getF t (CH_LEDGER_END 0 7) == 9)) = true := by decide +kernel
theorem test_promise_below_its_model_time : (refusal (asks (launchReq - 900000 * 2 ^ 64) live) 0 (launchReq - 900000 * 2 ^ 64) == some (1, 200) && goes (exec (.admissionLaunch 0) (asks (launchReq - 900000 * 2 ^ 64) live)) (fun t => (dieGet t 0).admQ.isEmpty && t.draws == 1)) = true := by decide +kernel
/-- Entry 7 is an ACTIVE promise whose deadline is epoch 6; the epoch is 6. -/
def due (x : LedX) : State := puts [(CH_LEDGER_STATE 0 7, 2), (CH_LEDGER_P 0 7, 1), (CH_LEDGER_DEADLINE 0 7, 6), (CD_EPOCH_EPOCH 0, 6)] (launched x live)
/-- Entry 7 is COMPLETED at epoch 5. -/
def ended (x : LedX) : State := puts [(CH_LEDGER_STATE 0 7, 3), (CH_LEDGER_END 0 7, 1)] (due { x with stopped := some 5 })

theorem wit_PromiseEnds_deadline : (epochReached (epochOf (due launch) 0) 6 && !epochReached (epochOf (puts [(CD_EPOCH_EPOCH 0, 5)] (due launch)) 0) 6 && goes (exec (.deadlineExpiry 0 7) (due launch)) (fun t => getF t (CH_LEDGER_STATE 0 7) == 5 && getF t (CH_LEDGER_END 0 7) == 2 && getF t (CH_ADM_STS_BROKEN 0) == 1)) = true := by decide +kernel
theorem wit_PromiseEnds_record : (populated 0 && !paLost (ended launch) 0 && goes (exec (.promiseRecord 0 7) (ended launch)) (fun t => getF t (CH_LEDGER_STATE 0 7) == 0 && (ledGet t 0 7).isNone && getF t (CH_ADM_PRQ_PTR_TAIL 0) == 1 && readLE t 0 3 == 7 + 3 * 2 ^ 16 && readLE t 24 8 == 5 + 2 ^ 48)) = true := by decide +kernel
theorem wit_PromiseEnds_full : (ringSize 7 (getF (ended launch) (CH_ADM_PRQ_SIZE 0)) == 128 && goes (exec (.promiseRecord 0 7) (puts [(CH_ADM_PRQ_PTR_HEAD 0, 1)] (ended launch))) (fun t => getF t (CH_ADM_STS_PRQ_FULL 0) == 1 && (((ledGet t 0 7).map (·.noted)) == some true) && getF t (CH_LEDGER_STATE 0 7) == 3)) = true := by decide +kernel
theorem wit_PromiseEnds_full_again : (goes (exec (.promiseRecord 0 7) (puts [(CH_ADM_PRQ_PTR_HEAD 0, 1)] (ended { launch with noted := true }))) (fun t => getF t (CH_ADM_STS_PRQ_FULL 0) == 0 && getF t (CH_LEDGER_STATE 0 7) == 3)) = true := by decide +kernel

/-! ## Pin sets, translation, DMA -/

/-- A page table of address space 3 in die 0's bed: page 1 maps to 0x30000 of HBM, readable and writable; page 2 is not valid. Both pools have 4 pages. -/
def paged : State := writeLE (writeLE (writeLE (puts [(CD_HBM_STS_STATE 0 0, 3), (CH_PIN_POOL_COUNT 0 0, 4), (CH_PIN_POOL_BASE 0 0, 0x1000004), (CH_PIN_POOL_COUNT 0 1, 4),
  (CH_PIN_POOL_BASE 0 1, 0x10)] (put [(CH_XLT_ROOT 0 3, 0x10000000001)] live)) 0x10000000000 8 0x10000010001) 0x10000010000 8 0x10000020001) 0x10000020008 8 0x3000F
/-- A pin request for tier `k` under handle 9 whose range list, one page at 0x10000 of address space 3, lies at 0x1000 of brick 0's store. -/
def pinReq (k : Nat) : Nat := bytes [(0, 1, 4), (24, 8, storePa 0 0 0x1000), (32, 4, 1), (36, 1, 9), (37, 1, k)]
def unpinReq : Nat := bytes [(0, 1, 5), (36, 1, 9)]
def ranged : State := writeLE paged (storePa 0 0 0x1000) 16 (0x10000 + 2 ^ 64 + 3 * 2 ^ 96)
/-- A pin set of that page, to be moved to the bed. -/
def pin9 : PinX := ⟨1, [(0x10000, 1, 3)], [], [⟨3, 0x10000, 0x10000020008, 0x30000, 0⟩], [], false, false, none, .submit⟩
def pinned (p : PinX) : State := pinPut (asks 0 ranged) 0 9 (some p)

theorem wit_PinSets_pin : (refusal (asks (pinReq 1) ranged) 0 (pinReq 1) == none && readable ranged (storePa 0 0 0x1000) && goes (exec (.pin 0) (asks (pinReq 1) ranged)) (fun t => (dieGet t 0).admBusy && ((pinGet t 0 9).map (fun p => (p.todo, p.complete))) == some ([⟨3, 0x10000, 0x10000020008, 0x30000, 0⟩], false))) = true := by decide +kernel
theorem wit_PinSets_pin_in_place : (refusal (asks (pinReq 2) ranged) 0 (pinReq 2) == none && goes (exec (.pin 0) (asks (pinReq 2) ranged)) (fun t => ((pinGet t 0 9).map (fun p => (p.todo, p.locked))) == some ([], [(3, 0x10000)]))) = true := by decide +kernel
theorem wit_PinSets_refused : (refusal (asks (pinReq 0) ranged) 0 (pinReq 0) == some (12, 37) && refusal (asks unpinReq ranged) 0 unpinReq == some (12, 36) && goes (exec (.pin 0) (asks (pinReq 0) ranged)) (fun t => (dieGet t 0).admQ.isEmpty)) = true := by decide +kernel
theorem wit_PinSets_unpin : (refusal (asks unpinReq (pinPut ranged 0 9 (some { pin9 with complete := true }))) 0 unpinReq == none && goes (exec (.unpin 0) (asks unpinReq (pinPut ranged 0 9 (some { pin9 with complete := true })))) (fun t => (dieGet t 0).admBusy && ((pinGet t 0 9).map (·.unpin)) == some true)) = true := by decide +kernel
theorem wit_PinSets_move : (memReady ranged 0x30000 && (match walk (dropPage (pinned pin9) 0 3 0x10000) 0 3 0x10000 false with | .ok pa _ => pa == 0x30000 | _ => false) && goes (exec (.pinPageMove 0 9) (writeLE (pinned pin9) 0x30010 4 0x1234)) (fun t => ((pinGet t 0 9).map (fun p => (p.todo, p.moved))) == some ([], [⟨3, 0x10000, 0x10000020008, 0x30000, 0⟩]) && readLE t 0x10000040010 4 == 0x1234 && readLE t 0x10000020008 8 == 0x1000004000F)) = true := by decide +kernel
theorem wit_PinSets_complete : (goes (exec (.pinComplete 0 9) (pinned { pin9 with todo := [] })) (fun t => resp t == (1, 0, 0) && ((pinGet t 0 9).map (·.complete)) == some true)) = true := by decide +kernel
theorem wit_PinSets_abandoned : (goes (exec (.pinAbandoned 0 9) (pinned { pin9 with failed := some 5 })) (fun t => (pinGet t 0 9).isNone && ((dieGet t 0).faultQ.map (·.body)) == [5])) = true := by decide +kernel
theorem wit_PinSets_released : (goes (exec (.unpinComplete 0 9) (pinned { pin9 with todo := [], complete := true, unpin := true })) (fun t => (pinGet t 0 9).isNone)) = true := by decide +kernel

/-- A physical copy of 64 bytes from 0x100 of brick 0's store to 0x200 of brick 1's. -/
def copy (o len next : Nat) : QDesc := ⟨bytes [(0, 1, o), (1, 1, 2), (8, 8, storePa 0 0 0x100), (16, 8, storePa 0 1 0x200), (24, 8, len), (40, 8, next)], 0x5000, none, 5, none, 0, 0, 0, none⟩
def queued (d : QDesc) : State := dieMod live 0 (fun x => { x with dmaQ := [d] })
/-- Engine 2 runs. -/
def engine (x : EngX) (s : State) : State := puts [(CD_DMA_ENG_STATE 0 2, 1)] (engPut s 0 2 (some x))
def block (d : QDesc) (l : Leg) (bad : Nat) (ps : List Piece) : EngX := ⟨d, ps, none, bad, l, false, false⟩
def piece (dst : Nat) : Piece := ⟨dst, List.replicate 64 7, false⟩
def eng2 (t : State) : Nat × Nat × Nat := (getF t (CD_DMA_ENG_STATE 0 2), getF t (CD_DMA_ENG_KIND 0 2), getF t (CD_DMA_ENG_POS 0 2))
/-- A virtual copy. -/
def virt : QDesc := ⟨bytes [(0, 1, 1), (2, 1, 3), (8, 8, 0x10000), (16, 8, 0x20000), (24, 8, 64)], 0x5000, none, 5, none, 0, 0, 0, none⟩

theorem wit_DmaEngines_start : ((copy 1 64 0).ok && firstIdx (mayTake (queued (copy 1 64 0)) 0 2) [copy 1 64 0] == some 0 && goes (exec (.dmaDescriptorStart 0 2) (queued (copy 1 64 0))) (fun t => eng2 t == (1, 0, 0) && getF t (CD_DMA_ENG_TICKET 0 2) == 5 && (dieGet t 0).dmaQ.isEmpty)) = true := by decide +kernel
theorem wit_DmaEngines_malformed : (!(copy 0 64 0).ok && goes (exec (.dmaDescriptorStart 0 2) (queued (copy 0 64 0))) (fun t => (eng2 t).1 == 3 && (eng2 t).2.1 == 10 && (dieGet t 0).faultQ.length == 1)) = true := by decide +kernel
theorem wit_DmaEngines_send : (goes (exec (.dmaBlockSend 0 2 .none) (engine (block (copy 1 64 0) .build 0 []) live)) (fun t => ((engGet t 0 2).map (fun x => (x.leg, x.taken.map (·.dst)))) == some (.atDest, [storePa 0 1 0x200]))) = true := by decide +kernel
theorem wit_DmaEngines_send_partial : (goes (exec (.dmaBlockSend 0 2 .none) (engine (block virt .build 0 []) paged)) (fun t => ((engGet t 0 2).map (·.miss)) == some (some (0x10000, false)) && (eng2 t).1 == 1)) = true := by decide +kernel
theorem wit_DmaEngines_put : (ownRank live == 0 && goes (exec (.dmaBlockSend 0 2 .none) (engine (block { copy 5 64 0 with raw := (copy 5 64 0).raw } .build 0 []) live)) (fun t => ((engGet t 0 2).map (·.leg)) == some .atDest)) = true := by decide +kernel
theorem wit_DmaEngines_segment : (ipPath live 0 1 == some 2 && goes (exec (.dmaBlockSegment 0 2) (engine (block (copy 1 64 0) .toDie 0 [piece (storePa 1 0 0)]) live)) (fun t => ((engGet t 0 2).map (·.leg)) == some .atDest && getF t (CD_GW_CNT_SEGMENTS 0 1) == 1)) = true := by decide +kernel
theorem wit_DmaEngines_walk : (goes (exec (.translationWalk 0 2) (engine { block virt .build 0 [] with miss := some (0x10040, false) } paged)) (fun t => ((engGet t 0 2).map (·.miss)) == some none && (dieGet t 0).hubCache.length == 1 && (eng2 t).1 == 1)) = true := by decide +kernel
theorem wit_DmaEngines_walk_fault : (goes (exec (.translationWalk 0 2) (engine { block virt .build 0 [] with miss := some (0x20000, true) } paged)) (fun t => eng2 t == (3, 1, 0) && (dieGet t 0).faultQ.length == 1)) = true := by decide +kernel
theorem wit_DmaEngines_fetch : (readable live (storePa 0 0 0x1000) && goes (exec (.descriptorFetch 0 2) (engine { block (copy 1 64 (storePa 0 0 0x1000)) .build 0 [] with nextWait := true } (writeLE live (storePa 0 0 0x1000) 64 (copy 1 64 0).raw))) (fun t => eng2 t == (1, 0, 0) && ((engGet t 0 2).map (fun x => (x.nextWait, x.d.len, x.d.addr))) == some (false, 64, storePa 0 0 0x1000))) = true := by decide +kernel
theorem wit_DmaBlocks_mismatch : ((injSlot live 4 2).isNone && goes (exec (.dmaBlockCommit 0 2 false .none) (engine (block (copy 1 64 0) .atDest 0 [piece (storePa 0 1 0x200)]) live)) (fun t => ((engGet t 0 2).map (·.bad)) == some 1 && getF t (CD_DMA_ENG_RESENT 0 2) == 1)) = true := by decide +kernel
theorem wit_DmaBlocks_eighth : (goes (exec (.dmaBlockCommit 0 2 false .none) (engine (block (copy 1 64 0) .atDest 7 [piece (storePa 0 1 0x200)]) live)) (fun t => (eng2 t).1 == 3 && (eng2 t).2.1 == 6 && reps t == [(0x504, 1)])) = true := by decide +kernel
theorem wit_DmaBlocks_next : ((copy 1 0x2000 0).blockEnd 0 == 0xE00 && goes (exec (.dmaBlockCommit 0 2 true .none) (engine (block (copy 1 0x2000 0) .atDest 0 [piece (storePa 0 1 0x200)]) live)) (fun t => eng2 t == (1, 0, 0xE00) && getF t (CD_DMA_ENG_BLOCK 0 2) == 1 && readLE t (storePa 0 1 0x200) 2 == 0x707)) = true := by decide +kernel
theorem wit_DmaBlocks_last : (goes (exec (.dmaBlockCommit 0 2 true .none) (engine (block (copy 1 64 0) .atDest 0 [piece (storePa 0 1 0x200)]) live)) (fun t => (engGet t 0 2).isNone && (eng2 t).1 == 0 && readLE t (storePa 0 1 0x23E) 4 == 0x707)) = true := by decide +kernel
theorem wit_DmaBlocks_put_unpinned : ((pinRange live 0 0 (storePa 0 1 0x200) 64).isNone && goes (exec (.dmaBlockCommit 0 2 true .none) (engine (block (copy 5 64 0) .atDest 0 [piece 0x10000]) live)) (fun t => (eng2 t).1 == 3 && (eng2 t).2.1 == 7 && t.mem == live.mem)) = true := by decide +kernel
def parked : State := puts [(CD_DMA_ENG_STATE 0 2, 2)] (engine (block (copy 1 64 0) .build 0 []) live)
def dmaW (o : Nat) : Word := cmdWord [(CH_DMA_CMD_OP 0, o), (CH_DMA_CMD_ENGINE 0, 2)]
theorem wit_DmaBlocks_resume : (takes parked (CH_DMA_CMD 0) (dmaW 1) && goes (exec (.dmaResume 0 2) parked) (fun t => (eng2 t).1 == 1 && getF t (CH_DMA_CMD_STATUS 0) == 2)) = true := by decide +kernel
theorem wit_DmaBlocks_abort : (takes parked (CH_DMA_CMD 0) (dmaW 2) && goes (exec (.dmaAbort 0 2) parked) (fun t => (eng2 t).1 == 3 && (eng2 t).2.1 == 12 && getF t (CH_DMA_CMD_STATUS 0) == 2 && (dieGet t 0).faultQ.length == 1)) = true := by decide +kernel
theorem wit_DmaBlocks_resume_idle : (takes live (CH_DMA_CMD 0) (dmaW 1) && goes (exec (.dmaResume 0 2) live) (fun t => getF t (CH_DMA_CMD_STATUS 0) == 3)) = true := by decide +kernel
theorem wit_DmaBlocks_abort_idle : (takes live (CH_DMA_CMD 0) (dmaW 2) && goes (exec (.dmaAbort 0 2) live) (fun t => getF t (CH_DMA_CMD_STATUS 0) == 3)) = true := by decide +kernel
def faulty (a : After) (s : State) : State := dieMod s 0 (fun d => { d with faultQ := [⟨0xABC, a, false⟩] })
theorem wit_DmaBlocks_record : (populated 0 && !paLost live 0 && goes (exec (.faultQueueRecord 0) (faulty .none live)) (fun t => readLE t 0 2 == 0xABC && getF t (CH_FQ_PTR_TAIL 0) == 1 && getF t (CH_FQ_STS_RECORDS 0) == 1 && (dieGet t 0).faultQ.isEmpty)) = true := by decide +kernel
theorem wit_DmaBlocks_record_park : (goes (exec (.faultQueueRecord 0) (faulty (.park 2) (puts [(CD_DMA_ENG_STATE 0 2, 3)] live))) (fun t => (eng2 t).1 == 2)) = true := by decide +kernel
theorem wit_DmaBlocks_record_full : (goes (exec (.faultQueueRecord 0) (faulty .none (puts [(CH_FQ_PTR_HEAD 0, 1)] live))) (fun t => getF t (CH_FQ_STS_FULL 0) == 1 && ((dieGet t 0).faultQ.map (·.noted)) == [true])) = true := by decide +kernel
theorem wit_DmaBlocks_batch : (ipPath live 0 1 == some 2 && !gatewayHeld live 0 && goes (exec (.messageBatch 0 1 2) { live with flights := [⟨0, 0, .outbox, ⟨0, mkTag 0 0 0 0 0 0 0 (2 ^ 25)⟩⟩] }) (fun t => t.flights.map (·.at_) == [.gateway 1] && getF t (CD_GW_CNT_SEGMENTS 0 1) == 1)) = true := by decide +kernel

def xent (asid va locks : Nat) (g : Bool) : XEnt := ⟨asid, g, va, 65536, 0x30000, true, true, locks⟩
/-- Three cached translations, the second locked, the third global. -/
def cached : State := dieMod live 0 (fun d => { d with hubCache := [xent 3 0x10000 0 false, xent 3 0x20000 1 false, xent 4 0x30000 0 true] })
def invW (o : Nat) (l : List (Fld × Nat)) : Word := cmdWord ((CH_XLT_INV_OP 0, o) :: l)
def hub0 (t : State) : List Nat := (dieGet t 0).hubCache.map (·.va)

theorem wit_TranslationAndHbm_page : (takes cached (CH_XLT_INV 0) (invW 1 [(CH_XLT_INV_ASID 0, 3), (CH_XLT_INV_VA 0, 1)]) && goes (exec (.invPage 0 3 0x10008) cached) (fun t => hub0 t == [0x20000, 0x30000] && getF t (CH_XLT_INV_STATUS 0) == 1 && (dieGet t 0).invWait == some [])) = true := by decide +kernel
theorem wit_TranslationAndHbm_asid : (takes cached (CH_XLT_INV 0) (invW 2 [(CH_XLT_INV_ASID 0, 3)]) && goes (exec (.invAsid 0 3) cached) (fun t => hub0 t == [0x20000, 0x30000] && getF t (CH_XLT_INV_LOCKED_SKIP 0) == 1)) = true := by decide +kernel
theorem wit_TranslationAndHbm_global : (takes cached (CH_XLT_INV 0) (invW 3 []) && goes (exec (.invGlobal 0) cached) (fun t => hub0 t == [0x10000, 0x20000])) = true := by decide +kernel
theorem wit_TranslationAndHbm_all : (takes cached (CH_XLT_INV 0) (invW 4 []) && goes (exec (.invAll 0) cached) (fun t => hub0 t == [0x20000])) = true := by decide +kernel
theorem wit_TranslationAndHbm_complete : (goes (exec (.invComplete 0) (dieMod (puts [(CH_XLT_INV_STATUS 0, 1)] live) 0 (fun d => { d with invWait := some [] }))) (fun t => getF t (CH_XLT_INV_STATUS 0) == 2 && (dieGet t 0).invWait.isNone)) = true := by decide
theorem test_invalidation_waits : (goes (exec (.invComplete 0) (dieMod (puts [(CH_XLT_INV_STATUS 0, 1)] live) 0 (fun d => { d with invWait := some [5] }))) (fun t => getF t (CH_XLT_INV_STATUS 0) == 1)) = true := by decide
theorem wit_TranslationAndHbm_trained : (goes (exec (.hbmTraining 0 1 true) (writeLE (writeLE (puts [(CD_HBM_STS_STATE 0 1, 1)] live) 0x1000000000 1 7) 0xFFFFFFFFF 1 7)) (fun t => getF t (CD_HBM_STS_STATE 0 1) == 3 && readLE t 0x1000000000 1 == 0 && readLE t 0xFFFFFFFFF 1 == 7)) = true := by decide +kernel
theorem wit_TranslationAndHbm_failed : (goes (exec (.hbmTraining 0 1 false) (puts [(CD_HBM_STS_STATE 0 1, 1)] live)) (fun t => getF t (CD_HBM_STS_STATE 0 1) == 4 && reps t == [(0x501, 1)])) = true := by decide

/-! ## Pre-emption (R214-R220) -/

/-- A save, restore or cancel request for plies of brick 0 of die 0, with its area at 0x10000 of HBM, which a pin set covers. -/
def preReq (k pol mask slot : Nat) : Nat := bytes [(0, 1, k), (1, 1, pol), (2, 1, mask), (3, 1, 3), (8, 8, 0x10000), (16, 4, 100), (20, 1, slot)]
def preX (k pol mask : Nat) : PreX := ⟨preReq k pol mask 0, [], 0, [], [], 0⟩
/-- The pages 0x10000 to 0x13FFFF are pinned by physical and virtual address. -/
def areas : State := pinPut (dieMod ranged 0 (fun d => { d with hubCache := [⟨3, false, 0x10000, 2 ^ 21, 0x10000, true, true, 1⟩] })) 0 9
  (some { pin9 with ranges := [(0x10000, 19, 3)], locked := [(3, 0x10000)], todo := [], complete := true })
def wants (r : Nat) (s : State) : State := dieMod s 0 (fun d => { d with preQ := [⟨.submit, 0, some r⟩] })
/-- Request 4 is live in a state, for the plies of a mask. -/
def pre (st mask : Nat) (x : PreX) (s : State) : State := prePut (puts [(CH_PRE_REQ_STATE 0 4, st), (CH_PRE_REQ_PLIES 0 4, mask)] s) 0 4 (some x)
def preSt (t : State) : Nat × Nat := (getF t (CH_PRE_REQ_STATE 0 4), getF t (CH_PRE_REQ_KIND 0 4))

theorem wit_PreemptionRequests_refused : (preRefusal areas 0 (preReq 1 8 2 0) == some 3 && preRefusal areas 0 (preReq 3 0 0 64) == some 7 && (preRefusal areas 0 (preReq 2 8 0 0)).isNone && goes (exec (.preemptSave 0) (wants (preReq 1 8 2 0) areas)) (fun t => (dieGet t 0).preQ.isEmpty && t.draws == 1)) = true := by decide +kernel
theorem wit_PreemptionRequests_save : (preRefusal areas 0 (preReq 1 8 1 0) == none && goes (exec (.preemptSave 0) (wants (preReq 1 8 1 0) areas)) (fun t => getF t (CH_PRE_RESP_ACCEPTED 0) == 1 && getF t (CH_PRE_REQ_STATE 0 0) == 1 && getF t (CH_PRE_REQ_PLIES 0 0) == 1 && (plyGet t 0 0 0).marked)) = true := by decide +kernel
theorem wit_PreemptionRequests_restore : (preRefusal areas 0 (preReq 2 8 0 0) == none && goes (exec (.preemptRestore 0) (wants (preReq 2 8 0 0) areas)) (fun t => getF t (CH_PRE_REQ_STATE 0 0) == 6)) = true := by decide +kernel
theorem wit_PreemptionRequests_cancel : (goes (exec (.preemptCancel 0) (wants (preReq 3 0 0 4) (pre 1 1 (preX 1 8 1) (plyMod areas 0 0 0 (fun x => { x with marked := true }))))) (fun t => (preSt t).1 == 9 && !(plyGet t 0 0 0).marked)) = true := by decide +kernel
theorem wit_PreemptionRequests_limit : ((preX 1 12 1).force && epochReached 100 100 && goes (exec (.preemptForceLimit 0 4) (puts [(CD_EPOCH_EPOCH 0, 100)] (pre 1 1 (preX 1 12 1) areas))) (fun t => (plyGet t 0 0 0).saving)) = true := by decide +kernel
theorem wit_PreemptionRequests_limit_waiting : (goes (exec (.preemptForceLimit 0 4) (puts [(CD_EPOCH_EPOCH 0, 100)] (put [(CD_PLY_WAIT 0 0 0, 0x652), (CD_BK_SB 0 0 2, BitVec.ofNat 64 (1 + 7 * 8 + 3 * 2 ^ 37))] (puts [(CD_PLY_STS_STATE 0 0 0, 2)] (plyMod (pre 1 1 (preX 1 12 1) areas) 0 0 0 (fun x => { x with wait := some ⟨0, some 101⟩ })))))) (fun t => plyState t 0 0 0 == 1 && (plyGet t 0 0 0).saving && ((preGet t 0 4).map (·.waits)) == some [(0, 0x652, 1)] && getPc t p0 == 0x38)) = true := by decide +kernel
def stopped (st : Nat) : State := pre st 1 (preX 1 8 1) (plyMod areas 0 0 0 (fun x => { x with saving := true }))
theorem wit_PreemptionEvents_start : (saveReady (stopped 1) (preX 1 8 1) 1 && !saveReady (pre 1 1 (preX 1 8 1) areas) (preX 1 8 1) 1 && goes (exec (.saveStart 0 4) (stopped 1)) (fun t => (preSt t).1 == 2 && getF t (CH_PRE_REQ_STOPPED 0 4) == 1)) = true := by decide +kernel
theorem wit_PreemptionEvents_fault : (goes (exec (.saveFault 0 4 3) (stopped 2)) (fun t => preSt t == (3, 3) && reps t == [(0x505, 1)] && !(plyGet t 0 0 0).saving)) = true := by decide +kernel
theorem wit_PreemptionEvents_second_fault : (goes (exec (.saveFault 0 4 12) (stopped 4)) (fun t => preSt t == (5, 12) && reps t == [(0x506, 1)])) = true := by decide +kernel
theorem wit_PreemptionEvents_restore_fault : (getF (stopped 6) (CH_PRE_REQ_STATE 0 4) == 6 && !(dieGet (stopped 6) 0).hubAbsent) = true := by decide +kernel
theorem wit_PreemptionEvents_restore_bad : (!areaGood (stopped 6) 0 (preX 1 8 1) (areaHeader (stopped 6) 0 (preX 1 8 1)) && (injSlot (stopped 6) 8 0).isNone && goes (exec (.restoreComplete 0 4 0) (stopped 6)) (fun t => (preSt t).1 == 8)) = true := by decide +kernel

/-- R218: a save area whose header carries the CRC `c`; request 4 restores ply 0 from it. -/
def restoring (c : Nat) : State := writeLE (stopped 6) 0x10000 64 (65537 + c * 2 ^ 256)

theorem readBytes_after (l : List Byte) (s : State) (pa : Nat) : ∀ (n a : Nat), pa + l.length ≤ a → readBytes (writeBytes s pa l) a n = readBytes s a n := by
  intro n
  induction n with
  | zero => intro a _; rfl
  | succ n ih =>
    intro a h
    simp only [readBytes]
    rw [memGet_writeBytes_out l s pa a (.inr h), ih (a + 1) (by omega)]

theorem crc32cBit_lt (c : Nat) (h : c < 2 ^ 32) : crc32cBit c < 2 ^ 32 := by
  unfold crc32cBit
  split
  · exact Nat.xor_lt_two_pow (by omega) (by decide)
  · omega

theorem crc32cFrom_lt (l : List Byte) : ∀ c, c < 2 ^ 32 → crc32cFrom c l < 2 ^ 32 := by
  induction l with
  | nil => intro c h; exact h
  | cons b t ih =>
    intro c h
    refine ih _ ?_
    iterate 8 refine crc32cBit_lt _ ?_
    exact Nat.xor_lt_two_pow h (Nat.lt_of_lt_of_le b.isLt (by decide))

theorem crc32c_lt (l : List Byte) : crc32c l < 2 ^ 32 := Nat.xor_lt_two_pow (crc32cFrom_lt l _ (by decide)) (by decide)

theorem restoring_pa (c : Nat) : areaPa (restoring c) 0 (preX 1 8 1) 0 false = some 0x10000 := rfl

theorem areaBody_restoring (c : Nat) : areaBody (restoring c) 0 (preX 1 8 1) false = readBytes (stopped 6) 0x10040 (65536 - 64) := by
  have h : areaBody (restoring c) 0 (preX 1 8 1) false = (match areaPa (restoring c) 0 (preX 1 8 1) 0 false with
    | some pa => readBytes (restoring c) (pa + 64) (65536 - 64) | none => []) ++ [] := rfl
  rw [h, restoring_pa, List.append_nil]
  exact readBytes_after _ _ _ _ _ (by simp [leBytes])

theorem areaHeader_restoring (c : Nat) : areaHeader (restoring c) 0 (preX 1 8 1) = (65537 + c * 2 ^ 256) % 256 ^ 64 := by
  unfold areaHeader
  rw [restoring_pa]
  have h := readBytes_writeBytes (leBytes 64 (65537 + c * 2 ^ 256)) (stopped 6) 0x10000
  rw [leBytes_length] at h
  exact (congrArg leVal h).trans (leVal_leBytes _ _)

theorem writeBytes_mem (l : List Byte) : ∀ (s : State) (pa : Nat), writeBytes s pa l = { s with mem := (writeBytes s pa l).mem } := by
  induction l with
  | nil => intro s pa; rfl
  | cons b t ih => intro s pa; exact ih (memPut s pa b) (pa + 1)

theorem restoring_regs (c : Nat) : (restoring c).regs = (stopped 6).regs := writeBytes_regs _ _ _

theorem restoring_slot (c : Nat) : injSlot (restoring c) 8 0 = none := by
  have h : injSlot (stopped 6) 8 0 = none := by decide +kernel
  simpa only [injSlot, getF, rd, restoring_regs] using h

theorem restoring_die (c : Nat) : dieGet (restoring c) 0 = dieGet (stopped 6) 0 := by
  rw [dieGet, dieGet, restoring, writeLE, writeBytes_mem]

theorem restoring_hub (c : Nat) : (restoring c).hub = (stopped 6).hub := by rw [restoring, writeLE, writeBytes_mem]

theorem restoring_header (c : Nat) (hc : c < 2 ^ 32) : areaHeader (restoring c) 0 (preX 1 8 1) = 65537 + c * 2 ^ 256 := by
  have hl : 65537 + c * 2 ^ 256 < 256 ^ 64 := by
    have : 65537 + c * 2 ^ 256 < (c + 1) * 2 ^ 256 := by rw [Nat.succ_mul, Nat.add_comm]; exact Nat.add_lt_add_left (by decide) _
    exact Nat.lt_of_lt_of_le this (Nat.le_trans (Nat.mul_le_mul_right _ hc) (by decide))
  rw [areaHeader_restoring, Nat.mod_eq_of_lt hl]

theorem areaGood_of (s : State) (n : Nat) (x : PreX) (hd : Nat) (h0 : byteN hd 0 1 = 1) (h1 : byteN hd 1 1 = 0) (h8 : byteN hd 8 8 = s.hub.fuses.uid)
    (h32 : byteN hd 32 4 = crc32c (areaBody s n x false)) : areaGood s n x hd = true := by
  unfold areaGood
  rw [h0, h1, h8, h32]
  simp [bitN]

theorem restoring_good (c : Nat) (hc : c < 2 ^ 32) (hd : c = crc32c (readBytes (stopped 6) 0x10040 (65536 - 64))) :
    areaGood (restoring c) 0 (preX 1 8 1) (areaHeader (restoring c) 0 (preX 1 8 1)) = true := by
  have h0 : byteN (65537 + c * 2 ^ 256) 0 1 = 1 := by unfold byteN; omega
  have h1 : byteN (65537 + c * 2 ^ 256) 1 1 = 0 := by unfold byteN; omega
  have h8 : byteN (65537 + c * 2 ^ 256) 8 8 = 0 := by unfold byteN; omega
  have h32 : byteN (65537 + c * 2 ^ 256) 32 4 = c := by unfold byteN; omega
  rw [restoring_header c hc]
  exact areaGood_of _ _ _ _ h0 h1 (by rw [h8, restoring_hub]; decide +kernel) (by rw [h32, areaBody_restoring, ← hd])

theorem restoring_policy (c : Nat) (hc : c < 2 ^ 32) : bitN (byteN (areaHeader (restoring c) 0 (preX 1 8 1)) 1 1) 1 = 0 := by
  have h1 : byteN (65537 + c * 2 ^ 256) 1 1 = 0 := by unfold byteN; omega
  rw [restoring_header c hc, h1]; rfl

theorem wit_PreemptionEvents_restore_good : ∃ s pa, getF s (CH_PRE_REQ_STATE 0 4) = 6 ∧ (dieGet s 0).hubAbsent = false ∧ injSlot s 8 0 = none
    ∧ areaGood s 0 (preX 1 8 1) (areaHeader s 0 (preX 1 8 1)) = true ∧ areaPa s 0 (preX 1 8 1) 0 false = some pa
    ∧ bitN (byteN (areaHeader s 0 (preX 1 8 1)) 1 1) 1 = 0 ∧ (dieGet s 0).dmaQ.length < 4096 := by
  obtain ⟨c, hd⟩ : ∃ c, c = crc32c (readBytes (stopped 6) 0x10040 (65536 - 64)) := ⟨_, rfl⟩
  have hc : c < 2 ^ 32 := hd ▸ crc32c_lt _
  refine ⟨restoring c, 0x10000, ?_, ?_, restoring_slot c, restoring_good c hc hd, restoring_pa c, restoring_policy c hc, ?_⟩
  · rw [getF, rd, restoring_regs]; decide +kernel
  · rw [restoring_die]; decide +kernel
  · rw [restoring_die]; decide +kernel
theorem wit_PreemptionEvents_save : (getF (stopped 2) (CH_PRE_REQ_STATE 0 4) == 2 && !(dieGet (stopped 2) 0).hubAbsent && (preX 1 8 1).phys && (preX 1 8 1).descs.isEmpty
    && accessOk (stopped 2) 0 (preX 1 8 1).area && populated (preX 1 8 1).area && !paLost (stopped 2) (preX 1 8 1).area) = true := by decide +kernel

/-! ## Light and steering (07) -/

/-- Every optical engine is RUNNING; wavelength 0 of ropes 0 and 24 is lit with 4 mA, wavelength 16 of rope 0 is a dark spare. -/
def lit : State := puts [(OE_STS_STATE 0, 3), (OE_STS_STATE 1, 3), (OE_LAS_BIAS_STATE 0 0, 3), (OE_LAS_BIAS_BIAS 0 0, 4000), (OE_LAS_BIAS_STATE 24 0, 3),
  (OE_LAS_BIAS_STATE 0 16, 1), (OE_ROPE_STS_STATE 0, 3), (OE_ROPE_STS_STATE 24, 3)] live
def dark : State := puts [(openFibre 0, 1)] lit
def brings (r ph : Nat) (s : State) : State := lightMod s r (fun x => { x with bring := some ⟨16, 0, ph, false⟩ })
def las (t : State) (r l : Nat) : Nat × Nat := (lasState t r l, getF t (OE_LAS_BIAS_BIAS r l))

theorem wit_Lasers_openFibre : (getF lit (openFibre 0) == 0 && getF lit (OE_STS_STATE (ropeOe 0)) == 3) = true := by decide +kernel
theorem wit_Lasers_openFibre_kept : (getF dark (openFibre 0) == 1 && goes (exec (.openFibre 0) dark) (fun t => getF t (openFibre 0) == 1)) = true := by decide +kernel
theorem wit_Lasers_probe : (goes (exec (.openFibreProbe 0) dark) (fun t => (lightGet t 0).probe)) = true := by decide +kernel
theorem wit_Lasers_probe_end : ((lightGet (lightMod dark 0 (fun x => { x with probe := true })) 0).probe) = true := by decide +kernel
theorem wit_Lasers_return : (goes (exec (.lightReturn 0) dark) (fun t => getF t (openFibre 0) == 0)) = true := by decide +kernel
theorem wit_Lasers_apc : (lasLit lit 0 0 && optActs lit 0 && goes (exec (.laserApc 0 0 13000 2000) lit) (fun t => las t 0 0 == (3, 12000) && getF t (OE_LAS_BIAS_HIGH 0 0) == 1 && getF t (OE_LAS_BIAS_BFM 0 0) == 1023)) = true := by decide +kernel
theorem wit_Lasers_apc_dark : (goes (exec (.laserApc 0 16 100 1) lit) (fun t => las t 0 16 == (1, 0))) = true := by decide +kernel
theorem wit_Lasers_death : (lasLit lit 0 0 && strandLogical lit 0 0 == some 0 && goes (exec (.laserDeath 0 0) lit) (fun t => las t 0 0 == (5, 0) && getF t (optEvt 0 3) == 1 && getF t (OE_LAS_BIAS_SAVED_BIAS 0 0) == 4000 && (ropeGet t 0).txMap.getD 0 0 == 31)) = true := by decide +kernel
theorem wit_Lasers_death_bank : (lasLit lit 24 0 && goes (exec (.laserDeath 24 0) lit) (fun t => las t 24 0 == (5, 0))) = true := by decide +kernel
theorem wit_Lasers_report : (bodyF (7 :: leBytes 47 (0x1234 * 2 ^ 280)) 0 1 == 7 && bodyF (7 :: leBytes 47 (0x1234 * 2 ^ 280)) 36 2 == 0x1234 && goes (exec (.strandReport 0) (ropeMod lit 0 (fun x => { x with lctl := [7 :: leBytes 47 (0x1234 * 2 ^ 280)] }))) (fun t => (ropeGet t 0).lctl.isEmpty && getF t (OE_STRAND_REPORTS 0 17) == 1 && getF t (OE_STRAND_MARGIN 0 17) == 0x1234)) = true := by decide +kernel
theorem wit_Lasers_estimate : (goes (exec (.marginEstimate 24 [3000]) lit) (fun t => getF t (OE_STRAND_MARGIN 24 0) == 3000)) = true := by decide +kernel
theorem wit_Lasers_estimate_sent : (goes (exec (.marginEstimate 0 [-3]) lit) (fun t => getF t (OE_STRAND_RX_MARGIN 0 0) == 0xFFFD && (lightGet t 0).reports == 1 && ((ropeGet t 0).out ++ (ropeGet t 0).sent).any (fun f => f.vq == 0 && bodyF f.body 0 1 == 7))) = true := by decide +kernel
theorem wit_Lasers_phase : (goes (exec (.spareBringupPhase 0) (brings 0 5 lit)) (fun t => (lightGet t 0).bring == some ⟨16, 0, 6, false⟩ && lasState t 0 16 == 3)) = true := by decide +kernel
theorem wit_Lasers_phase_first : (goes (exec (.spareBringupPhase 0) (brings 0 1 lit)) (fun t => (lightGet t 0).bring == some ⟨16, 0, 2, false⟩)) = true := by decide +kernel
theorem wit_Lasers_phase_locked : (goes (exec (.spareBringupPhase 0) (brings 0 6 lit)) (fun t => (lightGet t 0).bring == some ⟨16, 0, 6, false⟩)) = true := by decide +kernel
theorem wit_Lasers_phase_timeout : (goes (exec (.sparePhaseTimeout 0) (brings 0 3 lit)) (fun t => lasState t 0 16 == 5 && (reps t).map (·.1) == [0x603])) = true := by decide +kernel
theorem wit_Lasers_openLoop : (goes (exec (.openLoopLimit 0) (puts [(OE_STS_STATE 0, 4)] lit)) (fun t => getF t (OE_STS_STATE 0) == 6 && ropeState t 0 == 1 && reps t == [(0x106, 1)])) = true := by decide +kernel
theorem wit_Lasers_openLoop_no : (goes (exec (.openLoopLimit 0) lit) (fun t => getF t (OE_STS_STATE 0) == 3)) = true := by decide +kernel
theorem wit_Lasers_migrate : (takes lit (OE_CMD 0) (cmdWord [(OE_CMD_OP 0, 2), (OE_CMD_S 0, 0)]) && freeSpare lit 0 == some 16 && goes (exec (.migrate 0 0) lit) (fun t => getF t (OE_CMD_STATUS 0) == 2 && (lightGet t 0).bring == some ⟨16, 0, 1, false⟩ && las t 0 16 == (2, 0))) = true := by decide +kernel
theorem wit_Lasers_migrate_refused : (takes lit (OE_CMD 0) (cmdWord [(OE_CMD_OP 0, 2), (OE_CMD_S 0, 54)]) && goes (exec (.migrate 0 54) lit) (fun t => getF t (OE_CMD_STATUS 0) == 3)) = true := by decide +kernel
/-- A hitch is in its third phase. -/
def inHitch (s : State) : State := bootMod s (fun b => { b with hitch := some ⟨3, none, false, false, 0⟩ })
def ringOn (g : Nat) (s : State) : State := puts [(ringF g 15 15, 1), (ringF g 14 14, 1)] s
theorem wit_RingsAndCalibration_acts : (getF (ringOn 0 lit) (ringF 0 15 15) == 1 && getF (ringOn 0 lit) (ringF 0 47 47) == 0 && getF (ringOn 0 lit) (ringF 0 46 46) == 0 && optActs (ringOn 0 lit) (ringRope 0)) = true := by decide +kernel
theorem wit_RingsAndCalibration_acts_last : (optActs (ringOn 5011 lit) (ringRope 5011) && ringRope 5011 == 33) = true := by decide +kernel
theorem wit_RingsAndCalibration_track : (goes (exec (.ringTrack 0 200 true) (ringOn 0 lit)) (fun t => getF t (ringF 0 39 32) == 127 && getF t (ringF 0 63 48) == 1 && getF t (ringF 0 45 45) == 1)) = true := by decide +kernel
theorem wit_RingsAndCalibration_track_stale : (goes (exec (.ringTrack 0 (-200) true) (puts [(ringF 0 46 46, 1)] (ringOn 0 lit))) (fun t => getF t (ringF 0 39 32) == 0 && getF t (ringF 0 63 48) == 0 && getF t (ringF 0 45 45) == 1)) = true := by decide +kernel
theorem wit_RingsAndCalibration_track_off : (goes (exec (.ringTrack 0 5 true) lit) (fun t => getF t (ringF 0 39 32) == 0)) = true := by decide +kernel
theorem wit_RingsAndCalibration_calibration : (optActs lit 24 && (calGet lit 8).isNone && goes (exec (.calibration 24) lit) (fun t => calGet t 8 == some ⟨24, none, false⟩ && getF t (OE_LAS_BIAS_STALE 24 16) == 1)) = true := by decide +kernel
theorem wit_RingsAndCalibration_calibration_busy : (goes (exec (.calibration 1) (calPut lit 0 (some ⟨0, none, false⟩))) (fun t => calGet t 0 == some ⟨0, none, false⟩)) = true := by decide +kernel
theorem wit_RingsAndCalibration_drift : (optActs lit 0 && goes (exec (.driftTrigger 0) (puts [(ringF 0 63 48, 0xFF00)] lit)) (fun t => calGet t 0 == some ⟨0, some 0, false⟩ && getF t (ringF 0 46 46) == 1)) = true := by decide +kernel
theorem wit_RingsAndCalibration_no_drift : (goes (exec (.driftTrigger 0) lit) (fun t => (calGet t 0).isNone)) = true := by decide +kernel
theorem wit_RingsAndCalibration_complete : (!calHeld (calPut (puts [(ringF 0 46 46, 1)] lit) 0 (some ⟨0, some 0, false⟩)) ⟨0, some 0, false⟩ && goes (exec (.calibrationComplete 0 []) (calPut (puts [(ringF 0 46 46, 1)] lit) 0 (some ⟨0, some 0, false⟩))) (fun t => (calGet t 0).isNone && getF t (ringF 0 46 46) == 0)) = true := by decide +kernel
theorem wit_RingsAndCalibration_part : (partGood ⟨.ringEngaged, 0, 3, 4⟩ && goes (exec (.calibrationComplete 0 [⟨.ringEngaged, 0, 3, 4⟩]) (calPut (puts [(ringF 0 46 46, 1)] lit) 0 (some ⟨0, some 0, false⟩))) (fun t => getF t (ringF 0 31 16) == 4)) = true := by decide +kernel
theorem wit_RingsAndCalibration_part_wave : (partGood ⟨.laserWave, 0, 3, 4⟩ && goes (exec (.calibrationComplete 0 [⟨.laserWave, 0, 3, 4⟩]) (calPut (puts [(ringF 0 46 46, 1)] lit) 0 (some ⟨0, some 0, false⟩))) (fun t => getF t (OE_LAS_BIAS_SAVED_HTR 0 0) == 4)) = true := by decide +kernel
theorem wit_RingsAndCalibration_part_bad : (!partGood ⟨.ringEngaged, 0, -2000, 2000⟩ && goes (exec (.calibrationComplete 0 [⟨.ringEngaged, 0, -2000, 2000⟩]) (calPut (puts [(ringF 0 46 46, 1)] lit) 0 (some ⟨0, some 0, false⟩))) (fun t => getF t (ringF 0 31 16) == 0 && getF t (optEvt 0 5) == 1 && (reps t).map (·.1) == [0x601])) = true := by decide +kernel
theorem wit_RingsAndCalibration_complete_held : (calHeld (brings 0 3 (calPut (puts [(ringF 0 46 46, 1)] lit) 0 (some ⟨0, some 0, false⟩))) ⟨0, some 0, false⟩ && goes (exec (.calibrationComplete 0 []) (brings 0 3 (calPut (puts [(ringF 0 46 46, 1)] lit) 0 (some ⟨0, some 0, false⟩)))) (fun t => calGet t 0 == some ⟨0, some 0, false⟩)) = true := by decide +kernel
theorem wit_RingsAndCalibration_complete_none : (goes (exec (.calibrationComplete 0 []) lit) (fun t => (calGet t 0).isNone)) = true := by decide +kernel
theorem wit_RingsAndCalibration_calibrate : (takes lit (OE_CMD 0) (cmdWord [(OE_CMD_OP 0, 1), (OE_CMD_ROPE 0, 2)]) && goes (exec (.calibrate 0 2) lit) (fun t => getF t (OE_CMD_STATUS 0) == 1 && calGet t 0 == some ⟨2, none, true⟩)) = true := by decide +kernel
theorem wit_RingsAndCalibration_calibrate_refused : (takes lit (OE_CMD 0) (cmdWord [(OE_CMD_OP 0, 1), (OE_CMD_ROPE 0, 3)]) && goes (exec (.calibrate 0 3) lit) (fun t => getF t (OE_CMD_STATUS 0) == 3)) = true := by decide +kernel
/-- A request for ropes 0 and 1 in the re-direction queue. -/
def asked (src : SteerSrc) (cfg : Option Nat) : SteerReq := ⟨src, cfg, 0, 3⟩
def aorQueued (l : List SteerReq) (s : State) : State := optMod s (fun o => { o with steerQ := l })
def full : State := aorQueued (List.replicate 16 (asked .cmd (some 0))) lit
/-- The reset configuration steers every rope home. -/
def homed : State := puts [(PI_STEER_CFG_VALID 0, 1), (PI_STEER_CFG_DEST 0, (List.range 10).foldl (fun a r => putN a (5 * r) 5 31) 0)] lit

theorem wit_Steering_redirect : (takes lit PI_STEER_CMD (cmdWord [(PI_STEER_CMD_OP, 1), (PI_STEER_CMD_CFG, 1), (PI_STEER_CMD_MASK, 3)]) && goes (exec (.redirect 1 3) lit) (fun t => getF t PI_STEER_CMD_STATUS == 1 && t.opt.steerQ == [asked .cmd (some 1)] && getF t PI_STEER_STS_QUEUED == 1)) = true := by decide +kernel
theorem wit_Steering_redirect_full : (takes full PI_STEER_CMD (cmdWord [(PI_STEER_CMD_OP, 1), (PI_STEER_CMD_CFG, 1), (PI_STEER_CMD_MASK, 3)]) && goes (exec (.redirect 1 3) full) (fun t => getF t PI_STEER_CMD_STATUS == 3 && getF t PI_STEER_CMD_REASON == 4)) = true := by decide +kernel
theorem wit_Steering_home : (takes lit PI_STEER_CMD (cmdWord [(PI_STEER_CMD_OP, 2), (PI_STEER_CMD_MASK, 3)]) && goes (exec (.home 3) lit) (fun t => t.opt.steerQ == [asked .cmd (some 0)])) = true := by decide +kernel
theorem wit_Steering_home_full : (goes (exec (.home 3) full) (fun t => getF t PI_STEER_CMD_STATUS == 3 && getF t PI_STEER_CMD_REASON == 4)) = true := by decide +kernel
theorem wit_Steering_trigger : (goes (exec (.steerTrigger 15) (optMod lit (fun o => { o with fires := [15] }))) (fun t => t.opt.steerQ.length == 1 && getF t (PI_STEER_TRIG_FIRED 15) == 1 && t.opt.fires.isEmpty)) = true := by decide +kernel
theorem wit_Steering_trigger_full : (goes (exec (.steerTrigger 15) (optMod full (fun o => { o with fires := [15] }))) (fun t => getF t PI_EVT_STEER_REFUSED == 1 && reps t == [(0x604, 0)])) = true := by decide +kernel
theorem wit_Steering_trigger_none : (!lit.opt.fires.contains 15 && goes (exec (.steerTrigger 15) lit) (fun t => t.opt.steerQ.isEmpty)) = true := by decide +kernel
theorem wit_Steering_start : (steerRefusal (aorQueued [asked .cmd (some 0)] homed) (asked .cmd (some 0)) == none && !hubGone homed && !restarting homed 1 && goes (exec (.redirectionStart) (aorQueued [asked .cmd (some 0)] homed)) (fun t => getF t PI_STEER_STS_BUSY == 1 && t.opt.steerQ.isEmpty && t.opt.steering.isSome)) = true := by decide +kernel
theorem wit_Steering_start_refused : (steerRefusal (aorQueued [asked .cmd (some 7)] homed) (asked .cmd (some 7)) == some 1 && goes (exec (.redirectionStart) (aorQueued [asked .cmd (some 7)] homed)) (fun t => getF t PI_STEER_CMD_STATUS == 3 && getF t PI_STEER_CMD_REASON == 1)) = true := by decide +kernel
theorem wit_Steering_start_trigger_refused : (goes (exec (.redirectionStart) (aorQueued [asked (.trig 3) (some 7)] homed)) (fun t => getF t PI_EVT_STEER_REFUSED == 1 && reps t == [(0x604, 0)])) = true := by decide +kernel
theorem wit_Steering_start_spliced : (goes (exec (.redirectionStart) (puts [(OE_ROPE_STS_SPLICE 25, 1)] (aorQueued [asked .cmd (some 0)] homed))) (fun t => t.opt.steerQ.length == 1)) = true := by decide +kernel
theorem wit_Steering_start_none : (goes (exec (.redirectionStart) homed) (fun t => t.opt.steering.isNone)) = true := by decide +kernel
theorem wit_Steering_complete : ((optMod homed (fun o => { o with steering := some (asked .cmd (some 0)) })).opt.steering == some (asked .cmd (some 0))) = true := by decide +kernel

/-! ## AOR sessions -/

/-- A session of one source, brick 5 of die 0 on wavelength 2, that sums into slots at 0x1000 of brick 3 of die 0; its head stands at 0x800. -/
def sess (mode slots : Nat) : AorX := AorX.ofRaw (bytes [(0, 1, mode), (1, 1, 1), (3, 1, 0xFF), (5, 1, 1), (6, 2, 7), (8, 2, 3), (12, 4, 0x1000), (16, 2, slots), (18, 2, 1), (28, 4, 0x800), (64, 4, 5 + 0x2000)])
def certified : State := puts [(HP_CAP_EFF_CERT_AOR, 1), (OE_ROPE_STS_STATE 25, 3)] lit
def described (mode slots : Nat) (s : State) : State := writeLE s (storePa 0 0 0x400) 128 (sess mode slots).raw
/-- Session 0 in a state. -/
def inSess (st : Nat) (a : AorX) (s : State) : State := puts [(PI_AOR_STS_STATE 0, st)] (aorPut s 0 (some a))
def aorW (o : Nat) (l : List (Fld × Nat)) : Word := cmdWord ((PI_AOR_CMD_OP, o) :: l)
def adr0 : BitVec 52 := BitVec.ofNat 52 (storePa 0 0 0x400)
def opens : Word := aorW 1 [(PI_AOR_CMD_SESS, 0), (PI_AOR_CMD_ADDR, storePa 0 0 0x400 / 64)]
def aorSt (t : State) : Nat := getF t (PI_AOR_STS_STATE 0)
def aorAns (t : State) : Nat × Nat := (getF t PI_AOR_CMD_STATUS, getF t PI_AOR_CMD_REASON)
def cal0 : AorCal := ⟨32768, 32768, 0, 0, 0⟩
def heard : AorX := { sess 2 4 with ready := listPut (List.replicate 16 0) 0 0, nextK := listPut (List.replicate 16 0) 0 1 }
def one (k : Nat) : Contrib := ⟨k, List.replicate 32 0x3C00, List.replicate 32 0, List.replicate 32 false, false⟩
def summed : AorX := { sess 2 4 with contribs := listPut (List.replicate 16 []) 0 [one 0], go := 1, digital := some 0 }

theorem wit_AnalogReduction_open_digital : (takes (described 2 4 certified) PI_AOR_CMD opens && aorRefusal (described 2 4 certified) 0 (sess 2 4) == none && readable certified (storePa 0 0 0x400) && goes (exec (.aorOpen 0 adr0) (described 2 4 certified)) (fun t => aorSt t == 1 && aorAns t == (1, 0) && aorGet t 0 == some (sess 2 4) && t.opt.steerQ.isEmpty)) = true := by decide +kernel
theorem wit_AnalogReduction_open_analog : (aorRefusal (described 1 4 certified) 0 (sess 1 4) == none && goes (exec (.aorOpen 0 adr0) (described 1 4 certified)) (fun t => aorSt t == 1 && t.opt.steerQ.map (·.mask) == [2] && (aorGet t 0).isSome)) = true := by decide +kernel
theorem wit_AnalogReduction_open_refused : (aorRefusal (described 2 5000 certified) 0 (sess 2 5000) == some 7 && goes (exec (.aorOpen 0 adr0) (described 2 5000 certified)) (fun t => aorSt t == 0 && aorAns t == (3, 7))) = true := by decide +kernel
theorem wit_AnalogReduction_open_full : (aorRefusal (aorQueued (List.replicate 16 ⟨.cmd, some 0, 0, 1⟩) certified) 0 (sess 1 4) == none && (sess 1 4).mode != 2) = true := by decide +kernel
theorem wit_AnalogReduction_close : (takes certified PI_AOR_CMD (aorW 2 [(PI_AOR_CMD_SESS, 0)]) && !restarting certified 1 && goes (exec (.aorClose 0) (inSess 3 (sess 2 4) certified)) (fun t => aorSt t == 4 && (aorAns t).1 == 1)) = true := by decide +kernel
theorem wit_AnalogReduction_close_refused : (goes (exec (.aorClose 0) certified) (fun t => aorAns t == (3, 8))) = true := by decide +kernel
theorem wit_AnalogReduction_complete_digital : (aorSpanOk certified (sess 2 4) && goes (exec (.aorOpenComplete 0 []) (inSess 1 (sess 2 4) certified)) (fun t => aorSt t == 3 && aorAns t == (2, 0) && ((aorGet t 0).map (·.digital)) == some (some 0))) = true := by decide +kernel
theorem wit_AnalogReduction_complete_analog : (calGood cal0 && goes (exec (.aorOpenComplete 0 [cal0]) (inSess 1 { sess 1 4 with steered := true } certified)) (fun t => aorSt t == 2 && aorAns t == (2, 0) && getF t (PI_AOR_SRC_GAIN 0 0) == 32768)) = true := by decide +kernel
theorem wit_AnalogReduction_complete_uncalibrated : (goes (exec (.aorOpenComplete 0 []) (inSess 1 { sess 1 4 with steered := true } certified)) (fun t => aorSt t == 0 && aorAns t == (3, 9) && reps t == [(0x601, 0)] && getF t (optEvt 8 5) == 1)) = true := by decide +kernel
theorem wit_AnalogReduction_complete_span : (!aorSpanOk (puts [(CH_DIE_STS_STATE 0, 4)] certified) (sess 2 4) && goes (exec (.aorOpenComplete 0 []) (inSess 1 (sess 2 4) (puts [(CH_DIE_STS_STATE 0, 4)] certified))) (fun t => aorSt t == 0 && aorAns t == (3, 3))) = true := by decide +kernel
theorem wit_AnalogReduction_complete_no : (goes (exec (.aorOpenComplete 0 []) (inSess 3 (sess 2 4) certified)) (fun t => aorSt t == 3)) = true := by decide +kernel
theorem wit_AnalogReduction_ready : (goes (exec (.aorReady 0 0) (inSess 3 heard certified)) (fun t => ((aorGet t 0).map (fun a => (a.ready.getD 0 0, a.go))) == some (1, 1))) = true := by decide +kernel
theorem wit_AnalogReduction_ready_no : (goes (exec (.aorReady 0 0) (inSess 3 (sess 2 4) certified)) (fun t => ((aorGet t 0).map (fun a => a.ready.getD 0 0)) == some 0)) = true := by decide +kernel
theorem wit_AnalogReduction_reread : (goes (exec (.aorHeadReread 0) (inSess 3 (sess 2 4) certified)) (fun t => ((aorGet t 0).map (·.go)) == some 0)) = true := by decide +kernel
theorem wit_AnalogReduction_slot : (readable certified (storePa 0 3 0x1000) && goes (exec (.aorSlot 0 [] 0) (inSess 3 summed certified)) (fun t => getF t (PI_AOR_STS_DONE 0) == 1 && readLE t (storePa 0 3 0x1000) 4 == 0x3F800000 && readLE t (storePa 0 3 0x1080) 4 == 0 && t.knotOps.map (·.handle) == [7])) = true := by decide +kernel
theorem wit_AnalogReduction_slot_closing : (goes (exec (.aorSlot 0 [] 0) (inSess 4 { summed with go := 0 } certified)) (fun t => getF t (PI_AOR_STS_DONE 0) == 1)) = true := by decide +kernel
theorem wit_AnalogReduction_slot_no : (goes (exec (.aorSlot 0 [] 0) (inSess 3 (sess 2 4) certified)) (fun t => getF t (PI_AOR_STS_DONE 0) == 0)) = true := by decide +kernel
theorem wit_AnalogReduction_gain : (goes (exec (.aorGainCalibration 0 [40000]) (inSess 2 (sess 1 4) certified)) (fun t => getF t (PI_AOR_SRC_GAIN 0 0) == 40000 && aorSt t == 2)) = true := by decide +kernel
theorem wit_AnalogReduction_gain_fallback : (goes (exec (.aorGainCalibration 0 [100]) (inSess 2 (sess 3 4) certified)) (fun t => aorSt t == 3 && getF t (optEvt 8 5) == 1)) = true := by decide +kernel
theorem wit_AnalogReduction_gain_ends : (goes (exec (.aorGainCalibration 0 [70000]) (inSess 2 (sess 1 4) certified)) (fun t => aorSt t == 0 && getF t (PI_AOR_STS_END 0) == 5)) = true := by decide +kernel
theorem wit_AnalogReduction_gain_no : (goes (exec (.aorGainCalibration 0 [100]) (inSess 3 (sess 2 4) certified)) (fun t => aorSt t == 3)) = true := by decide +kernel
theorem wit_AnalogReduction_close_complete : (goes (exec (.aorCloseComplete 0) (puts [(PI_AOR_CMD_STATUS, 1), (PI_AOR_CMD_OP, 2)] (inSess 4 (sess 2 4) certified))) (fun t => aorSt t == 0 && getF t (PI_AOR_STS_END 0) == 1 && (aorGet t 0).isNone && (aorAns t).1 == 2)) = true := by decide +kernel
theorem wit_AnalogReduction_none : ((aorGet certified 0).isNone && goes (exec (.aorSlot 0 [] 0) certified) (fun t => aorSt t == 0)) = true := by decide +kernel

/-- R227, R229: whatever the factory table of ring 0 is, some state has its code out of range. -/
def far : State := puts [(ringF 0 31 16, 0x7FFF), (ringF 0 63 48, 0x7FFF)] (ringOn 0 lit)
theorem wit_RingsAndCalibration_failure : ∃ s, getF s (ringF 0 15 15) = 1 ∧ getF s (ringF 0 47 47) = 0 ∧ (ringRaw s 0 < 0 ∨ 16383 < ringRaw s 0) := by
  have hr (s : State) : ringRaw s 0 = ringBase (Config.ringTable 0) (ringTemp s 0) + sextN (getF s (ringF 0 31 16)) 16 + sextN (getF s (ringF 0 63 48)) 16 := rfl
  have h0 : ringRaw (ringOn 0 lit) 0 = ringBase (Config.ringTable 0) 0 + 0 + 0 := by
    rw [hr, show ringTemp (ringOn 0 lit) 0 = 0 by decide +kernel, show sextN (getF (ringOn 0 lit) (ringF 0 31 16)) 16 = 0 by decide +kernel,
      show sextN (getF (ringOn 0 lit) (ringF 0 63 48)) 16 = 0 by decide +kernel]
  have h1 : ringRaw far 0 = ringBase (Config.ringTable 0) 0 + 32767 + 32767 := by
    rw [hr, show ringTemp far 0 = 0 by decide +kernel, show sextN (getF far (ringF 0 31 16)) 16 = 32767 by decide +kernel,
      show sextN (getF far (ringF 0 63 48)) 16 = 32767 by decide +kernel]
  by_cases h : ringRaw (ringOn 0 lit) 0 < 0 ∨ 16383 < ringRaw (ringOn 0 lit) 0
  · exact ⟨ringOn 0 lit, by decide +kernel, by decide +kernel, h⟩
  · exact ⟨far, by decide +kernel, by decide +kernel, .inr (by omega)⟩

/-! ## Ropes (08) -/

/-- Rope `r` is UP. -/
def up (r : Nat) (s : State) : State := puts [(OE_ROPE_STS_STATE r, 3)] s
def ropeX (r : Nat) (f : RopeX → RopeX) : State := ropeMod (up r live) r f

theorem crc32From_append (l m : List Byte) : ∀ c, crc32From c (l ++ m) = crc32From (crc32From c l) m := by
  induction l with
  | nil => intro c; rfl
  | cons b t ih => intro c; exact ih _

theorem crc32From_split (c k n : Nat) (l : List Byte) : crc32From c (l.drop k) = crc32From (crc32From c ((l.drop k).take n)) (l.drop (k + n)) := by
  rw [← crc32From_append, ← List.drop_drop, List.take_append_drop]

/-- The CRC of 252 bytes, in four parts. -/
theorem crc32_chunks (l : List Byte) (a b c d : Nat) {e : Nat} (h0 : crc32From 0xFFFFFFFF ((l.drop 0).take 63) = a) (h1 : crc32From a ((l.drop 63).take 63) = b)
    (h2 : crc32From b ((l.drop 126).take 63) = c) (h3 : crc32From c ((l.drop 189).take 63) = d) (hl : l.drop 252 = []) (he : d ^^^ 0xFFFFFFFF = e) : crc32 l = e := by
  have h : crc32From 0xFFFFFFFF l = d := by
    rw [← List.drop_zero (l := l), crc32From_split 0xFFFFFFFF 0 63 l, h0, crc32From_split a 63 63 l, h1, crc32From_split b 126 63 l, h2, crc32From_split c 189 63 l, h3, hl]; rfl
  rw [crc32, h, he]

/-! Flits of the ropes: DATA 0, 1 and, sent again, 4095; LCTL, IDLE and ALIGN; one with a wrong CRC. -/

def data0 : BitVec 2048 := 0x5000000000000000000010000000000020001 + 0xcd75a8e0 * 2 ^ 1984
theorem data0_crc0 : crc32From 0xffffffff (((flitBytes data0 0 248 ++ flitBytes data0 252 4).drop 0).take 63) = 0xde22e516 := by decide +kernel
theorem data0_crc1 : crc32From 0xde22e516 (((flitBytes data0 0 248 ++ flitBytes data0 252 4).drop 63).take 63) = 0x178d0c66 := by decide +kernel
theorem data0_crc2 : crc32From 0x178d0c66 (((flitBytes data0 0 248 ++ flitBytes data0 252 4).drop 126).take 63) = 0x85b14a15 := by decide +kernel
theorem data0_crc3 : crc32From 0x85b14a15 (((flitBytes data0 0 248 ++ flitBytes data0 252 4).drop 189).take 63) = 0x328a571f := by decide +kernel
theorem data0_check : crc32 (flitBytes data0 0 248 ++ flitBytes data0 252 4) = 0xcd75a8e0 := crc32_chunks _ _ _ _ _ data0_crc0 data0_crc1 data0_crc2 data0_crc3 (by decide +kernel) (by decide +kernel)
theorem data0_good : flitGood data0 = true := by
  rw [flitGood, data0_check]; decide +kernel
def data1 : BitVec 2048 := 0x5000000000000000000010000000000020021 + 0xb24aa480 * 2 ^ 1984
theorem data1_crc0 : crc32From 0xffffffff (((flitBytes data1 0 248 ++ flitBytes data1 252 4).drop 0).take 63) = 0xc8e19918 := by decide +kernel
theorem data1_crc1 : crc32From 0xc8e19918 (((flitBytes data1 0 248 ++ flitBytes data1 252 4).drop 63).take 63) = 0x3ce10088 := by decide +kernel
theorem data1_crc2 : crc32From 0x3ce10088 (((flitBytes data1 0 248 ++ flitBytes data1 252 4).drop 126).take 63) = 0x6783a37 := by decide +kernel
theorem data1_crc3 : crc32From 0x6783a37 (((flitBytes data1 0 248 ++ flitBytes data1 252 4).drop 189).take 63) = 0x4db55b7f := by decide +kernel
theorem data1_check : crc32 (flitBytes data1 0 248 ++ flitBytes data1 252 4) = 0xb24aa480 := crc32_chunks _ _ _ _ _ data1_crc0 data1_crc1 data1_crc2 data1_crc3 (by decide +kernel) (by decide +kernel)
theorem data1_good : flitGood data1 = true := by
  rw [flitGood, data1_check]; decide +kernel
def again : BitVec 2048 := 0x500000000000000000001000000000001fff1 + 0xb873ef0a * 2 ^ 1984
theorem again_crc0 : crc32From 0xffffffff (((flitBytes again 0 248 ++ flitBytes again 252 4).drop 0).take 63) = 0x75ee9cbf := by decide +kernel
theorem again_crc1 : crc32From 0x75ee9cbf (((flitBytes again 0 248 ++ flitBytes again 252 4).drop 63).take 63) = 0xab165787 := by decide +kernel
theorem again_crc2 : crc32From 0xab165787 (((flitBytes again 0 248 ++ flitBytes again 252 4).drop 126).take 63) = 0x540845fb := by decide +kernel
theorem again_crc3 : crc32From 0x540845fb (((flitBytes again 0 248 ++ flitBytes again 252 4).drop 189).take 63) = 0x478c10f5 := by decide +kernel
theorem again_check : crc32 (flitBytes again 0 248 ++ flitBytes again 252 4) = 0xb873ef0a := crc32_chunks _ _ _ _ _ again_crc0 again_crc1 again_crc2 again_crc3 (by decide +kernel) (by decide +kernel)
theorem again_good : flitGood again = true := by
  rw [flitGood, again_check]; decide +kernel
def lctl7 : BitVec 2048 := 0x70000000000000002 + 0x56a17583 * 2 ^ 1984
theorem lctl7_crc0 : crc32From 0xffffffff (((flitBytes lctl7 0 248 ++ flitBytes lctl7 252 4).drop 0).take 63) = 0x5839e9d3 := by decide +kernel
theorem lctl7_crc1 : crc32From 0x5839e9d3 (((flitBytes lctl7 0 248 ++ flitBytes lctl7 252 4).drop 63).take 63) = 0xc8d68c1d := by decide +kernel
theorem lctl7_crc2 : crc32From 0xc8d68c1d (((flitBytes lctl7 0 248 ++ flitBytes lctl7 252 4).drop 126).take 63) = 0xee3b3678 := by decide +kernel
theorem lctl7_crc3 : crc32From 0xee3b3678 (((flitBytes lctl7 0 248 ++ flitBytes lctl7 252 4).drop 189).take 63) = 0xa95e8a7c := by decide +kernel
theorem lctl7_check : crc32 (flitBytes lctl7 0 248 ++ flitBytes lctl7 252 4) = 0x56a17583 := crc32_chunks _ _ _ _ _ lctl7_crc0 lctl7_crc1 lctl7_crc2 lctl7_crc3 (by decide +kernel) (by decide +kernel)
theorem lctl7_good : flitGood lctl7 = true := by
  rw [flitGood, lctl7_check]; decide +kernel
def idle5 : BitVec 2048 := 0xa0 + 0xfed16250 * 2 ^ 1984
theorem idle5_crc0 : crc32From 0xffffffff (((flitBytes idle5 0 248 ++ flitBytes idle5 252 4).drop 0).take 63) = 0x5a9ba92d := by decide +kernel
theorem idle5_crc1 : crc32From 0x5a9ba92d (((flitBytes idle5 0 248 ++ flitBytes idle5 252 4).drop 63).take 63) = 0x73f7a58a := by decide +kernel
theorem idle5_crc2 : crc32From 0x73f7a58a (((flitBytes idle5 0 248 ++ flitBytes idle5 252 4).drop 126).take 63) = 0x2bd50014 := by decide +kernel
theorem idle5_crc3 : crc32From 0x2bd50014 (((flitBytes idle5 0 248 ++ flitBytes idle5 252 4).drop 189).take 63) = 0x12e9daf := by decide +kernel
theorem idle5_check : crc32 (flitBytes idle5 0 248 ++ flitBytes idle5 252 4) = 0xfed16250 := crc32_chunks _ _ _ _ _ idle5_crc0 idle5_crc1 idle5_crc2 idle5_crc3 (by decide +kernel) (by decide +kernel)
theorem idle5_good : flitGood idle5 = true := by
  rw [flitGood, idle5_check]; decide +kernel
def align8 : BitVec 2048 := 0x80000000000002463 + 0x74c20150 * 2 ^ 1984
theorem align8_crc0 : crc32From 0xffffffff (((flitBytes align8 0 248 ++ flitBytes align8 252 4).drop 0).take 63) = 0xce64070 := by decide +kernel
theorem align8_crc1 : crc32From 0xce64070 (((flitBytes align8 0 248 ++ flitBytes align8 252 4).drop 63).take 63) = 0x8639a877 := by decide +kernel
theorem align8_crc2 : crc32From 0x8639a877 (((flitBytes align8 0 248 ++ flitBytes align8 252 4).drop 126).take 63) = 0xb3498b46 := by decide +kernel
theorem align8_crc3 : crc32From 0xb3498b46 (((flitBytes align8 0 248 ++ flitBytes align8 252 4).drop 189).take 63) = 0x8b3dfeaf := by decide +kernel
theorem align8_check : crc32 (flitBytes align8 0 248 ++ flitBytes align8 252 4) = 0x74c20150 := crc32_chunks _ _ _ _ _ align8_crc0 align8_crc1 align8_crc2 align8_crc3 (by decide +kernel) (by decide +kernel)
theorem align8_good : flitGood align8 = true := by
  rw [flitGood, align8_check]; decide +kernel
def wrong : BitVec 2048 := 0x5000000000000000000010000000000000001 + 0x9d3f0fe6 * 2 ^ 1984
theorem wrong_crc0 : crc32From 0xffffffff (((flitBytes wrong 0 248 ++ flitBytes wrong 252 4).drop 0).take 63) = 0x25b87f68 := by decide +kernel
theorem wrong_crc1 : crc32From 0x25b87f68 (((flitBytes wrong 0 248 ++ flitBytes wrong 252 4).drop 63).take 63) = 0xff80f94c := by decide +kernel
theorem wrong_crc2 : crc32From 0xff80f94c (((flitBytes wrong 0 248 ++ flitBytes wrong 252 4).drop 126).take 63) = 0xf19e1d24 := by decide +kernel
theorem wrong_crc3 : crc32From 0xf19e1d24 (((flitBytes wrong 0 248 ++ flitBytes wrong 252 4).drop 189).take 63) = 0x62c0f018 := by decide +kernel
theorem wrong_check : crc32 (flitBytes wrong 0 248 ++ flitBytes wrong 252 4) = 0x9d3f0fe7 := crc32_chunks _ _ _ _ _ wrong_crc0 wrong_crc1 wrong_crc2 wrong_crc3 (by decide +kernel) (by decide +kernel)
theorem wrong_bad : flitGood wrong = false := by
  rw [flitGood, wrong_check]; decide +kernel
theorem wit_Flits_data : (flitF data0 3 0 == 1 && flitF data0 18 17 == 1 && flitF data0 4 4 == 0 && flitSeq (ropeGet (flitAck (up 0 live) 0 data0) 0) data0 == 0 && takesFlits (up 0 live) 0 && (injSlot (up 0 live) 5 1).isNone) = true := by decide +kernel
theorem wit_Flits_ahead : (flitSeq (ropeGet (flitAck (up 0 live) 0 data1) 0) data1 == 1 && (ropeGet (flitAck (up 0 live) 0 data1) 0).e == 0 && (ropeGet (flitAck (up 0 live) 0 data1) 0).held.isEmpty) = true := by decide +kernel
theorem wit_Flits_again : (flitF again 4 4 == 1 && flitSeq (ropeGet (flitAck (up 0 live) 0 again) 0) again == 4095) = true := by decide +kernel
theorem wit_Flits_lctl : (flitF lctl7 3 0 == 2 && flitSeq (ropeGet (flitAck (up 0 live) 0 lctl7) 0) lctl7 == 0) = true := by decide +kernel
theorem wit_Flits_idle : (flitF idle5 3 0 == 0 && flitF idle5 10 5 == 5 && (ropeGet (flitAck (up 0 live) 0 idle5) 0).slots == 0 && !(ropeGet (flitAck (up 0 live) 0 idle5) 0).resync) = true := by decide +kernel
theorem wit_Flits_idle_lost : ((ropeGet (flitAck (ropeX 0 (fun x => { x with slots := 64 })) 0 idle5) 0).slots == 64) = true := by decide +kernel
theorem wit_Flits_align : (flitF align8 3 0 == 3 && flitF align8 16 5 == 0x123 && (flitBytes align8 8 16).headD 0 == 8) = true := by decide +kernel
theorem wit_Flits_bad : (takesFlits (up 0 live) 0) = true := by decide +kernel
theorem wit_Flits_in : FlitIn (up 0 live) 0 data0 1 ∧ FlitIn (up 0 live) 0 lctl7 2 ∧ FlitIn (up 0 live) 0 idle5 0 ∧ FlitIn (up 0 live) 0 align8 3 :=
  ⟨⟨by decide +kernel, data0_good, by decide +kernel, by decide +kernel⟩, ⟨by decide +kernel, lctl7_good, by decide +kernel, by decide +kernel⟩,
    ⟨by decide +kernel, idle5_good, by decide +kernel, by decide +kernel⟩, ⟨by decide +kernel, align8_good, by decide +kernel, by decide +kernel⟩⟩
theorem wit_Flits_deaf : (!takesFlits live 0) = true := by decide +kernel
theorem wit_Flits_uncorrectable : (goes (exec (.uncorrectableCodeword 33 4) live) (fun t => getF t (OE_ROPE_CNT_UNCORR 33) == 1 && (ropeGet t 33).slots == 4)) = true := by decide +kernel
theorem wit_Flits_alignment : (goes (exec (.codewordAlignment 0) live) (fun t => (ropeGet t 0).aligned)) = true := by decide +kernel
theorem wit_Flits_refresh : (goes (exec (.ackRefresh 0) live) (fun t => getF t (OE_ROPE_STS_ACK_TX 0) == 4095)) = true := by decide +kernel
theorem wit_Flits_replay : (goes (exec (.linkReplay 0) (ropeX 0 (fun x => { x with sent := [⟨0, 1, []⟩] }))) (fun t => getF t (OE_ROPE_CNT_REPLAYS 0) == 1 && getF t (OE_ROPE_EVT_REPLAY 0) == 1)) = true := by decide +kernel
theorem wit_Flits_replay_none : (goes (exec (.linkReplay 0) (up 0 live)) (fun t => getF t (OE_ROPE_CNT_REPLAYS 0) == 0)) = true := by decide +kernel
def parked10 : State := puts [(PI_STEER_STS_DEST, (List.range 10).foldl (fun a r => putN a (5 * r) 5 31) 0)] live
theorem wit_Flits_return : ((pairOf parked10 9).isNone && goes (exec (.returnFrame 9) parked10) (fun t => getF t (OE_ROPE_STS_ACK_RX 33) == 4095)) = true := by decide +kernel
def paired : State := puts [(PI_STEER_STS_DEST, putN (putN (List.foldl (fun a r => putN a (5 * r) 5 31) 0 (List.range 10)) 0 5 3) 10 5 0)] live
theorem wit_Flits_return_paired : ((pairOf paired 0).isSome && goes (exec (.returnFrame 0) paired) (fun t => getF t (OE_ROPE_STS_ACK_RX 24) == 0)) = true := by decide +kernel
theorem wit_RopeTraining_no : (goes (exec (.retrainTrigger 0 false) live) (fun t => ropeState t 0 == 0)) = true := by decide +kernel
theorem wit_RopeTraining_retrain : (goes (exec (.retrainTrigger 0 false) (up 0 live)) (fun t => ropeState t 0 == 4 && (ropeGet t 0).phase == 1 && getF t (OE_ROPE_CNT_RETRAINS 0) == 1 && getF t (OE_ROPE_EVT_RETRAIN 0) == 1)) = true := by decide +kernel
theorem wit_RopeTraining_ask : (mayChange (up 0 live) 0 && goes (exec (.retrainTrigger 0 true) (up 0 live)) (fun t => ropeState t 0 == 3 && (ropeGet t 0).asked == some ⟨1, true, 0, 0, 0, 0⟩ && ((ropeGet t 0).out ++ (ropeGet t 0).sent).any (fun f => f.vq == 0 && bodyF f.body 0 1 == 2))) = true := by decide +kernel
theorem wit_RopeTraining_ask_no : (goes (exec (.retrainTrigger 0 true) live) (fun t => (ropeGet t 0).asked.isNone)) = true := by decide +kernel
/-- Rope `r` trains, in a phase. -/
def trains (r ph : Nat) (s : State) : State := ropeMod (puts [(OE_ROPE_STS_STATE r, 2)] s) r (fun x => { x with phase := ph })
theorem wit_RopeTraining_phase1 : (goes (exec (.trainingPhase 0) (trains 0 1 live)) (fun t => (ropeGet t 0).phase == 2)) = true := by decide +kernel
theorem wit_RopeTraining_phase2 : (goes (exec (.trainingPhase 0) (trains 0 2 live)) (fun t => (ropeGet t 0).phase == 3)) = true := by decide +kernel
theorem wit_RopeTraining_phase3 : (goes (exec (.trainingPhase 0) (trains 0 3 live)) (fun t => (ropeGet t 0).phase == 4 && ((ropeGet t 0).out ++ (ropeGet t 0).sent).any (fun f => f.body == helloBody live 0))) = true := by decide +kernel
theorem wit_RopeTraining_phase4 : (goes (exec (.trainingPhase 0) (ropeMod (trains 0 4 live) 0 (fun x => { x with hello := true }))) (fun t => (ropeGet t 0).phase == 5)) = true := by decide +kernel
theorem wit_RopeTraining_phase4_waits : (goes (exec (.trainingPhase 0) (trains 0 4 live)) (fun t => (ropeGet t 0).phase == 4)) = true := by decide +kernel
theorem wit_RopeTraining_phase5 : (goes (exec (.trainingPhase 0) (trains 0 5 live)) (fun t => (ropeGet t 0).phase == 0 && ropeState t 0 == 3)) = true := by decide +kernel
theorem wit_RopeTraining_timeout : (goes (exec (.trainingAttemptTimeout 0) (trains 0 3 live)) (fun t => (ropeGet t 0).phase == 2 && getF t (OE_ROPE_STS_ATTEMPT 0) == 1)) = true := by decide +kernel
theorem wit_RopeTraining_timeout_last : (goes (exec (.trainingAttemptTimeout 0) (puts [(OE_ROPE_STS_ATTEMPT 0, 2)] (trains 0 3 live))) (fun t => ropeState t 0 == 1 && getF t (OE_ROPE_EVT_DOWN 0) == 1 && (reps t).map (·.1) == [0x701])) = true := by decide +kernel
theorem wit_RopeTraining_light : (goes (exec (.lightDetected 0) (puts [(OE_ROPE_STS_STATE 0, 1)] live)) (fun t => ropeState t 0 == 2 && (ropeGet t 0).phase == 2)) = true := by decide +kernel
def helloOf (uid rank rope e : Nat) : List Byte := leBytes 24 (bytes [(0, 1, 1), (8, 8, uid), (16, 1, rank), (17, 1, rope), (20, 2, e)])
def hears (r : Nat) (b : List Byte) (s : State) : State := ropeMod s r (fun x => { x with lctl := [b] })
theorem wit_RopeTraining_hello : (goes (exec (.hello 0) (hears 0 (helloOf 0x99 3 7 77) (trains 0 4 live))) (fun t => (ropeGet t 0).hello && (ropeGet t 0).lctl.isEmpty && rd t (OE_ROPE_PEER 0 0) == 0x99 && getF t (OE_ROPE_PEER_RANK 0) == 3 && getF t (OE_ROPE_STS_LEAD 0) == 0 && (ropeGet t 0).e == 77)) = true := by decide +kernel
theorem wit_RopeTraining_hello_other : (goes (exec (.hello 0) (put [(OE_ROPE_PEER 0 0, 5)] (hears 0 (helloOf 0x99 3 7 77) (trains 0 4 live)))) (fun t => (ropeGet t 0).newPeer && (ropeGet t 0).e == 0 && getF t (OE_ROPE_EVT_PEER_CHANGED 0) == 1)) = true := by decide +kernel
theorem wit_RopeTraining_hello_moved : (goes (exec (.hello 0) (puts [(OE_ROPE_STS_STATE 0, 4)] (hears 0 (helloOf 0x99 3 7 77) (trains 0 4 live)))) (fun t => !(ropeGet t 0).hello && (ropeGet t 0).phase == 2 && getF t (OE_ROPE_STS_ATTEMPT 0) == 1)) = true := by decide +kernel
theorem wit_RopeTraining_hello_none : (goes (exec (.hello 0) (trains 0 4 live)) (fun t => !(ropeGet t 0).hello)) = true := by decide +kernel
theorem wit_RopeTraining_cmd_retrain : (takes live (OE_ROPE_CMD 0) (cmdWord [(OE_ROPE_CMD_OP 0, 1)]) && goes (exec (.ropeRetrain 0) (up 0 live)) (fun t => getF t (OE_ROPE_CMD_STATUS 0) == 2 && ropeState t 0 == 4)) = true := by decide +kernel
theorem wit_RopeTraining_cmd_retrain_no : (goes (exec (.ropeRetrain 0) live) (fun t => getF t (OE_ROPE_CMD_STATUS 0) == 3)) = true := by decide +kernel
theorem wit_RopeTraining_cmd_down : (takes live (OE_ROPE_CMD 0) (cmdWord [(OE_ROPE_CMD_OP 0, 2)]) && goes (exec (.ropeDown 0) (up 0 live)) (fun t => getF t (OE_ROPE_CMD_STATUS 0) == 2 && ropeState t 0 == 5)) = true := by decide +kernel
theorem wit_RopeTraining_cmd_down_no : (goes (exec (.ropeDown 0) live) (fun t => getF t (OE_ROPE_CMD_STATUS 0) == 3)) = true := by decide +kernel
theorem wit_RopeTraining_cmd_up : (takes live (OE_ROPE_CMD 0) (cmdWord [(OE_ROPE_CMD_OP 0, 3)]) && goes (exec (.ropeUp 0) (puts [(OE_ROPE_STS_STATE 0, 5)] live)) (fun t => getF t (OE_ROPE_CMD_STATUS 0) == 2 && ropeState t 0 == 2)) = true := by decide +kernel
theorem wit_RopeTraining_cmd_up_absent : (goes (exec (.ropeUp 0) live) (fun t => getF t (OE_ROPE_CMD_STATUS 0) == 3)) = true := by decide +kernel
theorem wit_RopeTraining_cmd_up_already : (goes (exec (.ropeUp 0) (up 0 live)) (fun t => getF t (OE_ROPE_CMD_STATUS 0) == 2 && ropeState t 0 == 3)) = true := by decide +kernel
def change (k : Nat) (tx : Bool) : Change := ⟨k, tx, 0, 0, 16, 9⟩
def sentKinds (t : State) (r : Nat) : List (Nat × Nat) := ((ropeGet t r).out ++ (ropeGet t r).sent).map (fun f => (bodyF f.body 0 1, bodyF f.body 1 1))
def changing (c : Change) : State := ropeX 0 (fun x => { x with change := some c })
def asksFor (c : Change) : State := ropeX 0 (fun x => { x with asked := some c })
def rsp (o n : Nat) : List Byte := changeRsp o n

theorem wit_RopeChanges_req : (goes (exec (.changeReq 0) (hears 0 (changeReq (change 2 true)) (up 0 live))) (fun t => (ropeGet t 0).change.isSome && (sentKinds t 0).contains (3, 0) && (ropeGet t 0).lctl.isEmpty)) = true := by decide +kernel
theorem wit_RopeChanges_req_retrain : (goes (exec (.changeReq 0) (hears 0 (changeReq (change 1 true)) (up 0 live))) (fun t => ropeState t 0 == 4 && (sentKinds t 0).contains (3, 0))) = true := by decide +kernel
theorem wit_RopeChanges_req_busy : (goes (exec (.changeReq 0) (hears 0 (changeReq (change 2 true)) (changing (change 3 true)))) (fun t => (sentKinds t 0).contains (3, 2))) = true := by decide +kernel
theorem wit_RopeChanges_req_lead : (goes (exec (.changeReq 0) (puts [(OE_ROPE_STS_LEAD 0, 1)] (hears 0 (changeReq (change 2 true)) (asksFor (change 2 true))))) (fun t => (sentKinds t 0).contains (3, 1) && (ropeGet t 0).asked == some (change 2 true))) = true := by decide +kernel
theorem wit_RopeChanges_req_yields : (goes (exec (.changeReq 0) (hears 0 (changeReq (change 2 true)) (asksFor (change 2 true)))) (fun t => (sentKinds t 0).contains (3, 0) && (ropeGet t 0).asked.isNone && getF t (OE_ROPE_EVT_COLLISION 0) == 1)) = true := by decide +kernel
theorem wit_RopeChanges_req_interposer : (goes (exec (.changeReq 24) (hears 24 (changeReq (change 2 true)) (up 24 live))) (fun t => (ropeGet t 24).lctl == [changeRsp 0 9])) = true := by decide +kernel
theorem wit_RopeChanges_req_none : (goes (exec (.changeReq 0) (up 0 live)) (fun t => (ropeGet t 0).change.isNone)) = true := by decide +kernel
theorem wit_RopeChanges_rsp_no : (bodyF (rsp 2 9) 8 4 == 9 && goes (exec (.changeRsp 0 1000) (hears 0 (rsp 2 9) (asksFor (change 2 true)))) (fun t => (ropeGet t 0).asked.isNone && (ropeGet t 0).change.isNone)) = true := by decide +kernel
theorem wit_RopeChanges_rsp_retrain : (goes (exec (.changeRsp 0 1000) (hears 0 (rsp 0 9) (asksFor (change 1 true)))) (fun t => ropeState t 0 == 4)) = true := by decide +kernel
theorem wit_RopeChanges_rsp_splice : (goes (exec (.changeRsp 0 1000) (hears 0 (rsp 0 9) (asksFor (change 2 true)))) (fun t => (ropeGet t 0).change == some (change 2 true) && (sentKinds t 0).map (·.1) == [4])) = true := by decide +kernel
theorem wit_RopeChanges_rsp_restore : (goes (exec (.changeRsp 0 1000) (hears 0 (rsp 0 9) (asksFor (change 3 true)))) (fun t => ((ropeGet t 0).switch.map (fun w => (w.tx, w.map.getD 0 0, w.k1))) == some (true, 16, 1064) && (sentKinds t 0).map (·.1) == [6])) = true := by decide +kernel
theorem wit_RopeChanges_rsp_none : (goes (exec (.changeRsp 0 0) (asksFor (change 2 true))) (fun t => (ropeGet t 0).asked == some (change 2 true))) = true := by decide +kernel
theorem wit_RopeChanges_request : (mayChange (lightMod (up 0 live) 0 (fun x => { x with bring := some ⟨16, 0, 6, false⟩ })) 0 && goes (exec (.spliceRequest 0) (lightMod (up 0 live) 0 (fun x => { x with bring := some ⟨16, 0, 6, false⟩ }))) (fun t => (ropeGet t 0).asked == some ⟨2, true, 0, 0, 16, 0⟩ && ((lightGet t 0).bring.map (·.phase)) == some 7)) = true := by decide +kernel
theorem wit_RopeChanges_request_restore : (goes (exec (.spliceRequest 0) (ropeMod (lightMod (up 0 live) 0 (fun x => { x with bring := some ⟨16, 0, 6, false⟩ })) 0 (fun x => { x with txMap := listPut x.txMap 0 31 }))) (fun t => ((ropeGet t 0).asked.map (·.kind)) == some 3)) = true := by decide +kernel
theorem wit_RopeChanges_request_no : (goes (exec (.spliceRequest 0) (up 0 live)) (fun t => (ropeGet t 0).asked.isNone)) = true := by decide +kernel
theorem wit_RopeChanges_start : (goes (exec (.spliceStart 0) (hears 0 [4, 7, 8, 17, 0, 0, 0, 0] (changing (change 2 false)))) (fun t => (ropeGet t 0).change == some ⟨2, false, 7, 8, 17, 9⟩)) = true := by decide +kernel
theorem wit_RopeChanges_start_none : (goes (exec (.spliceStart 0) (changing (change 2 false))) (fun t => (ropeGet t 0).change == some (change 2 false))) = true := by decide +kernel
theorem wit_RopeChanges_mirroring : (goes (exec (.mirroringStart 0) (changing (change 2 true))) (fun t => getF t (OE_ROPE_STS_SPLICE 0) == 1)) = true := by decide +kernel
theorem wit_RopeChanges_good : (goes (exec (.newWavelengthGood 0 5) (puts [(OE_ROPE_STS_SPLICE 0, 1)] (changing (change 2 false)))) (fun t => (sentKinds t 0).map (·.1) == [5])) = true := by decide +kernel
theorem wit_RopeChanges_ready : (goes (exec (.spliceReady 0 1000) (hears 0 [5, 0, 0, 0, 0, 0, 0, 0] (changing (change 2 true)))) (fun t => (sentKinds t 0).map (·.1) == [6] && ((ropeGet t 0).switch.map (·.k1)) == some 1064)) = true := by decide +kernel
theorem wit_RopeChanges_ready_none : (goes (exec (.spliceReady 0 1000) (changing (change 2 true))) (fun t => (ropeGet t 0).switch.isNone)) = true := by decide +kernel
theorem wit_RopeChanges_timeout : (goes (exec (.spliceTimeout 0) (lightMod (puts [(OE_ROPE_STS_SPLICE 0, 1)] (changing (change 2 true))) 0 (fun x => { x with bring := some ⟨16, 0, 7, false⟩ }))) (fun t => (ropeGet t 0).change.isNone && getF t (OE_ROPE_EVT_SPLICE_FAIL 0) == 1 && lasState t 0 16 == 5)) = true := by decide +kernel
theorem wit_RopeChanges_timeout_no : (goes (exec (.spliceTimeout 0) (changing (change 2 false))) (fun t => (ropeGet t 0).change == some (change 2 false))) = true := by decide +kernel
theorem wit_RopeChanges_change_none : (goes (exec (.mirroringStart 0) (up 0 live)) (fun t => getF t (OE_ROPE_STS_SPLICE 0) == 0)) = true := by decide +kernel
theorem wit_RopeChanges_switch : (goes (exec (.switch 0) (hears 0 ([6, 0, 0, 0, 0, 0, 0, 0, 0, 0, 0, 0] ++ leBytes 4 77) (up 0 live))) (fun t => ((ropeGet t 0).switch.map (fun w => (w.tx, w.k1))) == some (false, 77) && (ropeGet t 0).lctl.isEmpty)) = true := by decide +kernel
theorem wit_RopeChanges_switch_none : (goes (exec (.switch 0) (up 0 live)) (fun t => (ropeGet t 0).switch.isNone)) = true := by decide +kernel
theorem wit_RopeChanges_apply : (goes (exec (.switchApply 0) (ropeMod (changing (change 2 true)) 0 (fun x => { x with switch := some ⟨true, listPut (List.range 16) 0 16, 64⟩ }))) (fun t => (ropeGet t 0).txMap.getD 0 0 == 16 && (ropeGet t 0).switch.isNone && (ropeGet t 0).change.isNone)) = true := by decide +kernel
theorem wit_RopeChanges_apply_restore : (goes (exec (.switchApply 0) (ropeMod (changing (change 3 true)) 0 (fun x => { x with switch := some ⟨true, listPut (List.range 16) 0 16, 64⟩ }))) (fun t => (ropeGet t 0).judged == some (true, 0))) = true := by decide +kernel
theorem wit_RopeChanges_apply_none : (goes (exec (.switchApply 0) (changing (change 3 true))) (fun t => (ropeGet t 0).change == some (change 3 true))) = true := by decide +kernel
def judging (n : Nat) : State := ropeMod (changing (change 3 true)) 0 (fun x => { x with judged := some (true, 0), restoreFails := n })
theorem wit_RopeChanges_judge_good : (goes (exec (.widthRestoreCheck 0 8 5) (judging 1)) (fun t => (ropeGet t 0).judged.isNone && (ropeGet t 0).change.isNone && (ropeGet t 0).restoreFails == 0 && ropeState t 0 == 3)) = true := by decide +kernel
theorem wit_RopeChanges_judge_bad : (goes (exec (.widthRestoreCheck 0 9 5) (judging 0)) (fun t => (ropeGet t 0).txMap.getD 0 0 == 31 && (ropeGet t 0).restoreFails == 1 && ropeState t 0 == 3)) = true := by decide +kernel
theorem wit_RopeChanges_judge_again : (goes (exec (.widthRestoreCheck 0 64 5) (judging 1)) (fun t => (ropeGet t 0).judged.isNone && ropeState t 0 == 4)) = true := by decide +kernel
theorem wit_RopeChanges_judge_none : (goes (exec (.widthRestoreCheck 0 0 5) (changing (change 3 true))) (fun t => (ropeGet t 0).change == some (change 3 true))) = true := by decide +kernel
theorem wit_RopeChanges_drop : (goes (exec (.widthDropDetect 0 15) (up 0 live)) (fun t => (ropeGet t 0).rxMap.getD 15 0 == 31 && getF t (OE_ROPE_STS_RX15 0) == 1 && ropeState t 0 == 3)) = true := by decide +kernel
theorem wit_RopeChanges_drop_second : (goes (exec (.widthDropDetect 0 15) (ropeX 0 (fun x => { x with rxMap := listPut x.rxMap 0 31 }))) (fun t => ropeState t 0 == 4)) = true := by decide +kernel
theorem wit_RopeChanges_drop_no : (goes (exec (.widthDropDetect 0 15) live) (fun t => (ropeGet t 0).rxMap.getD 15 0 == 15)) = true := by decide +kernel

/-! ## Transport and host (08, 09) -/

/-- Ranks 0 (this one) and 1 are present; channel 0's first path to rank 1 is rope 1, which is UP. -/
def grouped (s : State) : State := puts [(HP_GRP_STS_PRESENT, 3), (OE_ROPE_STS_STATE 0, 3), (OE_ROPE_PEER_RANK 0, 1)] (put [(CD_TR_ROUTE 0 1, 1)] s)
def net0 : State := grouped live
/-- A segment from endpoint `e` of rank 1 for endpoint `o`, number 1 of generation 5. -/
def sg (kind e o arg addr : Nat) (body : List Byte) : Seg := ⟨kind, 0, false, false, false, false, 1, e, 0, o, 1, 5, arg, addr, body⟩
def arr (vq : Nat) (g : Seg) (s : State) : State := netMod s (fun n => { n with arrived := [(0, vq, g)] })
/-- The connection of the segment is open in its generation. -/
def conn (vq : Nat) (g : Seg) (s : State) : State :=
  puts [(CD_TR_RX_GEN g.dstEp (connOf vq g), 5)] (rxMod s g.dstEp (connOf vq g) (fun c => { c with isOpen := true }))
def comes (vq : Nat) (g : Seg) (s : State) : State := arr vq g (conn vq g s)
def acks (vq : Nat) (g : Seg) (t : State) : Bool := (rxGet t g.dstEp (connOf vq g)).due
def sends (t : State) (ep i : Nat) : List (Nat × Nat) := ((txGet t ep i).waiting ++ (txGet t ep i).unacked).map (fun x => (x.seg.kind, x.seg.arg))
def putBody (ok : Bool) : List Byte := [1, 2, 3, 4] ++ leBytes 4 (crc32c [1, 2, 3, 4] + b2n !ok)
def aPut (o h : Nat) (ok : Bool) : Seg := sg 3 0 o h 0x10000 (putBody ok)
/-- Engine 2 of channel 0 has sent the block that segment 7 carries. -/
def sentBlock (g : Seg) (bad : Nat) (s : State) : State :=
  txMod (engine (block (copy 1 64 0) .toPkg bad []) s) g.dstEp (connIx 1 0 (g.addr % 3)) (fun c => { c with
    isOpen := true
    unacked := [⟨{ aPut 0 9 true with tseq := 7 }, none, some (0, 2), [0]⟩] })

theorem wit_Transport_stale : (!stray net0 (aPut 0 9 true) && goes (exec (.put) (arr 3 (aPut 0 9 true) net0)) (fun t => (rxGet t 0 (connOf 3 (aPut 0 9 true))).held.isEmpty && t.net.arrived.isEmpty)) = true := by decide +kernel
theorem wit_Transport_seen : (!freshRx (puts [(CD_TR_RX_CUM 0 (connOf 3 (aPut 0 9 true)), 1)] (comes 3 (aPut 0 9 true) net0)) 0 (connOf 3 (aPut 0 9 true)) 1 && goes (exec (.put) (puts [(CD_TR_RX_CUM 0 (connOf 3 (aPut 0 9 true)), 1)] (comes 3 (aPut 0 9 true) net0))) (fun t => getF t (CD_TR_RX_DUP 0 (connOf 3 (aPut 0 9 true))) == 1)) = true := by decide +kernel
theorem wit_Transport_open : (goes (exec (.openConn) (arr 1 (sg 1 0 0 0 0 []) net0)) (fun t => rxGet t 0 (connOf 1 (sg 1 0 0 0 0 [])) == ⟨true, [], [], true⟩ && getF t (CD_TR_RX_GEN 0 (connOf 1 (sg 1 0 0 0 0 []))) == 5)) = true := by decide +kernel
theorem wit_Transport_open_again : (goes (exec (.openConn) (comes 1 (sg 1 0 0 0 0 []) net0)) (fun t => getF t (CD_TR_RX_DUP 0 (connOf 1 (sg 1 0 0 0 0 []))) == 1)) = true := by decide +kernel
theorem wit_Transport_ack : (ackNames 7 0 7 && goes (exec (.ack) (arr 1 (sg 2 0 0 0 0 (leBytes 12 7)) (puts [(CD_TR_TX_GEN 0 (connIx 1 0 0), 5)] (txMod net0 0 (connIx 1 0 0) (fun c => { c with isOpen := true, unacked := [⟨{ aPut 0 9 true with tseq := 7 }, none, none, [0]⟩] }))))) (fun t => getF t (CD_TR_TX_ACKED 0 (connIx 1 0 0)) == 7 && (txGet t 0 (connIx 1 0 0)).unacked.isEmpty)) = true := by decide +kernel
theorem wit_Transport_ack_stale : (goes (exec (.ack) (arr 1 (sg 2 0 0 0 0 (leBytes 12 7)) net0)) (fun t => (txGet t 0 (connIx 1 0 0)).unacked.isEmpty)) = true := by decide +kernel
/-- Engine 2 copies 8,192 bytes to 0x10000 of rank 1; its first block is unacknowledged. -/
def blockOut : State := txMod (engine (block ⟨(copy 5 0x2000 0).raw - 2 ^ 128 * storePa 0 1 0x200 + 2 ^ 128 * 0x10000, 0x5000, none, 5, none, 0, 0, 0, none⟩ .toPkg 0 []) (puts [(CD_TR_TX_GEN 0 (connIx 1 0 0), 5)] net0)) 0 (connIx 1 0 0)
  (fun c => { c with isOpen := true, unacked := [⟨{ aPut 0 9 true with tseq := 7 }, none, some (0, 2), [0]⟩] })
theorem wit_Transport_ack_block : (((engGet blockOut 0 2).map (fun y => (y.d.dstA, y.leg == .toPkg, decide (y.d.blockEnd 0 < min y.d.len (2 ^ 40))))) == some (0x10000, true, true) && goes (exec (.ack) (arr 1 (sg 2 0 0 0 0 (leBytes 12 7)) blockOut)) (fun t => (txGet t 0 (connIx 1 0 0)).unacked.isEmpty && ((engGet t 0 2).map (·.leg)) == some .build && (eng2 t).2.2 == (((engGet blockOut 0 2).map (fun y => y.d.blockEnd 0)).getD 1))) = true := by decide +kernel
theorem wit_Transport_put_hub : (goes (exec (.put) (comes 3 (aPut 4 9 true) net0)) (fun t => acks 3 (aPut 4 9 true) t)) = true := by decide +kernel
theorem wit_Transport_put_crc : (crc32c ((putBody false).take 4) != leVal ((putBody false).drop 4) && goes (exec (.put) (comes 3 (aPut 0 9 false) net0)) (fun t => (sends t 0 (connIx 1 0 2)).contains (4, 1))) = true := by decide +kernel
theorem wit_Transport_put : (goes (exec (.put) (comes 3 (aPut 0 9 true) (grouped areas))) (fun t => readBytes t 0x10000 4 == [1, 2, 3, 4] && acks 3 (aPut 0 9 true) t)) = true := by decide +kernel
theorem wit_Transport_put_refused : (goes (exec (.put) (comes 3 (aPut 0 8 true) (grouped areas))) (fun t => (sends t 0 (connIx 1 0 2)).contains (5, 1) && acks 3 (aPut 0 8 true) t)) = true := by decide +kernel
theorem wit_Transport_nak_none : (goes (exec (.putNak) (comes 1 (sg 4 0 0 7 0 []) net0)) (fun t => acks 1 (sg 4 0 0 7 0 []) t)) = true := by decide +kernel
theorem wit_Transport_nak : (putEng (sentBlock (sg 4 0 0 7 0 []) 0 net0) 0 (connIx 1 0 0) 7 == some (0, 2) && goes (exec (.putNak) (comes 1 (sg 4 0 0 7 0 []) (sentBlock (sg 4 0 0 7 0 []) 0 net0))) (fun t => ((engGet t 0 2).map (·.bad)) == some 1 && getF t (CD_DMA_ENG_RESENT 0 2) == 1)) = true := by decide +kernel
theorem wit_Transport_nak_eighth : (goes (exec (.putNak) (comes 1 (sg 4 0 0 7 0 []) (sentBlock (sg 4 0 0 7 0 []) 7 net0))) (fun t => (eng2 t).1 == 3 && (eng2 t).2.1 == 6)) = true := by decide +kernel
theorem wit_Transport_refuse_none : (goes (exec (.putRefuse) (comes 1 (sg 5 0 0 7 0 []) net0)) (fun t => acks 1 (sg 5 0 0 7 0 []) t)) = true := by decide +kernel
theorem wit_Transport_refuse : (goes (exec (.putRefuse) (comes 1 (sg 5 0 0 7 0 []) (sentBlock (sg 5 0 0 7 0 []) 0 net0))) (fun t => (eng2 t).1 == 3 && (eng2 t).2.1 == 7)) = true := by decide +kernel
theorem wit_Transport_signal : (pkgHandle net0 7 && goes (exec (.knotSignalSegment) (comes 1 (sg 8 0 0 7 0 []) net0)) (fun t => t.knotOps == [⟨.engine 4, 7, .signal, false, false, 0, 0⟩])) = true := by decide +kernel
theorem wit_Transport_signal_bad : (!pkgHandle net0 0x1000 && goes (exec (.knotSignalSegment) (comes 1 (sg 8 0 0 0x1000 0 []) net0)) (fun t => reps t == [(0x303, 1)] && t.knotOps.isEmpty)) = true := by decide +kernel
theorem wit_Transport_timer_no : (goes (exec (.transportAckTimer 0 (Fin.ofNat 240 (connIx 1 0 0))) net0) (fun t => t.net.tx.isEmpty)) = true := by decide +kernel
theorem wit_Transport_timer : ((copies net0 0 1 0).isSome && goes (exec (.transportAckTimer 0 (Fin.ofNat 240 (connIx 1 0 0))) (rxMod net0 0 (connIx 1 0 0) (fun c => { c with due := true }))) (fun t => !(rxGet t 0 (connIx 1 0 0)).due)) = true := by decide +kernel
theorem wit_Transport_timeout : (goes (exec (.transportTimeout 0 (Fin.ofNat 240 (connIx 1 0 0))) (sentBlock (sg 4 0 0 7 0 []) 0 net0)) (fun t => (txGet t 0 (connIx 1 0 0)).unacked.map (fun x => (x.seg.tseq, x.seg.resent || x.ropes.isEmpty)) == [(7, true)])) = true := by decide +kernel
theorem wit_Transport_unreachable : (rankPresent net0 1 && ownRank net0 == 0 && goes (exec (.rankUnreachable 0 1) (puts [(OE_ROPE_STS_STATE 0, 1)] net0)) (fun t => getF t (CD_TR_STS_UNREACH 0) == 2 && getF t (CD_TR_STS_UNREACH_EVT 0) == 1 && reps t == [(0x702, 1)])) = true := by decide +kernel
theorem wit_Transport_reachable : (goes (exec (.rankUnreachable 0 1) net0) (fun t => getF t (CD_TR_STS_UNREACH 0) == 0)) = true := by decide +kernel
def hseg (op st tag len addr : Nat) (b : List Byte) : Seg := sg 0x0B 0 4 0 addr (hostBody op st tag len b)
/-- This package is the bridge. -/
def bridge : State := puts [(HP_ROLE_STATE, 2), (HP_GRP_STS_BRIDGE_V, 1)] net0
def hsent (t : State) (i : Nat) : List (Nat × List Byte) := ((txGet t 4 i).waiting ++ (txGet t 4 i).unacked).map (fun x => (hostOp x.seg, x.seg.body.drop 8))

theorem wit_HostTraffic_redirected : (goes (exec (.hostWrite) (comes 3 (hseg 1 0 0 0 0x100 [7]) net0)) (fun t => (hsent t (connIx 1 0 0)).contains (5, []) && t.mem == net0.mem)) = true := by decide +kernel
theorem wit_HostTraffic_write : (isBridge bridge && asksHost (hseg 1 0 0 0 0x100 [7, 8]) && goes (exec (.hostWrite) (comes 3 (hseg 1 0 0 0 0x100 [7, 8]) bridge)) (fun t => readLE t (hostBase + 0x100) 2 == 0x807)) = true := by decide +kernel
theorem wit_HostTraffic_read : (goes (exec (.hostReadRequest 0 [(0x100, [5, 6])]) (comes 3 (hseg 2 0 9 2 0x100 []) bridge)) (fun t => (hsent t (connIx 1 0 0)).contains (3, [5, 6]))) = true := by decide +kernel
theorem wit_HostTraffic_completion : (goes (exec (.hostReadCompletion) (hubMod (comes 3 (hseg 3 0 9 2 0 [5, 6]) net0) (fun h => { h with hostReads := [⟨4, hostBase, 2, 9, none⟩] }))) (fun t => t.hub.hostReads.map (·.data) == [some ([5, 6], false)])) = true := by decide +kernel
theorem wit_HostTraffic_irq : (goes (exec (.hostInterrupt) (comes 3 (hseg 4 0 0 0 0 []) bridge)) (fun t => t.hub.irqs == [33])) = true := by decide +kernel
theorem wit_HostTraffic_redirect_none : (goes (exec (.hostRedirect) (comes 3 (hseg 5 0 0 0 0 []) net0)) (fun t => getF t HP_GRP_STS_BRIDGE_V == 0)) = true := by decide +kernel
theorem wit_HostTraffic_redirect : (goes (exec (.hostRedirect) (comes 3 (hseg 5 0 0 0 0 []) (puts [(HP_GRP_STS_BRIDGE_V, 1), (HP_GRP_STS_BRIDGE, 2)] (txMod net0 4 (connIx 1 4 0) (fun c => { c with isOpen := true, unacked := [⟨hseg 1 0 0 0 0 [7], none, none, []⟩] }))))) (fun t => (txGet t 4 (connIx 1 4 0)).unacked.isEmpty && (txGet t 4 (connIx 1 4 0)).waiting.isEmpty)) = true := by decide +kernel
theorem wit_HostTraffic_nothing : (goes (exec (.hostWrite) bridge) (fun t => t.mem == bridge.mem)) = true := by decide +kernel
def portX (f : PortX → PortX) (s : State) : State := portMod s f
def linkedUp (s : State) : State := portX (fun p => { p with perst := false, up := true }) s
/-- Queue pair 0 is enabled with 16 entries in each ring; its first command stands in the ring. -/
def queue0 : State := puts [(HP_HQ_BASE 0, 1), (HP_HQ_EN 0, 1), (HP_HQ_SIZE 0, 4), (HP_HQ_DB_SQ_TAIL 0, 1)] (put [(HP_HQ 0 1, 4 + 0x2000), (HP_HQ 0 3, 1)] bridge)
def entry (ty rank ch csn : Nat) : BitVec 1024 := BitVec.ofNat 1024 (bytes [(0, 1, ty), (2, 1, rank), (3, 1, ch), (8, 8, csn)])
def dmaEntry : BitVec 1024 := BitVec.ofNat 1024 (bytes [(0, 1, 3), (8, 8, 1)] + 2 ^ 512 * (copy 1 64 0).raw)
def cq (t : State) : Nat × Nat × Nat := (readLE t (cqPa t 0 0) 8, readLE t (cqPa t 0 0 + 13) 1, getF t (HP_HQ_CQ_TAIL 0))

theorem wit_HostPort_linkUp : (bridgeCapable net0 && !clkLost net0 54 && goes (exec (.pcieLinkUp) (portX (fun p => { p with perst := false }) net0)) (fun t => t.hub.port.up)) = true := by decide +kernel
theorem wit_HostPort_linkUp_no : (goes (exec (.pcieLinkUp) net0) (fun t => !t.hub.port.up)) = true := by decide +kernel
theorem wit_HostPort_linkDown : (goes (exec (.pcieLinkDown) (linkedUp net0)) (fun t => !t.hub.port.up)) = true := by decide +kernel
theorem wit_HostPort_linkDown_bridge : (goes (exec (.pcieLinkDown) (linkedUp bridge)) (fun t => roleOf t == 7 && getF t HP_ROLE_CAUSE == 4 && reps t == [(0x804, 0)])) = true := by decide +kernel
theorem wit_HostPort_linkDown_no : (goes (exec (.pcieLinkDown) bridge) (fun t => roleOf t == 2)) = true := by decide +kernel
theorem wit_HostPort_perst : (goes (exec (.perst true) (portX (fun p => { p with perst := false }) net0)) (fun t => t.hub.port.perst)) = true := by decide +kernel
theorem wit_HostPort_perst_off : (goes (exec (.perst false) net0) (fun t => !t.hub.port.perst)) = true := by decide +kernel
theorem wit_HostPort_config : (goes (exec (.configurationRequest 0) (linkedUp net0)) (fun t => t.boot.cfgOut == [some 0x55311F3C])) = true := by decide +kernel
theorem wit_HostPort_config_early : (goes (exec (.configurationRequest 0) (puts [(HP_BOOT_STS_STAGE, 0)] (linkedUp net0))) (fun t => t.boot.cfgOut == [none])) = true := by decide +kernel
theorem wit_HostPort_enable : (takes bridge (HP_HQ 0 0) (putBits 0x1004 4 4 1) && goes (exec (.queueEnable 0 0x1004) bridge) (fun t => rd t (HP_HQ 0 3) == 1 && getF t (HP_HQ_EN 0) == 1 && getF t (HP_HQ_PHASE 0) == 1)) = true := by decide +kernel
theorem wit_HostPort_disable : (takes queue0 (HP_HQ 0 0) (putBits (rd queue0 (HP_HQ 0 0)) 4 4 0) && goes (exec (.queueDisable 0) queue0) (fun t => getF t (HP_HQ_EN 0) == 0 && (outstOf t 0).isEmpty)) = true := by decide +kernel
theorem wit_HostPort_doorbell : (takes queue0 (HP_HQ_DB 0) 5 && goes (exec (.doorbell 0 5) queue0) (fun t => getF t (HP_HQ_DB_SQ_TAIL 0) == 5)) = true := by decide +kernel
theorem wit_HostPort_not_ready : (!sqReady bridge 0 && goes (exec (.sqNoop 0 (entry 4 0 0 1)) bridge) (fun t => getF t (HP_HQ_SQ_HEAD 0) == 0)) = true := by decide +kernel
theorem wit_HostPort_sequence : (sqReady queue0 0 && nextCsn queue0 0 == 1 && populated (cqPa queue0 0 0) && !paLost queue0 (cqPa queue0 0 0) && goes (exec (.sqNoop 0 (entry 4 0 0 2)) queue0) (fun t => cq t == (2, 4, 1) && getF t (HP_HQ_STOPPED 0) == 1)) = true := by decide +kernel
theorem wit_HostPort_malformed : (goes (exec (.sqNoop 0 (entry 5 0 0 1)) queue0) (fun t => cq t == (1, 2, 1))) = true := by decide +kernel
theorem wit_HostPort_absent : (!rankPresent queue0 3 && goes (exec (.sqNoop 0 (entry 4 3 0 1)) queue0) (fun t => cq t == (1, 3, 1))) = true := by decide +kernel
theorem wit_HostPort_down : (goes (exec (.sqNoop 0 (entry 4 0 0 1)) (puts [(CH_DIE_STS_STATE 0, 4)] queue0)) (fun t => cq t == (1, 5, 1))) = true := by decide +kernel
theorem wit_HostPort_repeat : ((cmdRec (portX (fun p => { p with cmds := [(0, ⟨1, [(1, 0)]⟩)] }) queue0) 0 0).high == 1 && goes (exec (.sqNoop 0 (entry 4 0 0 1)) (portX (fun p => { p with cmds := [(0, ⟨1, [(1, 0)]⟩)] }) queue0)) (fun t => cq t == (1, 1, 1))) = true := by decide +kernel
theorem wit_HostPort_remote : (goes (exec (.sqNoop 0 (entry 4 1 0 1)) queue0) (fun t => t.hub.port.outst.map (·.rank) == [1])) = true := by decide +kernel
theorem wit_HostPort_noop : (goes (exec (.sqNoop 0 (entry 4 0 0 1)) queue0) (fun t => t.hub.responses == [⟨0, 0, 1, 0⟩] && (cmdRec t 0 0).high == 1)) = true := by decide +kernel
theorem wit_HostPort_admission : (goes (exec (.sqAdmissionRequest 0 (entry 1 0 0 1)) queue0) (fun t => (dieGet t 0).admQ == [⟨.queue 0 0 1, 0, some 0⟩])) = true := by decide +kernel
theorem wit_HostPort_preemption : (goes (exec (.sqPreemptionRequest 0 (entry 2 0 0 1)) queue0) (fun t => (dieGet t 0).preQ == [⟨.queue 0 0 1, 0, some 0⟩])) = true := by decide +kernel
theorem wit_HostPort_dma : (!dmaFull queue0 0 && goes (exec (.sqDmaDescriptor 0 dmaEntry) queue0) (fun t => (dieGet t 0).dmaQ.length == 1)) = true := by decide +kernel
theorem wit_HostPort_completion : (!mustWait (portX (fun p => { p with outst := [⟨0, 1, 1, 0, 4, 0, false⟩] }) queue0) 0 1 && goes (exec (.completionWrite (some ⟨0, 1, false, 0⟩)) (portX (fun p => { p with outst := [⟨0, 1, 1, 0, 4, 0, false⟩] }) queue0)) (fun t => cq t == (1, 0, 1) && t.hub.port.outst.isEmpty)) = true := by decide +kernel
theorem wit_HostPort_completion_own : (goes (exec (.completionWrite none) (hubMod (portX (fun p => { p with outst := [⟨0, 1, 1, 0, 4, 0, false⟩] }) queue0) (fun h => { h with responses := [⟨0, 0, 1, 0⟩] }))) (fun t => cq t == (1, 0, 1) && t.hub.responses.isEmpty)) = true := by decide +kernel
theorem wit_HostPort_completion_none : (goes (exec (.completionWrite none) queue0) (fun t => getF t (HP_HQ_CQ_TAIL 0) == 0)) = true := by decide +kernel
theorem wit_HostPort_completion_elsewhere : (!isBridge net0 && goes (exec (.completionWrite (some ⟨0, 1, false, 0⟩)) net0) (fun t => getF t (HP_HQ_CQ_TAIL 0) == 0)) = true := by decide +kernel

/-! ## Bridge (09) -/

/-- A rank in a role, whose lease is enabled and whose link is up. -/
def role (r : Nat) (s : State) : State := linkedUp (puts [(HP_ROLE_STATE, r), (HP_LEASE_CFG_EN, 1)] s)
def inCas (k : CasKind) (expect : Nat) (s : State) : State := portX (fun p => { p with cas := some ⟨k, expect, leaseNext 0 expect⟩ }) s
def bAns (t : State) : Nat × Nat := (getF t HP_BRIDGE_CMD_STATUS, getF t HP_BRIDGE_CMD_REASON)
def rc (t : State) : Nat × Nat := (roleOf t, getF t HP_ROLE_CAUSE)
def bW (o : Nat) (l : List (Fld × Nat)) : Word := cmdWord ((HP_BRIDGE_CMD_OP, o) :: l)
/-- Channel 0 has a path to rank 1, so its control segments for rank 1 can leave. -/
def lost2 (s : State) : State := puts [(HP_HB_STS_ROPE_LOST, 1), (HP_HB_STS_SB_LOST, 1)] s

theorem wit_BridgeRoles_start : (takes (role 0 net0) HP_BRIDGE_CMD (bW 1 [(HP_BRIDGE_CMD_CLAIM, 0)]) && goes (exec (.start false) (role 0 net0)) (fun t => bAns t == (2, 0) && rc t == (1, 1))) = true := by decide +kernel
theorem wit_BridgeRoles_start_claim : (goes (exec (.start true) (role 0 net0)) (fun t => getF t HP_BRIDGE_CMD_STATUS == 1 && t.hub.port.cas == some ⟨.start, 0, leaseNext 0 0⟩)) = true := by decide +kernel
theorem wit_BridgeRoles_start_rank : (goes (exec (.start true) (puts [(HP_GRP_STS_RANK, 2)] (role 0 net0))) (fun t => bAns t == (3, 1))) = true := by decide +kernel
theorem wit_BridgeRoles_start_conflict : (goes (exec (.start true) (puts [(HP_GRP_STS_SELF_CONFLICT, 1)] (role 0 net0))) (fun t => bAns t == (3, 3))) = true := by decide +kernel
theorem wit_BridgeRoles_start_lease : (goes (exec (.start true) net0) (fun t => bAns t == (3, 4))) = true := by decide +kernel
theorem wit_BridgeRoles_start_role : (goes (exec (.start true) (role 1 net0)) (fun t => bAns t == (3, 5))) = true := by decide +kernel
theorem wit_BridgeRoles_relinquish : (takes (role 2 net0) HP_BRIDGE_CMD (bW 2 []) && goes (exec (.relinquish) (role 2 net0)) (fun t => getF t HP_BRIDGE_CMD_STATUS == 1 && rc t == (6, 5))) = true := by decide +kernel
theorem wit_BridgeRoles_relinquish_no : (goes (exec (.relinquish) (role 1 net0)) (fun t => bAns t == (3, 5))) = true := by decide +kernel
theorem wit_BridgeRoles_relinquish_end : (goes (exec (.relinquishEnd) (role 6 net0)) (fun t => bAns t == (2, 0) && rc t == (7, 5) && (t.hub.port.cas.map (·.kind)) == some .relinquish)) = true := by decide +kernel
theorem wit_BridgeRoles_relinquish_end_no : (goes (exec (.relinquishEnd) (role 2 net0)) (fun t => roleOf t == 2)) = true := by decide +kernel
theorem wit_BridgeRoles_forget : (takes net0 HP_BRIDGE_CMD (bW 3 [(HP_BRIDGE_CMD_RANK, 1)]) && goes (exec (.forget 1) net0) (fun t => bAns t == (2, 0) && !rankPresent t 1)) = true := by decide +kernel
theorem wit_BridgeRoles_forget_own : (goes (exec (.forget 0) net0) (fun t => bAns t == (3, 5) && rankPresent t 0)) = true := by decide +kernel
theorem wit_BridgeRoles_renewal : (goes (exec (.leaseRenewal) (role 2 net0)) (fun t => (t.hub.port.cas.map (·.kind)) == some .renew)) = true := by decide +kernel
theorem wit_BridgeRoles_renewal_no : (goes (exec (.leaseRenewal) net0) (fun t => t.hub.port.cas.isNone)) = true := by decide +kernel
theorem wit_BridgeRoles_renewal_timeout : (goes (exec (.leaseRenewalTimeout) (inCas .renew 5 (role 2 net0))) (fun t => rc t == (7, 3) && reps t == [(0x804, 0)])) = true := by decide +kernel
theorem wit_BridgeRoles_renewal_timeout_no : (goes (exec (.leaseRenewalTimeout) (role 2 net0)) (fun t => roleOf t == 2)) = true := by decide +kernel
theorem wit_BridgeRoles_read_no : (goes (exec (.leaseRead 0) (role 1 net0)) (fun t => roleOf t == 1)) = true := by decide +kernel
theorem wit_BridgeRoles_read_claims : (goes (exec (.leaseRead 0) (puts [(HP_CKPT_STS_VALID, 1)] (lost2 (role 3 net0)))) (fun t => roleOf t == 4 && (t.hub.port.cas.map (·.kind)) == some .claim && t.hub.port.lease == 0)) = true := by decide +kernel
theorem wit_BridgeRoles_read_no_ckpt : (goes (exec (.leaseRead 0) (lost2 (role 3 net0))) (fun t => roleOf t == 3 && getF t HP_HB_STS_NO_CKPT == 1 && (reps t).map (·.1) == [0x805])) = true := by decide +kernel
theorem wit_BridgeRoles_read_fifth : (leaseValid 17 && goes (exec (.leaseRead 17) (portX (fun p => { p with watch := some (17, 4) }) (puts [(HP_CKPT_STS_VALID, 1)] (lost2 (role 3 net0))))) (fun t => roleOf t == 4)) = true := by decide +kernel
theorem wit_BridgeRoles_read_fourth : (goes (exec (.leaseRead 17) (portX (fun p => { p with watch := some (17, 3) }) (lost2 (role 3 net0)))) (fun t => roleOf t == 3 && t.hub.port.watch == some (17, 4))) = true := by decide +kernel
theorem wit_BridgeRoles_cas_none : (goes (exec (.leaseCasComplete 0) (role 2 net0)) (fun t => roleOf t == 2)) = true := by decide +kernel
theorem wit_BridgeRoles_cas_start : (goes (exec (.leaseCasComplete 0) (inCas .start 0 (role 0 net0))) (fun t => roleOf t == 2 && getF t HP_BRIDGE_CMD_STATUS == 2 && t.hub.irqs.contains 48 && t.hub.port.cas.isNone)) = true := by decide +kernel
theorem wit_BridgeRoles_cas_start_lost : (goes (exec (.leaseCasComplete 17) (inCas .start 0 (role 0 net0))) (fun t => bAns t == (3, 2) && roleOf t == 0)) = true := by decide +kernel
theorem wit_BridgeRoles_cas_renew : (goes (exec (.leaseCasComplete 5) (inCas .renew 5 (role 2 net0))) (fun t => roleOf t == 2 && t.hub.port.lease == leaseNext 0 5)) = true := by decide +kernel
theorem wit_BridgeRoles_cas_renew_lost : (goes (exec (.leaseCasComplete 6) (inCas .renew 5 (role 2 net0))) (fun t => rc t == (7, 3) && t.hub.port.lease == 6)) = true := by decide +kernel
theorem wit_BridgeRoles_cas_claim : (goes (exec (.leaseCasComplete 5) (inCas .claim 5 (role 4 net0))) (fun t => roleOf t == 5)) = true := by decide +kernel
theorem wit_BridgeRoles_cas_claim_lost : (goes (exec (.leaseCasComplete 6) (inCas .claim 5 (role 4 net0))) (fun t => roleOf t == 3 && getF t HP_HB_STS_SPLIT == 1 && reps t == [(0x805, 0)])) = true := by decide +kernel
theorem wit_BridgeRoles_cas_relinquish : (goes (exec (.leaseCasComplete 5) (inCas .relinquish 5 (role 7 net0))) (fun t => roleOf t == 7)) = true := by decide +kernel
theorem wit_BridgeRoles_takeover_no : (goes (exec (.takeover []) (role 1 net0)) (fun t => roleOf t == 1)) = true := by decide +kernel
theorem wit_BridgeRoles_takeover : (roleOf (role 5 net0) == 5) = true := by decide +kernel
theorem wit_BridgePaths_checkpoint : (roleOf (role 2 net0) == 2 && (copies (role 2 net0) 4 (peerRank (role 2 net0)) 2).isSome && roleOf (role 6 net0) == 6 && !(role 6 net0).hub.port.finalSent) = true := by decide +kernel
theorem wit_BridgePaths_checkpoint_no : (goes (exec (.checkpoint) net0) (fun t => t.hub.port.ckptSent == 0)) = true := by decide +kernel
theorem wit_BridgePaths_final_no : (goes (exec (.finalCheckpoint) net0) (fun t => t.hub.port.ckptSent == 0)) = true := by decide +kernel
theorem wit_BridgePaths_send : (bridgeCapable net0 && !pkgSafe net0 && (copies (role 2 net0) 4 1 2).isSome && goes (exec (.heartbeatSend) (role 2 net0)) (fun t => t.hub.port.beats == 1 && (sends t 4 (connIx 1 4 2)).any (fun x => x.1 == 9))) = true := by decide +kernel
theorem wit_BridgePaths_send_no : (goes (exec (.heartbeatSend) net0) (fun t => t.hub.port.beats == 0)) = true := by decide +kernel
theorem wit_BridgePaths_edge : (!clkLost net0 58 && goes (exec (.heartbeatEdge) net0) (fun t => t.hub.port.sideBeat.seen)) = true := by decide +kernel
theorem wit_BridgePaths_edge_no : (goes (exec (.heartbeatEdge) (puts [(HP_GRP_STS_RANK, 2)] net0)) (fun t => !t.hub.port.sideBeat.seen)) = true := by decide +kernel
theorem wit_BridgePaths_window : (goes (exec (.heartbeatWindow) (portX (fun p => { p with ropeBeat := ⟨true, 3, 0⟩ }) (role 2 net0))) (fun t => t.hub.port.ropeBeat == ⟨false, 0, 0⟩ && t.hub.port.sideBeat == ⟨false, 1, 0⟩)) = true := by decide +kernel
theorem wit_BridgePaths_window_lost : (goes (exec (.heartbeatWindow) (portX (fun p => { p with ropeBeat := ⟨false, 4, 0⟩, sideBeat := ⟨false, 4, 0⟩ }) (role 1 net0))) (fun t => getF t HP_HB_STS_ROPE_LOST == 1 && getF t HP_HB_STS_SB_LOST == 1 && roleOf t == 3 && (reps t).map (·.1) == [0x803, 0x803])) = true := by decide +kernel
theorem wit_BridgePaths_window_split : (goes (exec (.heartbeatWindow) (portX (fun p => { p with ropeBeat := ⟨false, 4, 0⟩, sideBeat := ⟨false, 4, 0⟩ }) (role 2 net0))) (fun t => roleOf t == 2 && getF t HP_HB_STS_SPLIT == 1)) = true := by decide +kernel
theorem wit_BridgePaths_window_back : (goes (exec (.heartbeatWindow) (lost2 (portX (fun p => { p with ropeBeat := ⟨true, 0, 2⟩ }) (role 2 net0)))) (fun t => getF t HP_HB_STS_ROPE_LOST == 0 && t.hub.port.ropeBeat == ⟨false, 0, 0⟩)) = true := by decide +kernel
theorem wit_BridgePaths_window_second : (goes (exec (.heartbeatWindow) (lost2 (portX (fun p => { p with ropeBeat := ⟨true, 0, 1⟩ }) (role 2 net0)))) (fun t => getF t HP_HB_STS_ROPE_LOST == 1 && t.hub.port.ropeBeat == ⟨false, 0, 2⟩)) = true := by decide +kernel
theorem wit_BridgePaths_window_no : (goes (exec (.heartbeatWindow) net0) (fun t => t.hub.port.sideBeat == ⟨false, 0, 0⟩)) = true := by decide +kernel
theorem wit_BridgePaths_announce : (goes (exec (.announcement) (role 2 net0)) (fun t => (sends t 4 (connIx 1 4 2)).any (fun x => x.1 == 9))) = true := by decide +kernel
theorem wit_BridgePaths_announce_no : (goes (exec (.announcement) net0) (fun t => t.net.tx.isEmpty)) = true := by decide +kernel
def beat (r flags ck : Nat) : Seg := sg 9 4 4 0 0 (leBytes 32 (bytes [(0, 1, r), (1, 1, flags), (4, 4, ck)]))
def chunk (n ix cnt : Nat) (ok : Bool) : Seg := sg 0x0A 4 4 0 0 (leBytes 32 (bytes [(0, 4, n), (4, 2, ix), (6, 2, cnt), (8, 4, 2), (12, 4, crc32c [5, 6] + b2n !ok)]) ++ [5, 6])
def alternate : State := puts [(HP_CKPT_AREA_EN, 1)] (role 1 net0)

theorem wit_BridgePaths_beat : (goes (exec (.heartbeat) (comes 1 (beat 1 1 0) (role 1 net0))) (fun t => t.hub.port.ropeBeat.seen && t.hub.port.peerRole == 1 && getF t HP_GRP_STS_BRIDGE == 1 && getF t HP_GRP_STS_BRIDGE_V == 1)) = true := by decide +kernel
theorem wit_BridgePaths_beat_ckpt : (goes (exec (.heartbeat) (comes 1 (beat 2 0 77) (role 2 net0))) (fun t => getF t HP_CKPT_STS_VALID == 77)) = true := by decide +kernel
theorem wit_BridgePaths_beat_relinquishing : (goes (exec (.heartbeat) (comes 1 (beat 3 0 0) (role 1 net0))) (fun t => roleOf t == 3)) = true := by decide +kernel
theorem wit_BridgePaths_chunk_no : (goes (exec (.checkpointChunk) (comes 1 (chunk 1 0 1 true) (role 2 net0))) (fun t => t.hub == (role 2 net0).hub)) = true := by decide +kernel
theorem wit_BridgePaths_chunk_part : (goes (exec (.checkpointChunk) (comes 1 (chunk 1 1 2 true) alternate)) (fun t => (t.hub.port.ckptRx.map (fun x => (x.num, x.count, tabGet (fun _ => []) x.chunks 1))) == some (1, 2, [5, 6]))) = true := by decide +kernel
theorem wit_BridgePaths_chunk : (fieldLE (chunk 1 0 1 true).body 12 4 == crc32c ((chunk 1 0 1 true).body.drop 32) && (injSlot alternate 7 0).isNone && getF alternate HP_CKPT_AREA_EN == 1) = true := by decide +kernel
theorem wit_BridgePaths_chunk_good : (goes (exec (.checkpointChunk) (comes 1 (chunk 1 0 1 true) alternate)) (fun t => getF t HP_CKPT_STS_VALID == 1 && readLE t (ckptSlot t 1) 2 == 0x605)) = true := by decide +kernel
theorem wit_BridgePaths_chunk_bad : (goes (exec (.checkpointChunk) (comes 1 (chunk 1 0 1 false) alternate)) (fun t => getF t HP_CKPT_STS_VALID == 0 && getF t HP_CKPT_STS_CRC_FAIL == 1 && t.hub.port.ckptRx.isNone)) = true := by decide +kernel

/-! ## Management, the sideband and the test port (00, 14) -/

def disc (t : State) (u : Nat) : Nat × Nat := (getF t (SN_DISC_COUNT u), getF t (SN_DISC_LAST_CAUSE u))
def here : State := linkedUp net0
def bar (t : State) : List (BarStatus × Nat) := t.hub.port.done.map (fun b => (b.status, b.data))
def fwds : State := portX (fun p => { p with fwd := [⟨5, 1, 0x20, 1⟩] }) here
def mreq (op : Nat) (addr : Nat) (v : Nat) : Seg := sg 6 4 4 0 addr (leBytes 16 (5 + op * 2 ^ 16 + v * 2 ^ 64))
def mrsp (st v : Nat) : Seg := sg 7 4 4 0 0 (leBytes 16 (5 + st * 2 ^ 16 + v * 2 ^ 64))
def adr36 (a : Nat) : BitVec 36 := BitVec.ofNat 36 a
def nextA : Nat := HP_FW_ARG0

theorem wit_ManagementAccess_unserved : (!served State.reset && goes (exec (.mgmtWrite (adr36 HP_FW_ARG0) 8 5 true) State.reset) (fun t => rd t HP_FW_ARG0 == 0)) = true := by decide +kernel
theorem wit_ManagementAccess_width : ((writeRefusal here HP_FW_ARG0 4 5).isSome && goes (exec (.mgmtWrite (adr36 HP_FW_ARG0) 4 5 true) here) (fun t => (disc t (adrUnit HP_FW_ARG0 % 16)).1 == 1 && rd t HP_FW_ARG0 == 0)) = true := by decide +kernel
theorem wit_ManagementAccess_row : ((writeRefusal (puts [(SN_TRC_MARK_STATUS, 1)] here) SN_TRC_MARK 8 5).isSome && goes (exec (.traceMark 5) (puts [(SN_TRC_MARK_STATUS, 1)] here)) (fun t => getF t (SN_DISC_COUNT (adrUnit SN_TRC_MARK % 16)) == 1)) = true := by decide +kernel
theorem wit_ManagementAccess_write : ((writeRefusal here HP_FW_ARG0 8 5).isNone && goes (exec (.mgmtWrite (adr36 HP_FW_ARG0) 8 5 true) here) (fun t => rd t HP_FW_ARG0 == 5)) = true := by decide +kernel
theorem wit_ManagementAccess_held : (fwOwned SN_CMD && fwAway (bootMod here (fun b => { b with fwUp := false })) && goes (exec (.mgmtWrite (adr36 SN_CMD) 8 1 true) (bootMod here (fun b => { b with fwUp := false }))) (fun t => getF t SN_CMD_STATUS == 1 && t.boot.held == [(SN_CMD, true)])) = true := by decide +kernel
theorem wit_ManagementAccess_bar_down : (goes (exec (.bar2RemoteAccess 0 (adr36 HP_FW_ARG0) .read64 0) net0) (fun t => bar t == [])) = true := by decide +kernel
theorem wit_ManagementAccess_bar_read : (!hidden here HP_FWD_CTL && !dieAway here HP_FWD_CTL && !queuePage HP_FWD_CTL && goes (exec (.bar2RemoteAccess 0 (adr36 HP_FWD_CTL) .read64 0) here) (fun t => bar t == [(.done, 0x1F4)])) = true := by decide +kernel
theorem wit_ManagementAccess_bar_high : (goes (exec (.bar2RemoteAccess 0 (adr36 HP_FWD_CTL) .readHigh 0) here) (fun t => bar t == [(.done, 0)])) = true := by decide +kernel
theorem wit_ManagementAccess_bar_none : (goes (exec (.bar2RemoteAccess 0 (adr36 0xF00000000) .read64 0) here) (fun t => bar t == [(.done, 0)] && (disc t 15) == (1, 2))) = true := by decide +kernel
theorem wit_ManagementAccess_bar_absent : (!rankPresent here 3 && goes (exec (.bar2RemoteAccess 3 (adr36 HP_FWD_CTL) .read64 0) here) (fun t => bar t == [(.unsupported, 0)] && reps t == [(0x11D, 0)])) = true := by decide +kernel
theorem wit_ManagementAccess_bar_forward : (rankPresent here 1 && goes (exec (.bar2RemoteAccess 1 (adr36 HP_FWD_CTL) .read64 0) here) (fun t => t.hub.port.fwd.map (fun f => (f.rank, f.addr)) == [(1, HP_FWD_CTL)] && (sends t 4 (connIx 1 4 2)).any (fun x => x.1 == 6))) = true := by decide +kernel
theorem wit_ManagementAccess_request_write : (goes (exec (.managementRequest) (comes 1 (mreq 4 HP_FW_ARG0 9) here)) (fun t => rd t HP_FW_ARG0 == 9)) = true := by decide +kernel
theorem wit_ManagementAccess_request_read : (goes (exec (.managementRequest) (comes 1 (mreq 1 HP_FWD_CTL 0) here)) (fun t => ((txGet t 4 (connIx 1 4 2)).waiting ++ (txGet t 4 (connIx 1 4 2)).unacked).any (fun x => x.seg.kind == 7 && fieldLE x.seg.body 8 8 == 0x1F4))) = true := by decide +kernel
theorem wit_ManagementAccess_request_unserved : (goes (exec (.managementRequest) (bootMod (comes 1 (mreq 4 HP_FW_ARG0 9) here) (fun b => { b with pwrok := false }))) (fun t => t.net.arrived.length == 1)) = true := by decide +kernel
theorem wit_ManagementAccess_response : (goes (exec (.managementResponse) (comes 1 (mrsp 0 9) fwds)) (fun t => bar t == [(.done, 9)] && t.hub.port.fwd.isEmpty)) = true := by decide +kernel
theorem wit_ManagementAccess_response_poisoned : (goes (exec (.managementResponse) (comes 1 (mrsp 2 9) fwds)) (fun t => bar t == [(.poisoned, 9)])) = true := by decide +kernel
theorem wit_ManagementAccess_response_unasked : (goes (exec (.managementResponse) (comes 1 (mrsp 0 9) here)) (fun t => bar t == [])) = true := by decide +kernel
theorem wit_ManagementAccess_timeout : (goes (exec (.forwardedReadTimeout 5) fwds) (fun t => bar t == [(.aborted, 0)] && reps t == [(0x802, 0)] && getF t HP_FWD_CTL_FWD_CA == 1)) = true := by decide +kernel
theorem wit_ManagementAccess_timeout_none : (goes (exec (.forwardedReadTimeout 4) fwds) (fun t => bar t == [])) = true := by decide +kernel
theorem wit_ManagementAccess_i3c_read : (sideUp here && goes (exec (.i3cPrivateWrite (leBytes 6 (1 + HP_FWD_CTL * 2 ^ 8))) here) (fun t => t.side.i3c == some (0x1F4, 0))) = true := by decide +kernel
theorem wit_ManagementAccess_i3c_write : (goes (exec (.i3cPrivateWrite (leBytes 14 (2 + HP_FW_ARG0 * 2 ^ 8 + 6 * 2 ^ 48))) here) (fun t => t.side.i3c == some (0, 0) && rd t HP_FW_ARG0 == 6)) = true := by decide +kernel
theorem wit_ManagementAccess_i3c_unserved : (sideUp (hubMod here (fun h => { h with down := true })) && goes (exec (.i3cPrivateWrite (leBytes 6 1)) (hubMod here (fun h => { h with down := true }))) (fun t => t.side.i3c == some (0, 1))) = true := by decide +kernel
theorem wit_ManagementAccess_i3c_shape : (goes (exec (.i3cPrivateWrite [1]) here) (fun t => t.side.i3c == none)) = true := by decide +kernel
theorem wit_ManagementAccess_i3c_answer : (goes (exec (.i3cPrivateRead) { here with side := { here.side with i3c := some (7, 0) } }) (fun t => t.side.i3cOut == [(7, 0)] && t.side.i3c == none)) = true := by decide +kernel
theorem wit_TestPort_clock : (!jtagPrivate here && goes (exec (.idcode) here) (fun t => t.side.ir == 2 && t.side.dr == 0x4D585531)) = true := by decide +kernel
theorem wit_TestPort_no_clock : (!sideUp (hubMod here (fun h => { h with noClk := [(58, 0)] })) && goes (exec (.idcode) (hubMod here (fun h => { h with noClk := [(58, 0)] }))) (fun t => t.side == here.side)) = true := by decide +kernel
theorem wit_TestPort_preload : (goes (exec (.samplePreload 5 6) here) (fun t => t.side.dr == 5 && t.side.bsr == 6)) = true := by decide +kernel
theorem wit_TestPort_public : (goes (exec (.mgmtAcc 1) here) (fun t => t.side.ir == 0xFF && t.side.dr == 0)) = true := by decide +kernel
def debugging : State := puts [(HP_BOOT_STS_DEBUG, 1)] (bootMod here (fun b => { b with debug := 0xFF }))
def accW (o a v : Nat) : BitVec 112 := BitVec.ofNat 112 (o + a * 2 ^ 8 + v * 2 ^ 48)
theorem wit_TestPort_read : (jtagPrivate debugging && goes (exec (.mgmtAcc (accW 1 HP_FWD_CTL 0)) debugging) (fun t => t.side.ir == 0x40 && t.side.dr == 0x1F4)) = true := by decide +kernel
theorem wit_TestPort_write : (goes (exec (.mgmtAcc (accW 2 HP_FW_ARG0 6)) debugging) (fun t => t.side.dr == 0 && rd t HP_FW_ARG0 == 6)) = true := by decide +kernel
theorem wit_TestPort_unserved : (jtagPrivate (hubMod debugging (fun h => { h with down := true })) && goes (exec (.mgmtAcc (accW 2 HP_FW_ARG0 6)) (hubMod debugging (fun h => { h with down := true }))) (fun t => t.side.dr == 2 ^ 64)) = true := by decide +kernel
theorem wit_TestPort_other : (goes (exec (.mgmtAcc 0) debugging) (fun t => t.side.ir == 0x40 && t.side.dr == 0)) = true := by decide +kernel
theorem wit_TestPort_dieSel : (goes (exec (.dieSel 13) debugging) (fun t => t.side.dieSel == some 13)) = true := by decide +kernel

/-! ## Reading the state (10) -/

def snapping (dies cut : List Nat) (sent : Bool) (s : State) : State := { s with read := { s.read with snap := some ⟨0x55, dies, cut, sent⟩ } }
def holding (a : Nat) (s : State) : State := { s with read := { s.read with hold := [(a, 0)] } }
def cuts : List Nat := (List.range 384).map (keyBrick 0) ++ (List.range 16).map (keyKnots 0) ++ [keyDie 0]
def snapSt (t : State) : Nat := getF t SN_CMD_STATUS
def cclr (t : State) : Nat × Nat × Nat := (getF t SN_CCLR_STATUS, getF t SN_CCLR_RES_OUTCOME, getF t SN_CCLR_RES_COUNT)
/-- The trace takes every kind from every source into a ring at 0. -/
def tracing : State := puts [(SN_TRC_CTL_EN, 1), (SN_TRC_CTL_KINDS, 0xFF), (SN_TRC_CTL_SRCS, 0xFF)] live
def rec0 (t : State) : List (Nat × Nat × Nat × Nat) := t.read.queue.map (fun r => (r % 256, r / 2 ^ 8 % 256, r / 2 ^ 80 % 2 ^ 16, r / 2 ^ 96 % 2 ^ 32))
def oneRec (s : State) : State := { s with read := { s.read with queue := [0x1234] } }
def flagged : State := puts [(⟨OE_EVT 0, 7, 7, 7⟩, 1), (occFld (optEvt 0 7) 7, 3)] live
def evA : BitVec 36 := BitVec.ofNat 36 (OE_EVT 0)

def quiet : State := bootMod (hubMod State.reset id) (fun b => { b with pwrok := true, fwUp := true })
def snapable : State := puts [(HP_BOOT_STS_STAGE, 7), (CH_DIE_STS_STATE 1, 3)] quiet
theorem wit_Snapshots_snap : (takes snapable SN_CMD (cmdWord [(SN_CMD_OP, 1), (SN_CMD_ID, 5)]) && !liveIpShares snapable && !snapable.boot.resetting && dieUp snapable 1) = true := by decide +kernel
theorem wit_Snapshots_snap_refused : (goes (exec (.snap 5) (bootMod snapable (fun b => { b with resetting := true }))) (fun t => snapSt t == 3 && getF t SN_STS_REFUSE == 1)) = true := by decide +kernel
theorem wit_Snapshots_marker_none : (goes (exec (.snapshotMarker .interposer) live) (fun t => t.read.snap.isNone)) = true := by decide +kernel
theorem wit_Snapshots_marker : (inScope live ⟨0x55, [0], [], false⟩ (.die 0) && goes (exec (.snapshotMarker (.die 0)) (snapping [0] [] false live)) (fun t => (t.read.snap.map (·.cut)) == some [keyDie 0] && gatewayHeld t 0)) = true := by decide +kernel
theorem wit_Snapshots_marker_again : (goes (exec (.snapshotMarker (.die 0)) (snapping [0] [keyDie 0] false live)) (fun t => !gatewayHeld t 0)) = true := by decide +kernel
theorem wit_Snapshots_confirm : (dieCut ⟨0x55, [0], cuts, false⟩ 0 && (snapping [0] cuts false (holding 0 live)).read.snap.isSome) = true := by decide +kernel
theorem wit_Snapshots_confirm_early : (goes (exec (.snapshotConfirm 0) (snapping [0] [] false live)) (fun t => getF t SN_STS_CUT == 0)) = true := by decide +kernel
theorem wit_Snapshots_release : (goes (exec (.snapshotRelease 0) { (holding 0 live) with read := { (holding 0 live).read with rel := [0] } }) (fun t => !gatewayHeld t 0 && t.read.rel.isEmpty)) = true := by decide +kernel
theorem wit_Snapshots_release_none : (goes (exec (.snapshotRelease 0) (holding 0 live)) (fun t => gatewayHeld t 0)) = true := by decide +kernel
theorem wit_Snapshots_limit : (goes (exec (.snapshotHoldLimit 0) (holding 0 live)) (fun t => !gatewayHeld t 0 && getF t SN_STS_LATE == 1 && getF t SN_STS_TORN == 1)) = true := by decide +kernel
theorem wit_Snapshots_limit_away : (goes (exec (.snapshotHoldLimit 0) (hubMod (holding 0 live) (fun h => { h with down := true }))) (fun t => !gatewayHeld t 0 && getF t SN_STS_LATE == 0)) = true := by decide +kernel
theorem wit_Snapshots_limit_none : (goes (exec (.snapshotHoldLimit 0) live) (fun t => getF t SN_STS_LATE == 0)) = true := by decide +kernel
theorem wit_TraceAndConditionalClear_count : (takes flagged SN_CCLR (cmdWord [(SN_CCLR_ADDR, evA.toNat / 8), (SN_CCLR_BIT, 7), (SN_CCLR_EXPECT, 2)]) && occOf flagged ⟨OE_EVT 0, 7, 7, 7⟩ != 2 && goes (exec (.conditionalClear evA 7 2) flagged) (fun t => (cclr t).1 == 2 && (cclr t).2.1 == 1 && getF t (optEvt 0 7) == 1)) = true := by decide +kernel
theorem wit_TraceAndConditionalClear_zero : (goes (exec (.conditionalClear evA 7 0) live) (fun t => cclr t == (2, 0, 0))) = true := by decide +kernel
theorem wit_TraceAndConditionalClear_no_flag : (goes (exec (.conditionalClear evA 63 0) live) (fun t => cclr t == (3, 4, 0))) = true := by decide +kernel
theorem wit_TraceAndConditionalClear_unit : (goes (exec (.conditionalClear (7 * 2 ^ 32) 0 0) live) (fun t => cclr t == (3, 5, 0))) = true := by decide +kernel
theorem wit_TraceAndConditionalClear_away : (dieAway (puts [(CH_DIE_STS_STATE 0, 4)] live) (CD_HUB_STS 0) && (match placeOf (CD_HUB_STS 0) with | .reg c _ => bitN c.w1c 0 == 1 | _ => false) && goes (exec (.conditionalClear (BitVec.ofNat 36 (CD_HUB_STS 0)) 0 0) (puts [(CH_DIE_STS_STATE 0, 4)] live)) (fun t => (cclr t).1 == 3 && (cclr t).2.1 == 6)) = true := by decide +kernel
theorem wit_TraceAndConditionalClear_flag : (goes (exec (.traceRecord (.flag (OE_EVT 0) 7)) { tracing with regs := (setF tracing (optEvt 0 7) 1).regs }) (fun t => (rec0 t).map (fun r => (r.1, r.2.2.2)) == [(1, adrOff (OE_EVT 0) + 2 ^ 20 * 7)] && t.read.seq == 1)) = true := by decide +kernel
theorem wit_TraceAndConditionalClear_ledger : (goes (exec (.traceRecord (.ledger 1 9 2)) tracing) (fun t => rec0 t == [(2, 1, 9, 2)])) = true := by decide +kernel
theorem wit_TraceAndConditionalClear_ply : (goes (exec (.traceRecord (.ply p0 3)) tracing) (fun t => rec0 t == [(3, 0, 0, 0 + 4 * 3 + 32)])) = true := by decide +kernel
theorem wit_TraceAndConditionalClear_knot : (goes (exec (.traceRecord (.knot 7)) (puts [(SN_TRC_KNOT_EN 7, 1)] tracing)) (fun t => (rec0 t).map (·.1) == [4])) = true := by decide +kernel
theorem wit_TraceAndConditionalClear_knot_off : (goes (exec (.traceRecord (.knot 7)) tracing) (fun t => t.read.queue.isEmpty)) = true := by decide +kernel
theorem wit_TraceAndConditionalClear_rope : (goes (exec (.traceRecord (.rope 0 2)) tracing) (fun t => rec0 t == [(5, 5, 1, 2)])) = true := by decide +kernel
theorem wit_TraceAndConditionalClear_rope_interposer : (goes (exec (.traceRecord (.rope 33 2)) tracing) (fun t => rec0 t == [(5, 6, 9, 2)])) = true := by decide +kernel
theorem wit_TraceAndConditionalClear_fault : (goes (exec (.traceRecord (.fault 4 true 0)) tracing) (fun t => (rec0 t).map (fun r => (r.1, r.2.1)) == [(6, 4)])) = true := by decide +kernel
theorem wit_TraceAndConditionalClear_off : (!traceOn live 5 5 && goes (exec (.traceRecord (.rope 0 2)) live) (fun t => t.read.queue.isEmpty)) = true := by decide +kernel
theorem wit_TraceAndConditionalClear_lost : (goes (exec (.traceRecord (.rope 0 2)) { tracing with read := { tracing.read with queue := List.replicate 64 0 } }) (fun t => getF t SN_TRC_STS_LOST == 1)) = true := by decide +kernel
theorem wit_TraceAndConditionalClear_mark : (takes tracing SN_TRC_MARK (cmdWord [(SN_TRC_MARK_VALUE, 9)]) && goes (exec (.traceMark 9) tracing) (fun t => rec0 t == [(8, 4, 0, 9)] && getF t SN_TRC_MARK_STATUS == 2)) = true := by decide +kernel
theorem wit_TraceAndConditionalClear_mark_off : (goes (exec (.traceMark 9) live) (fun t => getF t SN_TRC_MARK_STATUS == 3)) = true := by decide +kernel
theorem wit_TraceAndConditionalClear_write : (populated 0 && !paLost tracing 0 && goes (exec (.traceRecord .write) (oneRec tracing)) (fun t => t.read.queue.isEmpty && readLE t 0 2 == 0x1234 && getF t SN_TRC_PTR_TAIL == 1)) = true := by decide +kernel
theorem wit_TraceAndConditionalClear_write_none : (goes (exec (.traceRecord .write) tracing) (fun t => getF t SN_TRC_PTR_TAIL == 0)) = true := by decide +kernel
theorem wit_TraceAndConditionalClear_write_stuck : (goes (exec (.traceRecord .write) (puts [(SN_TRC_CTL_STOP, 1), (SN_TRC_PTR_HEAD, 1)] (oneRec tracing))) (fun t => getF t SN_TRC_STS_STOPPED == 1 && t.read.queue.length == 1)) = true := by decide +kernel

/-! ## Faults (11) -/

def rp (cause mask : Nat) : Report := ⟨cause, mask, 1, 0x123, 4, 5, 0⟩
def reported (r : Report) (s : State) : State := { s with reports := [r] }
def hd (t : State) (c : Nat) : Nat := getF t (FC_LOG_PTR_DF_TAIL c)
def word0 (t : State) (a : Nat) : Nat := bitsOf (rd t a) 47 32
/-- Collector 0's record 0, a class D record, is OPEN. -/
def openD : OpenD := ⟨0, 0, 0x105, 1, 0x123, 4, 77⟩
def opened (o : OpenD) (s : State) : State := hubMod s (fun h => { h with fc := { h.fc with opens := [(0, o)] } })
def fullDF (s : State) : State := puts [(FC_LOG_PTR_DF_HEAD 0, 1)] s
def fcAns (t : State) : Nat × Nat := (getF t (FC_CMD_STATUS 0), getF t (FC_CMD_REASON 0))
def injAns (t : State) : Nat × Nat := (getF t FC_INJ_STATUS, getF t FC_INJ_REASON)

theorem wit_FaultReports_classes : ((classOf 0x303 == .c) && (classOf 0x105 == .d) && (classOf 0x104 == .f) && (classOf 0x904 == .s)) = true := by decide +kernel
theorem wit_FaultReports_c : (goes (exec (.faultReport) (reported (rp 0x303 1) live)) (fun t => word0 t (FC_LOG_C 0 0 0) == 0x303 && getF t (FC_LOG_PTR_C_TAIL 0) == 1 && getF t (FC_STS_C 0) == 1 && t.reports.isEmpty)) = true := by decide +kernel
theorem wit_FaultReports_c_package : (goes (exec (.faultReport) (reported (rp 0x303 0) live)) (fun t => word0 t (FC_LOG_C 4 0 0) == 0x303)) = true := by decide +kernel
theorem wit_FaultReports_c_full : (goes (exec (.faultReport) (puts [(FC_LOG_PTR_C_HEAD 0, 1)] (reported (rp 0x303 1) live))) (fun t => getF t (FC_LOG_PTR_C_LOST 0) == 1 && getF t (FC_LOG_PTR_C_HEAD 0) == 2)) = true := by decide +kernel
theorem wit_FaultReports_c_stopped : (goes (exec (.faultReport) (hubMod (reported (rp 0x303 1) live) (fun h => { h with fc := { h.fc with stopped := [0] } }))) (fun t => getF t (FC_STS_C 0) == 1 && getF t (FC_LOG_PTR_C_TAIL 0) == 0)) = true := by decide +kernel
theorem wit_FaultReports_d : (dfRoom live 0 && goes (exec (.faultReport) (reported (rp 0x105 1) live)) (fun t => hd t 0 == 1 && word0 t (FC_LOG_DF 0 0 0) == 0x105 && (opensOf t 0).length == 1 && getF t (FC_STS_OPEN_D 0) == 1)) = true := by decide +kernel
theorem wit_FaultReports_d_merged : (goes (exec (.faultReport) (opened openD (reported (rp 0x105 1) live))) (fun t => hd t 0 == 0 && bitsOf (rd t (FC_LOG_DF 0 0 2)) 63 48 == 1 && (opensOf t 0).length == 1)) = true := by decide +kernel
theorem wit_FaultReports_d_full : (!dfRoom (fullDF live) 0 && !pkgSafe live && getF live (FC_STS_FENCED 0) == 0) = true := by decide +kernel
theorem wit_FaultReports_f : (localDie live (rp 0x104 1) == none && reportReady live (rp 0x104 1) && classOf 0x104 == .f) = true := by decide +kernel
theorem wit_FaultReports_s : (classOf (rp 0x904 0).cause == .s && getF live FC_GRAVE_VALID == 0) = true := by decide +kernel
theorem wit_FaultReports_none : (goes (exec (.faultReport) live) (fun t => t.reports.isEmpty)) = true := by decide +kernel
theorem wit_FaultReports_local : (localDie (dieMod live 0 (fun d => { d with hubAbsent := true })) (rp 0x303 1) == some 0 && goes (exec (.faultReport) (reported (rp 0x303 1) (dieMod live 0 (fun d => { d with hubAbsent := true })))) (fun t => (dieGet t 0).localFaults.length == 1)) = true := by decide +kernel
theorem wit_FaultReports_local_full : (goes (exec (.faultReport) (reported (rp 0x303 1) (dieMod live 0 (fun d => { d with hubAbsent := true, localFaults := List.replicate 64 (rp 1 1, 0) })))) (fun t => (dieGet t 0).localLost == 1)) = true := by decide +kernel
theorem wit_FaultReports_local_fence : (localDie (dieMod live 0 (fun d => { d with hubAbsent := true })) (rp 0x104 1) == some 0) = true := by decide +kernel
theorem wit_FaultRecovery_expiry : (openAt (opened openD (puts [(FC_LOG_PTR_DF_TAIL 0, 1)] live)) 0 0 == some openD && !pkgSafe live && !live.hub.down && live.hub.fc.pausedAt.isNone) = true := by decide +kernel
theorem wit_FaultRecovery_expiry_none : (goes (exec (.windowExpiry 0 0) live) (fun t => hd t 0 == 0)) = true := by decide +kernel
theorem wit_FaultRecovery_expiry_off : (goes (exec (.windowExpiry 0 0) (hubMod (opened openD live) (fun h => { h with down := true }))) (fun t => (opensOf t 0).length == 1)) = true := by decide +kernel
theorem wit_FaultRecovery_clear : (clearable live { openD with cause := 0x117 } && goes (exec (.hardwareClear 0 0) (opened { openD with cause := 0x117 } live)) (fun t => (opensOf t 0).isEmpty && getF t ⟨FC_LOG_DF 0 0 0, 15, 8, 0⟩ == 2)) = true := by decide +kernel
theorem wit_FaultRecovery_clear_no : (goes (exec (.hardwareClear 0 0) (hubMod (opened { openD with cause := 0x117 } live) (fun h => { h with noClk := [(54, 0)] }))) (fun t => (opensOf t 0).length == 1)) = true := by decide +kernel
theorem wit_FaultRecovery_resolve : (takes live (FC_CMD 0) (cmdWord [(FC_CMD_OP 0, 1), (FC_CMD_SEQ 0, 0)]) && goes (exec (.resolve 0 0) (opened openD live)) (fun t => fcAns t == (2, 0) && (opensOf t 0).isEmpty && getF t ⟨FC_LOG_DF 0 0 0, 15, 8, 0⟩ == 1)) = true := by decide +kernel
theorem wit_FaultRecovery_resolve_none : (goes (exec (.resolve 0 9) (opened openD live)) (fun t => fcAns t == (3, 1))) = true := by decide +kernel
theorem wit_FaultRecovery_resolve_escalated : (goes (exec (.resolve 0 9) { (hubMod live (fun h => { h with fc := { h.fc with escLast := [(0, (9, 77))] } })) with hubTime := 77 }) (fun t => fcAns t == (3, 2))) = true := by decide +kernel
theorem wit_FaultRecovery_release_unfenced : (goes (exec (.release 0) live) (fun t => fcAns t == (3, 3))) = true := by decide +kernel
theorem wit_FaultRecovery_release_not_back : (goes (exec (.release 0) (puts [(FC_STS_FENCED 0, 1)] live)) (fun t => fcAns t == (3, 4))) = true := by decide +kernel
theorem wit_FaultRecovery_release_memory : (goes (exec (.release 0) (puts [(CD_HBM_STS_STATE 0 0, 1)] (puts [(FC_STS_FENCED 0, 1), (CH_DIE_STS_STATE 0, 5)] live))) (fun t => fcAns t == (3, 5))) = true := by decide +kernel
theorem wit_FaultRecovery_release_open : (goes (exec (.release 0) (opened openD (puts [(FC_STS_FENCED 0, 1), (CH_DIE_STS_STATE 0, 5), (CD_HBM_STS_STATE 0 0, 3), (CD_HBM_STS_STATE 0 1, 3)] live))) (fun t => fcAns t == (3, 6))) = true := by decide +kernel
theorem wit_FaultRecovery_release : (takes live (FC_CMD 0) (cmdWord [(FC_CMD_OP 0, 2)]) && (opensOf (puts [(FC_STS_FENCED 0, 1), (CH_DIE_STS_STATE 0, 5), (CD_HBM_STS_STATE 0 0, 3), (CD_HBM_STS_STATE 0 1, 3)] live) 0).isEmpty) = true := by decide +kernel
theorem wit_FaultRecovery_fence : (goes (exec (.fenceComplete 0) (hubMod (puts [(OE_ROPE_STS_STATE 0, 3)] live) (fun h => { h with fc := { h.fc with fencing := [0] } }))) (fun t => ropeState t 0 == 5)) = true := by decide +kernel
theorem wit_FaultRecovery_fence_no : (goes (exec (.fenceComplete 0) (puts [(OE_ROPE_STS_STATE 0, 3)] live)) (fun t => ropeState t 0 == 3)) = true := by decide +kernel
def debugged : State := bootMod live (fun b => { b with debug := 1 })
theorem wit_FaultRecovery_arm : (takes debugged FC_INJ (cmdWord [(FC_INJ_OP, 1), (FC_INJ_KIND, 6), (FC_INJ_INSTANCE, 13), (FC_INJ_N, 2)]) && checkerExists 6 13 && goes (exec (.arm 6 13 2) debugged) (fun t => injAns t == (2, 0) && getF t (FC_INJ_SLOT_ARMED 0) == 1 && getF t (FC_INJ_SLOT_REMAINING 0) == 2)) = true := by decide +kernel
theorem wit_FaultRecovery_arm_debug : (goes (exec (.arm 6 13 2) live) (fun t => injAns t == (3, 1))) = true := by decide +kernel
theorem wit_FaultRecovery_arm_unknown : (goes (exec (.arm 6 14 2) debugged) (fun t => injAns t == (3, 2))) = true := by decide +kernel
theorem wit_FaultRecovery_arm_zero : (goes (exec (.arm 6 13 0) debugged) (fun t => injAns t == (3, 3))) = true := by decide +kernel
def armed : State := puts [(FC_INJ_SLOT_ARMED 0, 1), (FC_INJ_SLOT_KIND 0, 6), (FC_INJ_SLOT_INSTANCE 0, 13)] debugged
theorem wit_FaultRecovery_arm_again : (goes (exec (.arm 6 13 2) armed) (fun t => injAns t == (3, 4))) = true := by decide +kernel
theorem wit_FaultRecovery_disarm : (takes armed FC_INJ (cmdWord [(FC_INJ_OP, 2), (FC_INJ_KIND, 6), (FC_INJ_INSTANCE, 13)]) && goes (exec (.disarm 6 13) armed) (fun t => injAns t == (2, 0) && rd t (FC_INJ_SLOT 0) == 0)) = true := by decide +kernel
theorem wit_FaultRecovery_disarm_none : (goes (exec (.disarm 6 13) debugged) (fun t => injAns t == (3, 6))) = true := by decide +kernel

/-! ## Bond lanes, dies, clocks, the hub's loss, the guest site (01, 13) -/

def frame (ty vq cr seq ack : Nat) : BitVec 576 :=
  let v := ack + 2 ^ 8 * seq + 2 ^ 16 * cr + 2 ^ 24 * vq + 2 ^ 28 * ty
  BitVec.ofNat 576 (v + 2 ^ 544 * crc32c (leBytes 68 v))
def bx (f : BondX → BondX) (s : State) : State := bondMod s 0 0 0 f
def b0 (t : State) : BondX := bondGet t 0 0 0
def testing (id ph : Nat) (s : State) : State := hubMod s (fun h => { h with tests := [⟨id, ph⟩] })

theorem wit_BondLanes_frame : (frameGood (frame 1 0 0 0 0) && pairGood live 0 0 && decide (0 < linkPairs 0) && goes (exec (.bondFrame 0 0 false (frame 1 0 0 0 0) 0) live) (fun t => (b0 t).exp == 1 && (b0 t).got == 1 && (b0 t).next == 1 && (b0 t).unacked.length == 1)) = true := by decide +kernel
theorem wit_BondLanes_frame_acks : (goes (exec (.bondFrame 0 0 false (frame 1 2 3 0 0) 0) (bondMod live 0 0 1 (fun b => { b with unacked := [(0, 0)], next := 1 }))) (fun t => (bondGet t 0 0 1).unacked.isEmpty && tabGet (fun _ => 0) (bondGet t 0 0 1).credits 2 == 3)) = true := by decide +kernel
theorem wit_BondLanes_frame_order : (goes (exec (.bondFrame 0 0 false (frame 1 0 0 1 0) 0) (bx (fun b => { b with next := 1 }) live)) (fun t => (b0 t).exp == 0 && (b0 t).got == 0 && (b0 t).next == 2)) = true := by decide +kernel
theorem wit_BondLanes_frame_again : (goes (exec (.bondFrame 0 0 false (frame 1 0 0 0 0) 0) (bx (fun b => { b with next := 1, unacked := [(0, (frame 1 0 0 0 0).toNat % 2 ^ 544)] }) live)) (fun t => (b0 t).exp == 1 && (b0 t).next == 1)) = true := by decide +kernel
theorem wit_BondLanes_frame_bad : (!frameGood (frame 1 0 0 0 0 ^^^ 1) && goes (exec (.bondFrame 0 0 false (frame 1 0 0 0 0) 1) live) (fun t => (b0 t).bad && (b0 t).fails == 1)) = true := by decide +kernel
theorem wit_BondLanes_frame_eighth : (goes (exec (.bondFrame 0 0 false (frame 1 0 0 0 0) 1) (bx (fun b => { b with fails := 7 }) live)) (fun t => !pairGood t 0 0)) = true := by decide +kernel
theorem wit_BondLanes_frame_skip : (goes (exec (.bondFrame 0 0 false (frame 1 0 0 5 0) 0) live) (fun t => (b0 t).next == 0)) = true := by decide +kernel
theorem wit_BondLanes_frame_full : (goes (exec (.bondFrame 0 0 false (frame 1 0 0 64 0) 0) (bx (fun b => { b with next := 64, unacked := (List.range 64).map (fun i => (i, 0)) }) live)) (fun t => (b0 t).next == 64)) = true := by decide +kernel
theorem wit_BondLanes_frame_no : (decide (linkPairs 24 ≤ 24) && goes (exec (.bondFrame 0 24 false (frame 1 0 0 0 0) 0) live) (fun t => (bondGet t 0 24 0).next == 0)) = true := by decide +kernel
theorem wit_BondLanes_credit : (goes (exec (.creditAndAckFrame 0 0 false (frame 2 1 4 0 0) 0) live) (fun t => tabGet (fun _ => 0) (bondGet t 0 0 1).credits 1 == 4 && (b0 t).since == 1)) = true := by decide +kernel
theorem wit_BondLanes_nak : (goes (exec (.nak 0 0 false 1) (bx (fun b => { b with unacked := [(0, 0), (1, 0), (2, 0)], next := 3 }) live)) (fun t => (b0 t).unacked == [(1, 0), (2, 0)] && getF t (HP_BL_STS_REPLAYS 0) == 2)) = true := by decide +kernel
theorem wit_BondLanes_timer : (goes (exec (.creditAckTimer 0 0 false) (bx (fun b => { b with since := 3 }) live)) (fun t => (b0 t).since == 0)) = true := by decide +kernel
theorem wit_BondLanes_timer_no : (goes (exec (.creditAckTimer 0 0 false) live) (fun t => (b0 t).since == 0)) = true := by decide +kernel
theorem wit_BondLanes_test_none : (goes (exec (.interconnectTest 0 []) live) (fun t => t.hub.tests.isEmpty)) = true := by decide +kernel
theorem wit_BondLanes_prbs_none : (goes (exec (.prbs31Complete 0 []) live) (fun t => t.hub.tests.isEmpty)) = true := by decide +kernel
theorem wit_BondLanes_test : (goes (exec (.interconnectTest 0 []) (testing 0 1 live)) (fun t => testPhase t 0 == 2)) = true := by decide +kernel
theorem wit_BondLanes_test_repair : ((testLinks 0).contains 0 && goes (exec (.interconnectTest 0 [⟨0, 0, false, 5⟩]) (testing 0 1 live)) (fun t => testPhase t 0 == 1 && (b0 t).replaced == 5 && (b0 t).field && getF t (HP_BL_STS_FIELD 0) == 1 && reps t == [(0x101, 0)])) = true := by decide +kernel
theorem wit_BondLanes_test_second : (goes (exec (.interconnectTest 0 [⟨0, 0, false, 6⟩]) (bx (fun b => { b with replaced := 5 }) (testing 0 1 live))) (fun t => testPhase t 0 == 2 && (b0 t).failed)) = true := by decide +kernel
theorem wit_BondLanes_test_spare : (goes (exec (.interconnectTest 0 [⟨0, 0, false, 6⟩]) (bx (fun b => { b with spareBad := true }) (testing 0 1 live))) (fun t => (b0 t).failed)) = true := by decide +kernel
theorem wit_BondLanes_test_attach : (goes (exec (.interconnectTest 5 []) (testing 5 1 live)) (fun t => testPhase t 5 == 0 && getF t (HP_BL_STS_USABLE 24) == 1)) = true := by decide +kernel
theorem wit_BondLanes_prbs : (goes (exec (.prbs31Complete 0 []) (testing 0 2 (puts [(CH_DIE_STS_STATE 0, 1)] live))) (fun t => testPhase t 0 == 0 && getF t (HP_BL_STS_USABLE 0) == 1 && getF t (CH_DIE_STS_STATE 0) == 2)) = true := by decide +kernel

/-- A capsule of the die at an index, of stepping 0x20 and of a package with UID 0; its CRC is off by `e`. -/
def capsule (d e : Nat) : BitVec 512 :=
  let v := 0x4D585531 * 2 ^ 32 + (capKind d).1 * 2 ^ 24 + (capKind d).2 * 2 ^ 16 + 0x20 * 2 ^ 8
  BitVec.ofNat 512 (v + 2 ^ 448 * (crc32c (leBytes 56 v) + e))
def dieAt (n st : Nat) (s : State) : State := puts [(CH_DIE_STS_STATE n, st)] s
def dst (t : State) (n : Nat) : Nat × Nat := (getF t (CH_DIE_STS_STATE n), getF t (CH_DIE_STS_REFUSE n))
def dW (o : Nat) : Word := cmdWord [(CH_DIE_CMD_OP 3, o)]

theorem wit_Dies_reset_no : (takes (dieAt 3 0 live) (CH_DIE_CMD 3) (dW 1) && goes (exec (.dieReset 3) (dieAt 3 0 live)) (fun t => getF t (CH_DIE_CMD_STATUS 3) == 3)) = true := by decide +kernel
theorem wit_Dies_reset : (takes live (CH_DIE_CMD 3) (dW 1) && getF live (CH_DIE_STS_STATE 3) == 3 && live.knotOps.isEmpty && live.plies.all (fun p => p.2.wait.isNone)) = true := by decide +kernel
theorem wit_Dies_retry : (takes (dieAt 3 0 live) (CH_DIE_CMD 3) (dW 2) && goes (exec (.dieRetry 3) (dieAt 3 0 live)) (fun t => getF t (CH_DIE_CMD_STATUS 3) == 1 && getF t (CH_DIE_STS_STATE 3) == 1 && testPhase t 3 == 1)) = true := by decide +kernel
theorem wit_Dies_retry_no : (goes (exec (.dieRetry 3) live) (fun t => getF t (CH_DIE_CMD_STATUS 3) == 3)) = true := by decide +kernel
theorem wit_Dies_release : (goes (exec (.dieResetRelease 3) (dieAt 3 4 live)) (fun t => getF t (CH_DIE_STS_STATE 3) == 1 && getF t (CH_DIE_STS_REJOIN 3) == 1 && testPhase t 3 == 1)) = true := by decide +kernel
theorem wit_Dies_release_no : (goes (exec (.dieResetRelease 3) live) (fun t => getF t (CH_DIE_STS_STATE 3) == 3)) = true := by decide +kernel
theorem wit_Dies_keepalive : (goes (exec (.keepalive 3) { live with hubTime := 9 }) (fun t => (dieGet t 3).alive == 9)) = true := by decide +kernel
theorem wit_Dies_timeout : (dieUp live 3 && !live.hub.down && !(dieGet live 3).hubAbsent) = true := by decide +kernel
theorem wit_Dies_timeout_no : (goes (exec (.keepaliveTimeout 3) (dieAt 3 0 live)) (fun t => getF t (CH_DIE_STS_STATE 3) == 0)) = true := by decide +kernel
theorem wit_Dies_capsule : ((injSlot live 6 3).isNone && goes (exec (.identityCapsule 3 (capsule 3 0) (capsule 3 0)) (dieAt 3 2 live)) (fun t => dst t 3 == (3, 0) && getF t (CD_HUB_STS_ATTACH_GEN 3) == 1 && (dieGet t 3).capRec.isSome)) = true := by decide +kernel
theorem wit_Dies_capsule_crc : (goes (exec (.identityCapsule 3 (capsule 3 1) (capsule 3 1)) (dieAt 3 2 live)) (fun t => dst t 3 == (0, 3) && reps t == [(0x102, 8)])) = true := by decide +kernel
theorem wit_Dies_capsule_position : (goes (exec (.identityCapsule 3 (capsule 2 0) (capsule 2 0)) (dieAt 3 2 live)) (fun t => dst t 3 == (0, 5))) = true := by decide +kernel
theorem wit_Dies_capsule_copies : (goes (exec (.identityCapsule 3 (capsule 3 0) (capsule 2 0)) (dieAt 3 2 live)) (fun t => dst t 3 == (0, 7))) = true := by decide +kernel
theorem wit_Dies_capsule_rejoined : (capRefusal (putCapsule (puts [(CH_DIE_STS_REJOIN 3, 1)] (dieAt 3 2 live)) 3 (capsule 3 0)) 3 (capsule 3 0) (capsule 3 0) true == none) = true := by decide +kernel
theorem wit_Dies_capsule_hub : (goes (exec (.identityCapsule 4 (capsule 4 0) 0) live) (fun t => getF t HP_CAP_EFF_CH_ADMITTED == 15)) = true := by decide +kernel
theorem wit_Dies_capsule_engine : (goes (exec (.identityCapsule 12 (capsule 12 0) 0) (puts [(HP_BL_STS_USABLE 15, 1), (HP_BL_STS_USABLE 23, 1)] live)) (fun t => bitN (getF t HP_CAP_EFF_OE_ADMITTED) 7 == 1)) = true := by decide +kernel
theorem wit_Dies_capsule_engine_bad : (goes (exec (.identityCapsule 12 (capsule 11 0) 0) live) (fun t => reps t == [(0x103, 0)])) = true := by decide +kernel
theorem wit_Dies_capsule_early : (goes (exec (.identityCapsule 3 (capsule 3 0) (capsule 3 0)) live) (fun t => dst t 3 == (3, 0) && rd t (HP_CAPSULE 3 0) == 0)) = true := by decide +kernel
theorem wit_Dies_silent : (goes (exec (.discoveryTimeout 3) (dieAt 3 2 live)) (fun t => dst t 3 == (0, 2) && reps t == [(0x102, 8)])) = true := by decide +kernel
theorem wit_Dies_silent_engine : (goes (exec (.discoveryTimeout 13) live) (fun t => reps t == [(0x103, 0)])) = true := by decide +kernel
theorem wit_Dies_silent_early : (goes (exec (.discoveryTimeout 3) live) (fun t => dst t 3 == (3, 0))) = true := by decide +kernel
theorem wit_Clocks_loss_0 : (goes (exec (.clockLoss 0) live) (fun t => clkLost t 0 && ropeState t 0 == 0 && (reps t).map (·.1) == [0x110] && bitsOf (rd t HP_CLK_LOSS) 0 0 == 1)) = true := by decide +kernel
theorem wit_Clocks_loss_31 : (goes (exec (.clockLoss 31) live) (fun t => (reps t).map (·.1) == [0x111])) = true := by decide +kernel
theorem wit_Clocks_loss_34 : (goes (exec (.clockLoss 34) live) (fun t => reps t == [(0x114, 1)])) = true := by decide +kernel
theorem wit_Clocks_loss_45 : (goes (exec (.clockLoss 45) live) (fun t => getF t (CD_EPOCH_STALE 3) == 1 && reps t == [(0x115, 8)] && getF t (CD_SPD_MON_STALE 3 15) == 1)) = true := by decide +kernel
theorem wit_Clocks_loss_53 : (goes (exec (.clockLoss 53) live) (fun t => reps t == [(0x116, 8)])) = true := by decide +kernel
theorem wit_Clocks_loss_54 : (goes (exec (.clockLoss 54) live) (fun t => (reps t).map (·.1) == [0x117])) = true := by decide +kernel
theorem wit_Clocks_loss_55 : (goes (exec (.clockLoss 55) live) (fun t => t.hub.down && t.reports.isEmpty)) = true := by decide +kernel
theorem wit_Clocks_loss_56 : (goes (exec (.clockLoss 56) live) (fun t => reps t == [(0x118, 0)])) = true := by decide +kernel
theorem wit_Clocks_loss_57 : (goes (exec (.clockLoss 57) live) (fun t => reps t == [(0x119, 0)] && getF t GS_STS_TRAINED == 0)) = true := by decide +kernel
theorem wit_Clocks_loss_58 : (goes (exec (.clockLoss 58) live) (fun t => reps t == [(0x11A, 0)])) = true := by decide +kernel
theorem wit_Clocks_loss_59 : (goes (exec (.clockLoss 59) live) (fun t => reps t == [(0x11B, 0)])) = true := by decide +kernel
theorem wit_Clocks_loss_63 : (goes (exec (.clockLoss 63) live) (fun t => reps t == [(0x11C, 15)] && getF t HP_CLK_LOSS_REFCLK == 1)) = true := by decide +kernel
theorem wit_Clocks_loss_engine : (goes (exec (.clockLoss 46) (puts [(OE_STS_STATE 0, 3)] live)) (fun t => getF t (OE_STS_STATE 0) == 4)) = true := by decide +kernel
theorem wit_Clocks_loss_again : (goes (exec (.clockLoss 0) (hubMod live (fun h => { h with noClk := [(0, 0)] }))) (fun t => t.reports.isEmpty)) = true := by decide +kernel
theorem wit_Clocks_loss_none : (goes (exec (.clockLoss 60) live) (fun t => t.reports.isEmpty)) = true := by decide +kernel
theorem wit_Clocks_return_none : (goes (exec (.clockReturn 0) live) (fun t => !clkLost t 0)) = true := by decide +kernel
theorem wit_Clocks_return_45 : (goes (exec (.clockReturn 45) (puts [(CD_EPOCH_STALE 3, 1)] (hubMod live (fun h => { h with noClk := [(45, 0)] })))) (fun t => !clkLost t 45 && getF t (CD_EPOCH_STALE 3) == 0)) = true := by decide +kernel
theorem wit_Clocks_return_55 : (goes (exec (.clockReturn 55) (hubMod live (fun h => { h with noClk := [(55, 0)] }))) (fun t => testPhase t 5 == 1)) = true := by decide +kernel
theorem wit_Clocks_return_46 : (goes (exec (.clockReturn 46) (puts [(OE_STS_STATE 0, 4)] (hubMod live (fun h => { h with noClk := [(46, 0)] })))) (fun t => getF t (OE_STS_STATE 0) == 3)) = true := by decide +kernel

def absent (s : State) : State := dieMod s 0 (fun d => { d with hubAbsent := true })
theorem wit_HubLoss_notice : (dieUp live 0 && goes (exec (.hubResetNotice 0) live) (fun t => (dieGet t 0).hubAbsent && getF t (CD_HUB_STS_ABSENT 0) == 1)) = true := by decide +kernel
theorem wit_HubLoss_notice_again : (goes (exec (.hubResetNotice 0) (absent live)) (fun t => getF t (CD_HUB_STS_ABSENT 0) == 0)) = true := by decide +kernel
theorem wit_HubLoss_keepalive : (goes (exec (.hubKeepaliveTimeout 0) live) (fun t => (dieGet t 0).hubAbsent)) = true := by decide +kernel
theorem wit_HubLoss_wait_no : (goes (exec (.hubWaitExpired 0 (.engine 2)) live) (fun t => getF t (CD_HUB_STS_WAIT_EXP 0) == 0)) = true := by decide +kernel
theorem wit_HubLoss_wait_engine : (goes (exec (.hubWaitExpired 0 (.engine 2)) (absent (engine (block (copy 1 64 0) .build 0 []) live))) (fun t => (eng2 t).1 == 3 && (eng2 t).2.1 == 9 && getF t (CD_HUB_STS_WAIT_EXP 0) == 1 && reps t == [(0x120, 1)])) = true := by decide +kernel
theorem wit_HubLoss_wait_ply : (goes (exec (.hubWaitExpired 0 (.ply 0 0)) (absent (plyMod live 0 0 0 (fun x => { x with held := some 5 })))) (fun t => (plyGet t 0 0 0).trap == some ⟨0x14, 0x40, 5⟩ && (plyGet t 0 0 0).held.isNone)) = true := by decide +kernel
theorem wit_HubLoss_reset : (live.boot.pwrok && !pkgSafe live && getF live HP_BOOT_STS_STAGE != 8 && !State.reset.boot.pwrok) = true := by decide +kernel
theorem wit_HubLoss_reset_no : (goes (exec (.hubReset false .ok) State.reset) (fun t => !t.boot.pwrok)) = true := by decide +kernel
theorem wit_HubLoss_reattach_blocked : (goes (exec (.reattach) live) (fun t => !t.hub.down)) = true := by decide +kernel
theorem wit_HubLoss_reattach : (clkLost live 55 == false && testPhase live 5 == 0 && !pkgSafe live && getF (hubMod live (fun h => { h with down := true })) HP_BOOT_STS_STAGE != 8 && (hubMod live (fun h => { h with down := true })).hub.down) = true := by decide +kernel

/-- The guest site is certified and enabled; window 15 covers the first megabytes of memory. -/
def guestOn : State := puts [(GS_CTL_EN, 1), (HP_CAP_EFF_CERT_GUEST, 1), (GS_WIN_EN 15, 1), (GS_WIN_R 15, 1), (GS_WIN_W 15, 1), (GS_WIN_BASE 15, 0x200000), (GS_WIN_SIZE 15, 1),
  (GS_RATE_REQS, 1), (GS_RATE_RD_LINES, 1), (GS_RATE_WR_LINES, 1), (GS_CTL_VIOL_LIM, 2)] live
def guest : State := puts [(GS_STS_TRAINED, 1)] guestOn
def gout (t : State) : List (Nat × Nat × Nat × Nat) := t.hub.guestOut.map (fun g => (g.op, g.tag, g.status, leVal g.data))
def ga : Nat := storePa 0 0 0x40
def gdata : State := writeLE guest ga 8 7

theorem wit_GuestSite_training : (guestOpen guestOn && goes (exec (.guestLinkTraining true false) guestOn) (fun t => getF t GS_STS_TRAINED == 1 && getF t GS_STS_X8 == 0)) = true := by decide +kernel
theorem wit_GuestSite_training_fails : (goes (exec (.guestLinkTraining false false) guestOn) (fun t => reps t == [(0x109, 0)])) = true := by decide +kernel
theorem wit_GuestSite_training_closed : (goes (exec (.guestLinkTraining true true) live) (fun t => getF t GS_STS_TRAINED == 0)) = true := by decide +kernel
theorem wit_GuestSite_down : (goes (exec (.guestRead 5 0 ga) guestOn) (fun t => t.hub.guestOut.isEmpty)) = true := by decide +kernel
theorem wit_GuestSite_read : (guestAllowed gdata ga 64 true false && readable gdata ga && goes (exec (.guestRead 4095 0 ga) gdata) (fun t => gout t == [(3, 4095, 0, 7)])) = true := by decide +kernel
theorem wit_GuestSite_read_denied : (goes (exec (.guestRead 5 0 0) gdata) (fun t => gout t == [(3, 5, 1, 0)] && getF t GS_STS_VIOL == 1 && getF t GS_STS_VIOL_CNT == 1 && reps t == [(0x108, 0)] && getF t GS_STS_FENCED == 0)) = true := by decide +kernel
theorem wit_GuestSite_read_fenced : (goes (exec (.guestRead 5 0 0) (hubMod gdata (fun h => { h with denials := [0, 0] }))) (fun t => getF t GS_STS_FENCED == 1 && getF t GS_STS_TRAINED == 0)) = true := by decide +kernel
theorem wit_GuestSite_read_held : (goes (exec (.guestRead 5 0 ga) (puts [(GS_RATE_RD_LINES, 0)] gdata)) (fun t => t.hub.guestOut.isEmpty)) = true := by decide +kernel
theorem wit_GuestSite_write : (guestAllowed gdata ga 64 false true && memReady gdata ga && goes (exec (.guestWrite 5 ga (List.replicate 64 9)) gdata) (fun t => gout t == [(4, 5, 0, 0)] && readLE t (ga + 62) 2 == 0x909)) = true := by decide +kernel
theorem wit_GuestSite_write_denied : (goes (exec (.guestWrite 5 ga (List.replicate 64 9)) (puts [(GS_WIN_W 15, 0)] gdata)) (fun t => gout t == [(4, 5, 1, 0)] && readLE t ga 8 == 7)) = true := by decide +kernel
theorem wit_GuestSite_write_held : (goes (exec (.guestWrite 5 ga (List.replicate 64 9)) (puts [(GS_RATE_WR_LINES, 0)] gdata)) (fun t => t.hub.guestOut.isEmpty)) = true := by decide +kernel
theorem wit_GuestSite_add : (guestAllowed gdata ga 64 true true && goes (exec (.guestAtomicAdd 5 ga (-8)) gdata) (fun t => gout t == [(3, 5, 0, 7)] && readLE t ga 8 == 2 ^ 64 - 1)) = true := by decide +kernel
theorem wit_GuestSite_add_denied : (goes (exec (.guestAtomicAdd 5 ga 1) (puts [(GS_WIN_R 15, 0)] gdata)) (fun t => gout t == [(3, 5, 1, 0)])) = true := by decide +kernel
theorem wit_GuestSite_add_held : (goes (exec (.guestAtomicAdd 5 ga 1) (puts [(GS_RATE_REQS, 0)] gdata)) (fun t => t.hub.guestOut.isEmpty)) = true := by decide +kernel

/-! ## The keystone (12) -/

def ksX (f : KsX → KsX) (s : State) : State := { s with ks := f s.ks }
def rail (j : Nat) : KsRail := ⟨1000 + j, 2000 + j, 3, 4⟩
/-- The keystone is powered; its link is up. -/
def ksOn : State := ksX (fun k => { k with powered := true }) live
def ksUp : State := ksX (fun k => { k with link := true }) ksOn
def open0 : KsOpen := ⟨7, 7, List.replicate 13 100, false⟩
def waits (s : State) : State := ksX (fun k => { k with waiting := some open0 }) s
def ksAcc0 (t : State) : Nat := t.ks.acc.energy.getD 0 0
def good : KsRun := ⟨1, 2, 0, 1⟩
def image (v : Nat) : KsHeader := ⟨true, true, 0x4D585531, 0, 0, v, 99, []⟩
def staged (s : State) : State := ksX (fun k => { k with staging := [(0, [1])] }) s
def tells1 (t : State) : List (Nat × Nat) := t.ks.frames.map (fun f => match f with | .response q v _ => (q, v) | _ => (999, 999))
def framed (f : KsFrame) : State := ksX (fun k => { k with frames := [f] }) ksUp
def mbSt (t : State) : Nat × Nat := (getF t HP_KS_MB_STATE, getF t HP_KS_MB_STATUS)
def kW (o l a : Nat) : Word := cmdWord [(HP_KS_MB_OP, o), (HP_KS_MB_ARG, a), (HP_KS_MB_LEN, l)]
def mirror0 : KsMirror := ⟨7, 7, [1, 2, 3, 4, 5], 6, 8, 9 * 2 ^ 32, List.replicate 13 5⟩
def command (r : Bool) : State := ksX (fun k => { k with mb := some ⟨4, 3, 0, 0, 0, []⟩, resent := r }) ksUp

theorem wit_KeystoneMetering_interval : (ksUp.ks.acc.energy.length == 5 && goes (exec (.accountingInterval ((List.range 13).map rail)) ksUp) (fun t => (t.ks.waiting.map (fun o => (o.idx, o.energy.getD 12 0))) == some (1, 1012) && t.ks.frames.length == 1 && t.ks.sumN == 1)) = true := by decide +kernel
theorem wit_KeystoneMetering_interval_settles : (goes (exec (.accountingInterval []) (waits ksOn)) (fun t => ksAcc0 t == 1300 && t.ks.fallback == 1 && t.ks.last == (7, false))) = true := by decide +kernel
theorem wit_KeystoneMetering_off : (goes (exec (.accountingInterval []) live) (fun t => t.ks.ms == 0)) = true := by decide +kernel
theorem wit_KeystoneMetering_timeout : (goes (exec (.activityTimeout) (waits ksOn)) (fun t => ksAcc0 t == 1300 && t.ks.acc.energy.getD 1 0 == 325 && t.ks.waiting.isNone)) = true := by decide +kernel
theorem wit_KeystoneMetering_timeout_none : (goes (exec (.activityTimeout) ksOn) (fun t => ksAcc0 t == 0)) = true := by decide +kernel
theorem wit_KeystoneMetering_activity_no_link : (goes (exec (.activity [] true) (waits ksOn)) (fun t => ksAcc0 t == 0)) = true := by decide +kernel
theorem wit_KeystoneMetering_activity_bad : (goes (exec (.activity [] false) (waits ksUp)) (fun t => ksAcc0 t == 1300 && t.ks.fallback == 1)) = true := by decide +kernel
theorem wit_KeystoneMetering_activity_other : (getF (waits ksUp) KS_STS_INTERVAL != 7 && goes (exec (.activity [] true) (waits ksUp)) (fun t => ksAcc0 t == 0)) = true := by decide +kernel
theorem wit_KeystoneMetering_activity : (getF (puts [(KS_STS_INTERVAL, 7)] (waits ksUp)) KS_STS_INTERVAL == open0.idx && ksHubUp (waits ksUp)) = true := by decide +kernel
theorem wit_KeystoneMetering_pulse : (goes (exec (.ksPulse) (ksX (fun k => { k with acc := { k.acc with energy := [10000000000, 0, 0, 0, 0] } }) ksOn)) (fun t => t.ks.pulses == 1 && t.ks.pulseSrc == 0 && tabGet (fun _ => 0) t.ks.marks 0 == 1)) = true := by decide +kernel
theorem wit_KeystoneMetering_pulse_selected : (goes (exec (.ksPulse) (ksX (fun k => { k with pulseSel := 4, acc := { k.acc with energy := [0, 0, 0, 0, 10000000000] } }) ksOn)) (fun t => t.ks.pulses == 1 && t.ks.pulseSrc == 4)) = true := by decide +kernel
theorem wit_KeystoneMetering_pulse_none : (goes (exec (.ksPulse) ksOn) (fun t => t.ks.pulses == 0)) = true := by decide +kernel
theorem wit_KeystoneMetering_compare_early : (goes (exec (.pairCompare) ksOn) (fun t => t.ks.log.isEmpty)) = true := by decide +kernel
theorem wit_KeystoneMetering_compare : (goes (exec (.pairCompare) (ksX (fun k => { k with sumN := 1000 }) ksOn)) (fun t => t.ks.badSense.isEmpty && t.ks.sumN == 0)) = true := by decide +kernel
theorem wit_KeystoneMetering_compare_bad : (goes (exec (.pairCompare) (ksX (fun k => { k with sumN := 1000, sums := [(12, (1, 1000000000, 1000000000))] }) ksOn)) (fun t => t.ks.badSense == [12] && t.ks.log.length == 1)) = true := by decide +kernel
theorem wit_KeystoneMetering_sense : (goes (exec (.senseOutOfRange 12) ksOn) (fun t => t.ks.badSense == [12] && t.ks.log.length == 1 && t.ks.acc.audit == 1)) = true := by decide +kernel
theorem wit_KeystoneMetering_clock : (goes (exec (.clockCheck true) ksOn) (fun t => t.ks.badClk && t.ks.log.length == 1)) = true := by decide +kernel
theorem wit_KeystoneMetering_clock_same : (goes (exec (.clockCheck false) ksOn) (fun t => t.ks.log.isEmpty)) = true := by decide +kernel
theorem wit_KeystoneMetering_calibration : (goes (exec (.calibrationCycle good) ksOn) (fun t => t.ks.cal == some ⟨0, false, []⟩)) = true := by decide +kernel
theorem wit_KeystoneMetering_calibration_b : (runsGood good && goes (exec (.calibrationCycle good) (ksX (fun k => { k with cal := some ⟨12, false, []⟩ }) ksOn)) (fun t => t.ks.cal == some ⟨12, true, []⟩ && tabGet (fun _ => ((0 : Int), (0 : Int))) t.ks.trims 25 == (2, 1))) = true := by decide +kernel
theorem wit_KeystoneMetering_calibration_next : (!runsGood ⟨1, 2, 0, 3⟩ && goes (exec (.calibrationCycle ⟨1, 2, 0, 3⟩) (ksX (fun k => { k with cal := some ⟨0, true, []⟩ }) ksOn)) (fun t => t.ks.cal == some ⟨1, false, [0]⟩ && t.ks.trims.isEmpty)) = true := by decide +kernel
theorem wit_KeystoneMetering_calibration_end : (goes (exec (.calibrationCycle good) (ksX (fun k => { k with cal := some ⟨12, true, []⟩ }) ksOn)) (fun t => t.ks.cal == none && t.ks.log.length == 1)) = true := by decide +kernel
theorem wit_KeystoneMetering_commit : (goes (exec (.ksPeriodicCommit) (ksX (fun k => { k with acc := { k.acc with readings := 5 } }) ksOn)) (fun t => t.ks.saved.readings == 5)) = true := by decide +kernel
theorem wit_KeystoneMetering_loss : (goes (exec (.powerLoss) (waits ksOn)) (fun t => !t.ks.powered && ksAcc0 t == 1300 && t.ks.log.length == 1)) = true := by decide +kernel
theorem wit_KeystoneMetering_on_already : (goes (exec (.powerOn 0) ksOn) (fun t => t.ks.powerOns == 0)) = true := by decide +kernel
theorem wit_KeystoneMetering_on : (goes (exec (.powerOn 0) live) (fun t => t.ks.powered && t.ks.powerOns == 1 && t.ks.log.length == 1)) = true := by decide +kernel
theorem wit_KeystoneMetering_on_over : (goes (exec (.powerOn 5) live) (fun t => t.ks.log.length == 2)) = true := by decide +kernel
theorem wit_KeystoneMetering_on_staged : (goes (exec (.powerOn 0) (staged live)) (fun t => t.ks.starting && t.ks.log.isEmpty)) = true := by decide +kernel
theorem wit_KeystoneMetering_image : (ksReject (ksX (fun k => { k with starting := true }) (staged ksOn)) (image 5) == none && goes (exec (.ksImageCheck (image 5)) (ksX (fun k => { k with starting := true }) (staged ksOn))) (fun t => t.ks.version == 5 && t.ks.fwId == 99 && t.ks.staging.isEmpty && t.ks.log.length == 2)) = true := by decide +kernel
theorem wit_KeystoneMetering_image_rejected : (ksReject (ksX (fun k => { k with starting := true }) (staged ksOn)) (image 0) == some 4 && goes (exec (.ksImageCheck (image 0)) (ksX (fun k => { k with starting := true }) (staged ksOn))) (fun t => t.ks.version == 0 && t.ks.staging.isEmpty && t.ks.log.length == 2)) = true := by decide +kernel
theorem wit_KeystoneMetering_image_none : (goes (exec (.ksImageCheck (image 5)) ksOn) (fun t => t.ks.version == 0)) = true := by decide +kernel
theorem wit_KeystoneLink_deaf : (goes (exec (.mirror true) ksUp) (fun t => rd t KS_E_PKG == 0)) = true := by decide +kernel
theorem wit_KeystoneLink_mirror : (ksHubUp (framed (.mirror mirror0)) && goes (exec (.mirror true) (framed (.mirror mirror0))) (fun t => rd t KS_E_PKG == 1 && rd t (KS_E_CH 3) == 5 && getF t KS_CNT_AUDIT == 6 && getF t KS_STS_INTERVAL == 9 && rd t (KS_RAIL 12) == 5 && t.ks.frames.isEmpty)) = true := by decide +kernel
theorem wit_KeystoneLink_mirror_bad : (goes (exec (.mirror false) (framed (.mirror mirror0))) (fun t => rd t KS_E_PKG == 0 && t.ks.frames.isEmpty)) = true := by decide +kernel
theorem wit_KeystoneLink_audit : (goes (exec (.audit true) (framed (.audit 1023 (7 * 2 ^ 192)))) (fun t => rd t (KS_AUDIT 1023 3) == 7)) = true := by decide +kernel
theorem wit_KeystoneLink_identity : (goes (exec (.identity true) (framed (.identity 1 2 3 4 5))) (fun t => rd t KS_ID == 4 && getF t KS_INFO_POWERON == 5 && getF t KS_STS_UID_MISMATCH == 1)) = true := by decide +kernel
theorem wit_KeystoneLink_pubkey : ((framed .pubkey).ks.frames == [.pubkey]) = true := by decide +kernel
theorem wit_KeystoneLink_response : (goes (exec (.response true) (ksX (fun k => { k with mb := some ⟨4, 3, 0, 0, 0, []⟩ }) (framed (.response 4 0 [1, 2, 3, 4, 5, 6, 7, 8])))) (fun t => mbSt t == (2, 0) && rd t (HP_KS_MBBUF 0) == 0x807060504030201 && t.ks.mb == none)) = true := by decide +kernel
theorem wit_KeystoneLink_response_failed : (goes (exec (.response true) (ksX (fun k => { k with mb := some ⟨4, 3, 0, 0, 0, []⟩ }) (framed (.response 4 6 [])))) (fun t => mbSt t == (3, 6))) = true := by decide +kernel
theorem wit_KeystoneLink_response_other : (goes (exec (.response true) (framed (.response 4 0 []))) (fun t => t.ks.frames.isEmpty)) = true := by decide +kernel
theorem wit_KeystoneLink_up : (ksHubUp ksOn && goes (exec (.ksLinkUp) ksOn) (fun t => getF t KS_STS_LINK == 1 && t.ks.frames.length == 2)) = true := by decide +kernel
theorem wit_KeystoneLink_up_no : (goes (exec (.ksLinkUp) live) (fun t => !t.ks.link)) = true := by decide +kernel
theorem wit_KeystoneLink_down : (goes (exec (.ksLinkDown) (framed .pubkey)) (fun t => getF t KS_STS_LINK == 0 && getF t KS_STS_STALE == 1 && t.ks.frames.isEmpty)) = true := by decide +kernel
theorem wit_KeystoneLink_down_no : (goes (exec (.ksLinkDown) ksOn) (fun t => getF t KS_STS_STALE == 0)) = true := by decide +kernel
theorem wit_KeystoneLink_send_down : (takes ksOn HP_KS_MB (kW 1 0 0) && goes (exec (.signReading true) ksOn) (fun t => mbSt t == (3, 4))) = true := by decide +kernel
theorem wit_KeystoneLink_send_lost : (goes (exec (.selfcal false) ksUp) (fun t => mbSt t == (1, 0) && t.ks.frames.isEmpty && (t.ks.mb.map (·.op)) == some 3)) = true := by decide +kernel
theorem wit_KeystoneLink_send_busy : (ksUp.ks.nextSeq == 0 && goes (exec (.selfcal true) (ksX (fun k => { k with job := some ⟨9, 0, false⟩ }) ksUp)) (fun t => tells1 t == [(0, 1)])) = true := by decide +kernel
theorem wit_KeystoneLink_reading : (goes (exec (.signReading true) ksUp) (fun t => (t.ks.job.map (·.reading)) == some true && t.ks.frames.isEmpty)) = true := by decide +kernel
theorem wit_KeystoneLink_reading_no_key : (goes (exec (.signReading true) (ksX (fun k => { k with hasKey := false }) ksUp)) (fun t => tells1 t == [(0, 5)])) = true := by decide +kernel
theorem wit_KeystoneLink_audit_bad : (goes (exec (.signAudit 0 true) ksUp) (fun t => tells1 t == [(0, 6)])) = true := by decide +kernel
def oneAudit : State := puts [(HP_KS_MBAUX_AUX, 1)] (ksX (fun k => { k with log := [(0, auditEntry live 1 5 0 0)] }) ksUp)
theorem wit_KeystoneLink_audit_signed : ((auditFind oneAudit 1).isSome && goes (exec (.signAudit 1 true) oneAudit) (fun t => (t.ks.job.map (·.reading)) == some false)) = true := by decide +kernel
theorem wit_KeystoneLink_selfcal : (goes (exec (.selfcal true) ksUp) (fun t => tells1 t == [(0, 0)] && t.ks.cal == some ⟨0, false, []⟩)) = true := by decide +kernel
theorem wit_KeystoneLink_selfcal_running : (goes (exec (.selfcal true) (ksX (fun k => { k with cal := some ⟨3, true, []⟩ }) ksUp)) (fun t => tells1 t == [(0, 7)])) = true := by decide +kernel
theorem wit_KeystoneLink_pulse : (goes (exec (.pulseSrc 4 true) ksUp) (fun t => tells1 t == [(0, 0)] && t.ks.pulseSel == 4)) = true := by decide +kernel
theorem wit_KeystoneLink_pulse_bad : (goes (exec (.pulseSrc 5 true) ksUp) (fun t => tells1 t == [(0, 8)] && t.ks.pulseSel == 0)) = true := by decide +kernel
theorem wit_KeystoneLink_stage_bad : (goes (exec (.ksStageBlock 1 4 true) ksUp) (fun t => tells1 t == [(0, 9)])) = true := by decide +kernel
def crcAux : State := puts [(HP_KS_MBAUX_AUX, crc32 [0, 0, 0, 0])] ksUp
theorem wit_KeystoneLink_stage : (crc32 (mbBytes crcAux 4) == getF crcAux HP_KS_MBAUX_AUX && goes (exec (.ksStageBlock 4096 4 true) crcAux) (fun t => tells1 t == [(0, 0)] && tabGet (fun _ => []) t.ks.staging 1 == [0, 0, 0, 0])) = true := by decide +kernel
theorem wit_KeystoneLink_clear : (goes (exec (.stageClear true) (staged ksUp)) (fun t => tells1 t == [(0, 0)] && t.ks.staging.isEmpty)) = true := by decide +kernel
theorem wit_KeystoneLink_resend_none : (goes (exec (.mailboxResend true) ksUp) (fun t => !t.ks.resent)) = true := by decide +kernel
theorem wit_KeystoneLink_resend : (goes (exec (.mailboxResend false) (command false)) (fun t => t.ks.resent && t.ks.frames.isEmpty)) = true := by decide +kernel
theorem wit_KeystoneLink_resend_answered : (goes (exec (.mailboxResend true) (ksX (fun k => { k with answer := some (4, 0, []) }) (command false))) (fun t => tells1 t == [(4, 0)])) = true := by decide +kernel
theorem wit_KeystoneLink_resend_second : (goes (exec (.mailboxResend true) (command true)) (fun t => t.ks.frames.isEmpty)) = true := by decide +kernel
theorem wit_KeystoneLink_timeout : (goes (exec (.mailboxTimeout) (command true)) (fun t => mbSt t == (3, 4) && t.ks.mb == none)) = true := by decide +kernel
theorem wit_KeystoneLink_timeout_early : (goes (exec (.mailboxTimeout) (command false)) (fun t => t.ks.mb.isSome)) = true := by decide +kernel
theorem wit_KeystoneLink_signed : (goes (exec (.ksSigningComplete) (ksX (fun k => { k with job := some ⟨4, 5, true⟩ }) ksUp)) (fun t => t.ks.job == none && t.ks.acc.readings == 1 && t.draws == 1)) = true := by decide +kernel
theorem wit_KeystoneLink_signed_none : (goes (exec (.ksSigningComplete) ksUp) (fun t => t.draws == 0)) = true := by decide +kernel

/-! ## Firmware and start-up (13) -/

/-- Slot B in a state. -/
def slotB (st : Nat) (s : State) : State := bootMod s (fun b => { b with flash := { b.flash with rec0 := some ⟨1, st, 0, 0, 1, 2⟩ } })
def fwAns (t : State) : Nat × Nat := (getF t HP_FW_CMD_STATUS, getF t HP_FW_CMD_REASON)
def recovering (s : State) : State := puts [(HP_BOOT_STS_STAGE, 8)] s
def fW (o : Nat) (l : List (Fld × Nat)) : Word := cmdWord ((HP_FW_CMD_OP, o) :: l)
def hitching (h : Hitch) (s : State) : State := bootMod s (fun b => { b with hitch := some h })
def hitchAt (p : Nat) (u : Option Nat) (back asked : Bool) : Hitch := ⟨p, u, back, asked, 0⟩
def hph (t : State) : Nat × Bool × Bool := ((t.boot.hitch.map (·.phase)).getD 0, (t.boot.hitch.map (·.back)).getD false, t.boot.fwUp)
/-- Four bytes to stage are announced in HP_FW_ARG0 and HP_FW_ARG1. -/
def blockArgs (s : State) : State := puts [(HP_FW_ARG1_OFFSET, 4096), (HP_FW_ARG1_CRC, crc32 [1, 2, 3, 4])] (puts [(HP_ROLE_STATE, 2)] s)

theorem wit_FirmwareCommands_begin : (takes live HP_FW_CMD (fW 1 []) && !fwAway live && goes (exec (.stageBegin) (slotB 2 live)) (fun t => fwAns t == (2, 0) && bState t == 1 && getF t HP_FW_STS_B_STATE == 1)) = true := by decide +kernel
theorem wit_FirmwareCommands_begin_busy : (!slotFree (slotB 4 live) && goes (exec (.stageBegin) (slotB 4 live)) (fun t => fwAns t == (3, 10))) = true := by decide +kernel
theorem wit_FirmwareCommands_end_incomplete : (goes (exec (.stageEnd) (slotB 1 live)) (fun t => fwAns t == (3, 9))) = true := by decide +kernel
theorem wit_FirmwareCommands_end_state : (goes (exec (.stageEnd) (slotB 2 live)) (fun t => fwAns t == (3, 10))) = true := by decide +kernel
theorem wit_FirmwareCommands_discard : (goes (exec (.discard) (slotB 2 live)) (fun t => fwAns t == (2, 0) && bState t == 0)) = true := by decide +kernel
theorem wit_FirmwareCommands_block : (readable (blockArgs live) hostBase && goes (exec (.stageBlock 4 [(0, [1, 2, 3, 4])]) (slotB 1 (blockArgs live))) (fun t => fwAns t == (2, 0) && slotBytes t true 4096 4 == [1, 2, 3, 4] && getF t HP_FW_STS_BLOCKS == 1)) = true := by decide +kernel
theorem wit_FirmwareCommands_block_bad : (goes (exec (.stageBlock 4 [(0, [1, 2, 3, 5])]) (slotB 1 (blockArgs live))) (fun t => fwAns t == (3, 9))) = true := by decide +kernel
theorem wit_FirmwareCommands_waits : (fwAway (bootMod live (fun b => { b with fwUp := false })) && goes (exec (.activate) (bootMod live (fun b => { b with fwUp := false }))) (fun t => getF t HP_FW_CMD_STATUS == 1 && t.boot.held == [(HP_FW_CMD, true)])) = true := by decide +kernel
theorem wit_FirmwareCommands_activate_state : (goes (exec (.activate) (slotB 1 live)) (fun t => fwAns t == (3, 10))) = true := by decide +kernel
theorem wit_FirmwareCommands_activate : (goes (exec (.activate) (slotB 2 live)) (fun t => hph t == (1, false, true))) = true := by decide +kernel
theorem wit_FirmwareCommands_commit_state : (goes (exec (.commit true) live) (fun t => fwAns t == (3, 10))) = true := by decide +kernel
theorem wit_FirmwareCommands_commit_fuse : (goes (exec (.commit false) (slotB 4 live)) (fun t => fwAns t == (3, 8))) = true := by decide +kernel
theorem wit_FirmwareCommands_commit : (goes (exec (.commit true) (slotB 4 live)) (fun t => getF t HP_FW_CMD_STATUS == 1 && bState t == 5)) = true := by decide +kernel
theorem wit_FirmwareCommands_revert : (goes (exec (.revert) (slotB 4 live)) (fun t => (t.boot.hitch.map (fun h => (h.phase, h.back, h.asked))) == some (1, true, true))) = true := by decide +kernel
theorem wit_FirmwareCommands_revert_state : (goes (exec (.revert) live) (fun t => fwAns t == (3, 10))) = true := by decide +kernel
theorem wit_FirmwareCommands_frame_deaf : (goes (exec (.recoveryFrame 1 1 0 0 [] true) live) (fun t => t.boot.uartOut.isEmpty)) = true := by decide +kernel
theorem wit_FirmwareCommands_frame : (goes (exec (.recoveryFrame 1 1 0 0 [] true) (recovering live)) (fun t => t.boot.uartOut == [(1, 2, 0)] && bState t == 1)) = true := by decide +kernel
theorem wit_FirmwareCommands_frame_again : (goes (exec (.recoveryFrame 1 1 0 0 [] true) (bootMod (recovering live) (fun b => { b with uart := some (1, 3, 9) }))) (fun t => t.boot.uartOut == [(1, 3, 9)] && bState t == 0)) = true := by decide +kernel
theorem wit_FirmwareCommands_frame_refused : (goes (exec (.recoveryFrame 2 5 0 0 [] true) (recovering live)) (fun t => t.boot.uartOut == [(2, 3, 10)])) = true := by decide +kernel
theorem wit_FirmwareCommands_install : (takes (blockArgs live) HP_CERT_CMD (cmdWord [(HP_CERT_CMD_OP, 1)]) && readable (blockArgs live) hostBase && !anyPoison (blockArgs live) hostBase 512) = true := by decide +kernel
theorem wit_Hitches_none : (goes (exec (.hitchPhase true .ok) live) (fun t => t.boot.hitch.isNone)) = true := by decide +kernel
theorem wit_Hitches_first : (goes (exec (.hitchPhase true .ok) (hitching (hitchAt 1 none false false) (slotB 2 live))) (fun t => hph t == (2, false, false) && bState t == 3 && getF t HP_BOOT_STS_STAGE == 7)) = true := by decide +kernel
theorem wit_Hitches_first_back : (goes (exec (.hitchPhase true .ok) (hitching (hitchAt 1 none true true) (slotB 4 live))) (fun t => hph t == (3, true, false))) = true := by decide +kernel
theorem wit_Hitches_second_fails : ((verifySet (hitching (hitchAt 2 none false false) (slotB 3 live)) true true .readErr).isSome && goes (exec (.hitchPhase true .readErr) (hitching (hitchAt 2 none false false) (slotB 3 live))) (fun t => hph t == (3, true, false) && bState t == 6)) = true := by decide +kernel
theorem wit_Hitches_third_fails : (goes (exec (.hitchPhase false .ok) (hitching (hitchAt 3 none false false) (slotB 3 live))) (fun t => hph t == (3, true, false) && (bRec t).reason == 14)) = true := by decide +kernel
theorem wit_Hitches_third : (goes (exec (.hitchPhase true .ok) (hitching (hitchAt 3 none false false) (slotB 3 live))) (fun t => t.boot.fwUp && getF t (HP_FW_COMP_READY 0) == 1 && getF t HP_BOOT_STS_SLOT == 1 && getF t HP_BOOT_STS_BOOT == 2)) = true := by decide +kernel
theorem wit_Hitches_end : (goes (exec (.hitchPhase true .ok) (hitching (hitchAt 7 none false false) (slotB 3 live))) (fun t => t.boot.hitch.isNone && bState t == 4 && fwAns t == (2, 0))) = true := by decide +kernel
theorem wit_Hitches_end_asked : (goes (exec (.hitchPhase true .ok) (hitching (hitchAt 7 none true true) (slotB 4 live))) (fun t => t.boot.hitch.isNone && bState t == 2)) = true := by decide +kernel
theorem wit_Hitches_end_back : (goes (exec (.hitchPhase true .ok) (puts [(HP_BOOT_STS_ERR, 14)] (hitching (hitchAt 7 none true false) (slotB 6 live)))) (fun t => fwAns t == (3, 14))) = true := by decide +kernel
theorem wit_Hitches_other_phase : (goes (exec (.hitchPhase true .ok) (hitching (hitchAt 4 (some 2) false false) live)) (fun t => hph t == (4, false, true))) = true := by decide +kernel
theorem wit_Hitches_ready : (goes (exec (.unitReady 2) (puts [(OE_STS_STATE 0, 4)] (hitching (hitchAt 4 (some 2) false false) live))) (fun t => getF t (HP_FW_COMP_READY 2) == 1 && getF t (OE_STS_STATE 0) == 3)) = true := by decide +kernel
theorem wit_Hitches_ready_other : (goes (exec (.unitReady 3) (hitching (hitchAt 4 (some 2) false false) live)) (fun t => getF t (HP_FW_COMP_READY 3) == 0)) = true := by decide +kernel
theorem wit_Hitches_late : (goes (exec (.hitchUnitTimeout) (hitching (hitchAt 4 (some 1) false false) (slotB 3 live))) (fun t => hph t == (3, true, false) && (bRec t).reason == 13)) = true := by decide +kernel
theorem wit_Hitches_late_no_unit : (goes (exec (.hitchUnitTimeout) (hitching (hitchAt 3 none false false) (slotB 3 live))) (fun t => hph t == (3, true, false))) = true := by decide +kernel
theorem wit_Hitches_late_skip : ((match unitTurn live 2 with | .skip => true | _ => false) && goes (exec (.hitchUnitTimeout) (hitching (hitchAt 4 (some 2) false false) live)) (fun t => getF t (HP_FW_COMP_SKIPPED 2) == 1)) = true := by decide +kernel
theorem wit_Hitches_late_back : (goes (exec (.hitchUnitTimeout) (hitching (hitchAt 4 (some 1) true false) live)) (fun t => hph t == (4, true, true))) = true := by decide +kernel
theorem wit_Hitches_promotion : (goes (exec (.promotionComplete) (slotB 5 live)) (fun t => bState t == 0 && t.boot.flash.slotB.isEmpty && (bRec t).verA == 2)) = true := by decide +kernel
theorem wit_Hitches_promotion_no : (goes (exec (.promotionComplete) (slotB 4 live)) (fun t => bState t == 4)) = true := by decide +kernel
theorem wit_StartUp_rise : (goes (exec (.pwrokRise 5 true false) State.reset) (fun t => t.boot.pwrok && t.boot.recoveryN && getF t HP_GRP_STS_RANK == 5 && getF t HP_GRP_STS_PRESENT == 32 && rd t (HP_HOST_SHARE 0) == 0x10 * 2 ^ 40)) = true := by decide +kernel
theorem wit_StartUp_rise_no : (goes (exec (.pwrokRise 5 true false) live) (fun t => getF t HP_GRP_STS_RANK == 0)) = true := by decide +kernel
theorem wit_StartUp_fall : ((bootMod (slotB 1 mem0) (fun b => { b with pwrok := true })).boot.pwrok) = true := by decide +kernel
theorem wit_StartUp_fall_no : (goes (exec (.pwrokFall) State.reset) (fun t => !t.boot.pwrok)) = true := by decide +kernel
def powered : State := bootMod State.reset (fun b => { b with pwrok := true })
def stage (k : Nat) (s : State) : State := puts [(HP_BOOT_STS_STAGE, k)] s
def stg (t : State) : Nat := getF t HP_BOOT_STS_STAGE
def recoveryPin : State := bootMod powered (fun b => { b with recoveryN := true })
def failedTwice : State := bootMod powered (fun b => { b with flash := { b.flash with rec0 := some ⟨1, 0, 2, 0, 1, 0⟩ } })
theorem wit_StartUp_cold_off : (goes (exec (.coldStartStage .ok) State.reset) (fun t => stg t == 0)) = true := by decide +kernel
theorem wit_StartUp_cold_recovery : (recoveryPin.boot.pwrok && recoveryPin.boot.recoveryN && !pkgSafe recoveryPin && !recoveryPin.hub.down && stg recoveryPin == 0) = true := by decide +kernel
theorem wit_StartUp_cold_no_record : ((bootRec powered).isNone && goes (exec (.coldStartStage .ok) powered) (fun t => stg t == 0 && (bRec t).fails == 1 && (bRec t).reason == 12)) = true := by decide +kernel
theorem wit_StartUp_cold_fails : (failedTwice.boot.pwrok && !pkgSafe failedTwice && !failedTwice.hub.down && stg failedTwice == 0 && (bootRec failedTwice).isSome && (bRec failedTwice).fails == 2) = true := by decide +kernel
theorem wit_StartUp_cold_0 : (goes (exec (.coldStartStage .ok) (slotB 4 powered)) (fun t => stg t == 1 && testPhase t 4 == 1 && getF t (CH_DIE_STS_STATE 3) == 1 && bState t == 2)) = true := by decide +kernel
theorem wit_StartUp_cold_1 : (goes (exec (.coldStartStage .ok) (stage 1 powered)) (fun t => stg t == 2)) = true := by decide +kernel
theorem wit_StartUp_cold_1_waits : (goes (exec (.coldStartStage .ok) (testing 4 2 (stage 1 powered))) (fun t => stg t == 1)) = true := by decide +kernel
theorem wit_StartUp_cold_2_fails : ((verifySet (stage 2 (slotB 0 powered)) false false .readErr).isSome && goes (exec (.coldStartStage .readErr) (stage 2 (slotB 0 powered))) (fun t => stg t == 0 && (bRec t).fails == 1)) = true := by decide +kernel
theorem wit_StartUp_cold_3 : (goes (exec (.coldStartStage .ok) (stage 3 powered)) (fun t => stg t == 4 && getF t HP_CAP_EFF_CH_ADMITTED == 0)) = true := by decide +kernel
theorem wit_StartUp_cold_3_waits : (goes (exec (.coldStartStage .ok) (dieAt 2 2 (stage 3 powered))) (fun t => stg t == 3)) = true := by decide +kernel
theorem wit_StartUp_cold_4 : (goes (exec (.coldStartStage .ok) (dieAt 1 3 (stage 4 powered))) (fun t => stg t == 5 && t.boot.fwUp && t.boot.awaitOk && getF t (CD_HBM_STS_STATE 1 1) == 1)) = true := by decide +kernel
theorem wit_StartUp_cold_5 : (goes (exec (.coldStartStage .ok) (stage 5 powered)) (fun t => stg t == 6)) = true := by decide +kernel
theorem wit_StartUp_cold_5_waits : (goes (exec (.coldStartStage .ok) (puts [(CD_HBM_STS_STATE 1 1, 2)] (dieAt 1 3 (stage 5 powered)))) (fun t => stg t == 5)) = true := by decide +kernel
theorem wit_StartUp_cold_6 : (goes (exec (.coldStartStage .ok) (dieAt 1 3 (stage 6 powered))) (fun t => stg t == 9 && getF t (CH_ADM_CTL_EN 1) == 1)) = true := by decide +kernel
theorem wit_StartUp_cold_done : (goes (exec (.coldStartStage .ok) (stage 9 powered)) (fun t => stg t == 9)) = true := by decide +kernel
theorem wit_StartUp_ok : (goes (exec (.bootOk) (bootMod (stage 9 powered) (fun b => { b with awaitOk := true, flash := { b.flash with rec0 := some ⟨1, 0, 2, 0, 1, 0⟩ } }))) (fun t => (bRec t).fails == 0 && !t.boot.awaitOk)) = true := by decide +kernel
theorem wit_StartUp_ok_no : (goes (exec (.bootOk) (bootMod (stage 9 powered) (fun b => { b with flash := { b.flash with rec0 := some ⟨1, 0, 2, 0, 1, 0⟩ } }))) (fun t => (bRec t).fails == 2)) = true := by decide +kernel
theorem wit_StartUp_watchdog_no : (goes (exec (.bootWatchdog .ok) powered) (fun t => t.boot.pwrok)) = true := by decide +kernel
theorem wit_StartUp_watchdog : ((bootMod powered (fun b => { b with awaitOk := true })).boot.awaitOk && !pkgSafe powered) = true := by decide +kernel

/-! ## Supplies, sensors and the queue (14) -/

theorem wit_SuppliesAndSensors_set : (takes live (HP_VCORE 3) (putBits 0 9 0 1023) && goes (exec (.vcoreSet 3 1023) live) (fun t => getF t (HP_VCORE_TARGET 3) == 1023 && getF t (HP_VCORE_MOVING 3) == 1)) = true := by decide +kernel
theorem wit_SuppliesAndSensors_avs : (goes (exec (.avsTransaction 3 true 649) live) (fun t => getF t (HP_VCORE_ACTUAL 3) == 649 && getF t (HP_VCORE_RETENTION 3) == 1)) = true := by decide +kernel
theorem wit_SuppliesAndSensors_avs_bad : (goes (exec (.avsTransaction 3 false 649) live) (fun t => getF t (HP_VCORE_AVS_ERR 3) == 1)) = true := by decide +kernel
theorem wit_SuppliesAndSensors_supply_keystone : (goes (exec (.supplyFault 12) live) (fun t => getF t FC_GRAVE_VALID == 0)) = true := by decide +kernel
theorem wit_SuppliesAndSensors_supply : (!pkgSafe live && !live.hub.down) = true := by decide +kernel
theorem wit_SuppliesAndSensors_supply_away : (goes (exec (.supplyFault 0) (hubMod live (fun h => { h with down := true }))) (fun t => reps t == [(0x905, 0)])) = true := by decide +kernel
def hot (k n : Nat) (s : State) : State := { s with side := { s.side with trips := [(k, n)] } }
theorem wit_SuppliesAndSensors_trip_no : (goes (exec (.thermalTrip 0) (hot 0 9 live)) (fun t => t.reports.isEmpty)) = true := by decide +kernel
theorem wit_SuppliesAndSensors_trip_away : (sensorLive live 0 && goes (exec (.thermalTrip 0) (hubMod (hot 0 10 live) (fun h => { h with down := true }))) (fun t => reps t == [(0x904, 0)])) = true := by decide +kernel
theorem wit_SuppliesAndSensors_speed : (!epochStale live 3 && goes (exec (.speedMonitorWindow 3 15 16384) live) (fun t => getF t (CD_SPD_MON_STEP 3 15) == 1000 && getF t (CD_SPD_MON_SEQ 3 15) == 1 && t.draws == 0)) = true := by decide +kernel
theorem wit_SuppliesAndSensors_speed_none : (goes (exec (.speedMonitorWindow 3 15 0) live) (fun t => t.draws == 1)) = true := by decide +kernel
theorem wit_SuppliesAndSensors_speed_no : (goes (exec (.speedMonitorWindow 3 15 16384) (dieAt 3 0 live)) (fun t => getF t (CD_SPD_MON_SEQ 3 15) == 0)) = true := by decide +kernel
theorem wit_SuppliesAndSensors_reading : (goes (exec (.tempSensorReading 63 1680) live) (fun t => tabGet (fun _ => none) t.side.temps 63 == some 1680 && getF t HP_THERM_HOT_CD == 8 && bitsOf (rd t (CD_TEMP 3 15)) 15 0 == 1680 && getF t (occFld (hotOf 63).1 (hotOf 63).2) == 1)) = true := by decide +kernel
theorem wit_SuppliesAndSensors_reading_trip : (goes (exec (.tempSensorReading 63 1840) live) (fun t => tabGet (fun _ => 0) t.side.trips 63 == 1)) = true := by decide +kernel
theorem wit_SuppliesAndSensors_reading_cool : (goes (exec (.tempSensorReading 63 1679) (hot 63 5 live)) (fun t => getF t HP_THERM_HOT_CD == 0 && tabGet (fun _ => 0) t.side.trips 63 == 0)) = true := by decide +kernel
theorem wit_SuppliesAndSensors_reading_hbm : (goes (exec (.tempSensorReading 168 1600) live) (fun t => getF t (CD_HBM_STS_TEMP 3 1) == 100)) = true := by decide +kernel
theorem wit_SuppliesAndSensors_reading_dead : (goes (exec (.tempSensorReading 63 1680) (dieAt 3 0 live)) (fun t => t.side.temps.isEmpty)) = true := by decide +kernel
theorem wit_SuppliesAndSensors_trim_begin : (goes (exec (.tempSensorTrim 3 15 none) live) (fun t => getF t (CD_TEMP_STALE 3 15) == 1)) = true := by decide +kernel
theorem wit_SuppliesAndSensors_trim : (partGood ⟨.sensor, 0, 1, 2⟩ && goes (exec (.tempSensorTrim 3 15 (some (1, 2))) (puts [(CD_TEMP_STALE 3 15, 1)] live)) (fun t => getF t (CD_TEMP_STALE 3 15) == 0 && getF t (CD_TEMP_TRIM_FUSED 3 15) == 0)) = true := by decide +kernel
theorem wit_SuppliesAndSensors_trim_bad : (goes (exec (.tempSensorTrim 3 15 (some (-5000, 5000))) (puts [(CD_TEMP_STALE 3 15, 1)] live)) (fun t => getF t (CD_TEMP_TRIM_FUSED 3 15) == 1 && reps t == [(0x201, 8)])) = true := by decide +kernel
theorem wit_SuppliesAndSensors_trim_no : (goes (exec (.tempSensorTrim 3 15 (some (1, 2))) live) (fun t => t.reports.isEmpty)) = true := by decide +kernel
theorem wit_SuppliesAndSensors_trim_dead : (goes (exec (.tempSensorTrim 3 15 none) (dieAt 3 0 live)) (fun t => getF t (CD_TEMP_STALE 3 15) == 0)) = true := by decide +kernel

theorem wit_StepTakesFront_command : (goes (step { live with pending := [.keepalive 3] }) (fun t => t.pending.isEmpty && t.hubTime == live.hubTime)) = true := by decide +kernel
theorem wit_StepTakesFront_tick : (live.hub.hostOut.isEmpty && live.boot.held.isEmpty && live.ropes.isEmpty
    && goes (step live) (fun t => t.hubTime == 1 && getF t (CD_EPOCH_EPOCH 3) == 1)) = true := by decide +kernel
theorem wit_StepTakesFront_tick_stale : (goes (step (puts [(CD_EPOCH_STALE 3, 1)] live)) (fun t => getF t (CD_EPOCH_EPOCH 3) == 0 && getF t (CD_EPOCH_EPOCH 2) == 1)) = true := by decide +kernel
theorem wit_StepKeepsCanonical : Canonical State.reset := ⟨rfl, rfl⟩

theorem wit_AccessesNotPerformed_width : (served here && goes (exec (.mgmtWrite (adr36 HP_FW_ARG0) 16 5 true) here) (fun t => rd t HP_FW_ARG0 == 0 && getF t (SN_DISC_COUNT (adrUnit HP_FW_ARG0 % 16)) == 1)) = true := by decide +kernel
theorem wit_AccessesNotPerformed_align : (goes (exec (.mgmtWrite (adr36 (HP_FW_ARG0 + 1)) 8 5 true) here) (fun t => rd t HP_FW_ARG0 == 0 && getF t (SN_DISC_COUNT (adrUnit HP_FW_ARG0 % 16)) == 1)) = true := by decide +kernel
def isNowhere : Place → Bool
  | .none => true
  | _ => false
theorem wit_AccessesNotPerformed_nowhere : (isNowhere (placeOf 0xF00000000) && !isNowhere (placeOf HP_FWD_CTL)) = true := by decide +kernel
theorem wit_AccessesNotPerformed_keystone : (adrUnit (7 * 2 ^ 32) == 7 && goes (exec (.mgmtWrite (adr36 (7 * 2 ^ 32)) 8 5 true) here) (fun t => getF t (SN_DISC_COUNT 7) == 1)) = true := by decide +kernel
theorem wit_AccessesNotPerformed_busy : (goes (exec (.mgmtWrite (adr36 HP_SPAN_CMD) 8 1 true) (puts [(HP_SPAN_CMD_STATUS, 1)] here)) (fun t => getF t HP_SPAN_CMD_STATUS == 1 && getF t HP_SPAN_CMD_OP == 0 && getF t (SN_DISC_COUNT (adrUnit HP_SPAN_CMD % 16)) == 1)) = true := by decide +kernel
theorem wit_AccessesNotPerformed_read_align : (ownRank here == 0 && goes (exec (.bar2RemoteAccess 0 (adr36 (HP_FWD_CTL + 4)) .read64 0) here) (fun t => bar t == [(.done, 0)] && disc t (adrUnit HP_FWD_CTL % 16) == (1, 1))) = true := by decide +kernel
theorem wit_AccessesNotPerformed_read_half : (goes (exec (.bar2RemoteAccess 0 (adr36 (HP_FWD_CTL + 2)) .readLow 0) here) (fun t => bar t == [(.done, 0)] && disc t (adrUnit HP_FWD_CTL % 16) == (1, 1))) = true := by decide +kernel
theorem wit_AccessesNotPerformed_read_nowhere : (goes (exec (.bar2RemoteAccess 0 (adr36 0xF00000000) .readHigh 0) here) (fun t => bar t == [(.done, 0)] && disc t 15 == (1, 2))) = true := by decide +kernel
theorem wit_QueuePage_write : (served here && roleOf (role 3 here) == 3 && goes (exec (.mgmtWrite (adr36 (HP_HQ 0 0)) 8 5 true) (role 3 here)) (fun t => getF t (SN_DISC_COUNT 0) == 1 && getF t (SN_DISC_LAST_CAUSE 0) == 6)) = true := by decide +kernel
theorem wit_QueuePage_read : (goes (exec (.bar2RemoteAccess 0 (adr36 (HP_HQ 0 0)) .read64 0) (put [(HP_HQ 0 0, 7)] (role 3 here))) (fun t => bar t == [(.done, 0)])) = true := by decide +kernel
theorem wit_QueuePage_role : (!isNowhere (placeOf HP_GRP_STS) && !hidden (role 3 here) HP_GRP_STS && goes (exec (.bar2RemoteAccess 0 (adr36 HP_GRP_STS) .read64 0) (put [(HP_GRP_STS, 0x20000)] (role 3 here))) (fun t => bar t == [(.done, 0x20000)])) = true := by decide +kernel

end Sys2Proof.Slice0
end

/-! # Management accesses that are not performed (R7, R8, R10, R11, R14, R323, R324) -/

section
/-! What a discarded access leaves behind, when a management write is refused, and the ways in which a management read is not performed. -/
namespace Sys2Proof.Machine
open Claims

/-! ## The record of a discarded access (R324) -/

theorem SN_DISC_ne_LAST {u : Nat} (hu : u < 16) (v : Nat) : SN_DISC u ≠ SN_DISC_LAST v := by
  unfold SN_DISC SN_DISC_LAST adr; omega

theorem discardAt_hub (s : State) (a : Nat) (write : Bool) (c : Nat) : (discardAt s a write c).hub = s.hub := rfl

/-- A discarded access writes the two registers of its unit's record and no other. -/
theorem rd_discardAt_ne (s : State) {a x : Nat} (write : Bool) (c : Nat) (hcount : x ≠ SN_DISC (adrUnit a % 16))
    (hlast : x ≠ SN_DISC_LAST (adrUnit a % 16)) : rd (discardAt s a write c) x = rd s x := by
  simp only [discardAt, setFs, addF]
  rw [rd_setF_ne _ _ _ hlast, rd_setF_ne _ _ _ hlast, rd_setF_ne _ _ _ hlast, rd_setF_ne _ _ _ hcount]

theorem discardAt_count (s : State) (a : Nat) (write : Bool) (c : Nat) :
    getF (discardAt s a write c) (SN_DISC_COUNT (adrUnit a % 16)) = (getF s (SN_DISC_COUNT (adrUnit a % 16)) + 1) % 2 ^ 32 := by
  have hne := SN_DISC_ne_LAST (Nat.mod_lt (adrUnit a) (show 16 > 0 by decide)) (adrUnit a % 16)
  simp only [discardAt, setFs, addF]
  rw [getF_setF_ne _ _ _ _ hne, getF_setF_ne _ _ _ _ hne, getF_setF_ne _ _ _ _ hne, getF_setF_same _ _ _ (show 31 < 64 by decide)]
  rfl

/-- SN_DISC_LAST.ADDR is 36 bits wide: of an address past the end of management space (R6) it shows the low 36 bits. -/
theorem discardAt_addr (s : State) (a : Nat) (write : Bool) (c : Nat) :
    getF (discardAt s a write c) (SN_DISC_LAST_ADDR (adrUnit a % 16)) = a % 2 ^ 36 := by
  simp only [discardAt, setFs]
  rw [getF_setF_disjoint _ (SN_DISC_LAST_CAUSE _) (SN_DISC_LAST_ADDR _) _ rfl (.inl (show 35 < 37 by decide)) (show 37 ≤ 39 by decide),
    getF_setF_disjoint _ (SN_DISC_LAST_WRITE _) (SN_DISC_LAST_ADDR _) _ rfl (.inl (show 35 < 36 by decide)) (show 36 ≤ 36 by decide),
    getF_setF_same _ _ _ (show 35 < 64 by decide)]
  rfl

theorem discardAt_write (s : State) (a : Nat) (write : Bool) (c : Nat) :
    getF (discardAt s a write c) (SN_DISC_LAST_WRITE (adrUnit a % 16)) = b2n write := by
  simp only [discardAt, setFs]
  rw [getF_setF_disjoint _ (SN_DISC_LAST_CAUSE _) (SN_DISC_LAST_WRITE _) _ rfl (.inl (show 36 < 37 by decide)) (show 37 ≤ 39 by decide),
    getF_setF_same _ _ _ (show 36 < 64 by decide)]
  cases write <;> rfl

theorem discardAt_cause (s : State) (a : Nat) (write : Bool) (c : Nat) :
    getF (discardAt s a write c) (SN_DISC_LAST_CAUSE (adrUnit a % 16)) = c % 2 ^ 3 := by
  simp only [discardAt, setFs]
  rw [getF_setF_same _ _ _ (show 39 < 64 by decide)]
  rfl

/-- R324: an access inside management space that is discarded is counted, shown, and changes nothing else. -/
theorem discardAt_discarded (s : State) {a c : Nat} (write : Bool) (ha : a < 2 ^ 36) (hc : c < 8) :
    Discarded s (discardAt s a write c) a write c := by
  refine ⟨discardAt_count s a write c, ?_, discardAt_write s a write c, ?_, fun x hx => ?_, rfl⟩
  · rw [discardAt_addr, Nat.mod_eq_of_lt ha]
  · rw [discardAt_cause]; omega
  · simp only [List.mem_cons, List.not_mem_nil, or_false, not_or] at hx
    exact rd_discardAt_ne s write c hx.1 hx.2

/-! ## Writes that are refused (R8, R10, R11, R14) -/

/-- The causes fit SN_DISC_LAST.CAUSE. -/
theorem writeRefusal_lt {s : State} {a len c : Nat} {v : Word} (h : writeRefusal s a len v = some c) : c < 8 := by
  unfold writeRefusal at h
  repeat' split at h
  all_goals cases h <;> decide

/-- A write that is performed is one of 8 bytes at an aligned address outside unit 7 where something stands, and no command is in progress there. -/
theorem writeRefusal_none {s : State} {a len : Nat} {v : Word} (h : writeRefusal s a len v = none) :
    len = 8 ∧ a % 8 = 0 ∧ placeOf a ≠ .none ∧ adrUnit a ≠ 7
    ∧ ∀ c x, placeOf a = .reg c x → c.cmd ≠ 0 → bitsOf (rd s a) (c.sts + 1) c.sts ≠ 1 := by
  unfold writeRefusal at h
  split at h
  · cases h
  next hsize =>
  split at h
  · cases h
  split at h
  · cases h
  split at h
  · cases h
  next hunit =>
  refine ⟨by omega, by omega, fun hp => ?_, hunit, fun c x hp hcmd hbusy => ?_⟩
  · simp [hp] at h
  · simp only [hp, hcmd, hbusy, ne_eq, not_false_eq_true, and_self, if_true] at h
    split at h
    · cases h
    · split at h <;> cases h

theorem execMgmtWrite_refused {s : State} (hs : served s = true) (a : BitVec 36) (len : Fin 17) (v : Word) (ok : Bool)
    (h : writeRefusal s a.toNat len v ≠ none) : ∃ c < 8, exec (.mgmtWrite a len v ok) s = .next (discardAt s a.toNat true c) := by
  obtain ⟨c, hc⟩ := Option.ne_none_iff_exists'.mp h
  refine ⟨c, writeRefusal_lt hc, ?_⟩
  show execMgmtWrite a len v ok s = _
  simp [execMgmtWrite, hs, mgmtWrite, hc]

/-- The bits that start a command in what stands at an address; none where no register stands. -/
def Place.cmd : Place → Nat
  | .reg c _ => c.cmd
  | _ => 0

/-- A command register is none of the registers that record a discarded access. -/
theorem not_disc_of_cmd {a : Nat} {c : Card} {x : RegIdx} (hp : placeOf a = .reg c x) (hc : c.cmd ≠ 0) :
    a ≠ SN_DISC (adrUnit a % 16) ∧ a ≠ SN_DISC_LAST (adrUnit a % 16) := by
  have hcmd : (placeOf a).cmd ≠ 0 := by rw [hp]; exact hc
  refine ⟨fun h => hcmd ?_, fun h => hcmd ?_⟩
  · have : a = SN_DISC 10 := by unfold SN_DISC adr adrUnit at *; omega
    rw [this]; decide +kernel
  · have : a = SN_DISC_LAST 10 := by unfold SN_DISC_LAST adr adrUnit at *; omega
    rw [this]; decide +kernel

/-! ## Reads that are not performed (R8, R10, R323) -/

/-- R8: neither an aligned register nor an aligned half. -/
theorem mgmtRead_misses (s : State) {r len : Nat} (h : ¬ ((len = 8 ∧ r % 8 = 0) ∨ (len = 4 ∧ r % 4 = 0))) :
    mgmtRead s r len = (1, 0, discardAt s r false 1) := by
  simp [mgmtRead, h]

/-- R10: no register stands there. -/
theorem mgmtRead_nowhere (s : State) {r len : Nat} (h : (len = 8 ∧ r % 8 = 0) ∨ (len = 4 ∧ r % 4 = 0)) (hp : placeOf (r - r % 8) = .none)
    (hv : hidden s r = true ∨ dieAway s r = false) : mgmtRead s r len = (1, 0, discardAt s r false 2) := by
  rcases hv with hv | hv <;> simp [mgmtRead, h, hp, hv]

/-- R323: the die is away. -/
theorem mgmtRead_dieAway (s : State) {r len : Nat} (h : (len = 8 ∧ r % 8 = 0) ∨ (len = 4 ∧ r % 4 = 0)) (hh : hidden s r = false)
    (hd : dieAway s r = true) : mgmtRead s r len = (2, 0, s) := by
  simp [mgmtRead, h, hh, hd]

/-- R7: a read through BAR2 that names the own rank is performed here. -/
theorem execBar2_read {s : State} (hs : served s = true) (hup : s.hub.port.up = true) {rank : Fin 16} (hr : rank.val = ownRank s)
    (a : BitVec 36) {op : MgmtOp} (hop : op ≠ .write64) (v : Word) {st : Nat} {w : Word} {u : State}
    (h : mgmtRead s (a.toNat + opOff op) (opLen op) = (st, w, u)) :
    exec (.bar2RemoteAccess rank a op v) s = .next (barDone u a.toNat (if st = 2 then .poisoned else .done) w.toNat) := by
  show execBar2RemoteAccess rank a op v s = _
  simp [execBar2RemoteAccess, hs, hup, hr, hop, h]

/-- A completion changes the hub's record of completions and nothing else. -/
theorem barDone_restore {s u : State} (h : u.hub = s.hub) (a d : Nat) (st : BarStatus) : { barDone u a st d with hub := s.hub } = u := by
  rw [← h]; rfl

theorem barDone_done {s u : State} (h : u.hub = s.hub) (a d : Nat) (st : BarStatus) :
    (barDone u a st d).hub.port.done = s.hub.port.done ++ [⟨a, st, d⟩] := by
  rw [← h]; rfl

end Sys2Proof.Machine
end

section
/-! The statement at one access: where it holds, and the access at which it fails. -/
namespace Sys2Proof.Claims
open Machine

/-- The write is discarded and counted and changes nothing else. -/
def WriteIgnored (s : State) (a : BitVec 36) (len : Fin 17) (w : Word) (ok : Bool) : Prop :=
  Goes (exec (.mgmtWrite a len w ok) s) (fun t => ∃ c, Discarded s t a.toNat true c)

/-- The read completes with status `st` and data 0, and `P` holds of what else it leaves. -/
def ReadsZero (s : State) (rank : Fin 16) (a : BitVec 36) (op : MgmtOp) (st : BarStatus) (P : State → Prop) : Prop :=
  Goes (exec (.bar2RemoteAccess rank a op 0) s) (fun t => t.hub.port.done = s.hub.port.done ++ [⟨a.toNat, st, 0⟩] ∧ P { t with hub := s.hub })

/-- R8: the bytes that a read names are neither an aligned register nor an aligned half. -/
def Misses (op : MgmtOp) (r : Nat) : Prop := if op = .read64 then r % 8 ≠ 0 else r % 4 ≠ 0

/-- The clauses of O59 on writes, for one write. -/
def WritesNotPerformed (s : State) (a : BitVec 36) (len : Fin 17) (w : Word) (ok : Bool) : Prop :=
  let b := a.toNat
  (len.val ≠ 8 ∨ b % 8 ≠ 0 → WriteIgnored s a len w ok) ∧ (placeOf b = .none → WriteIgnored s a len w ok) ∧ (adrUnit b = 7 → WriteIgnored s a len w ok)
  ∧ ∀ c x, placeOf b = .reg c x → c.cmd ≠ 0 → bitsOf (rd s b) (c.sts + 1) c.sts = 1 →
    WriteIgnored s a len w ok ∧ Goes (exec (.mgmtWrite a len w ok) s) (fun t => rd t b = rd s b)

/-- The clauses of O59 on reads, for one read through BAR2. -/
def ReadsNotPerformed (s : State) (rank : Fin 16) (a : BitVec 36) (op : MgmtOp) : Prop :=
  let r := a.toNat + opOff op
  s.hub.port.up = true → rank.val = ownRank s → op ≠ .write64 →
    (Misses op r → ReadsZero s rank a op .done (fun t => Discarded s t r false 1))
    ∧ (¬ Misses op r → placeOf (r - r % 8) = .none →
      (hidden s r = true ∨ dieAway s r = false → ReadsZero s rank a op .done (fun t => Discarded s t r false 2))
      ∧ (hidden s r = false → dieAway s r = true → ReadsZero s rank a op .poisoned (fun t => t = s)))

/-- O59 clause by clause: a write and a read, each of its own. -/
theorem accessesNotPerformed_iff : Obligations.AccessesNotPerformed ↔
    (∀ s a len w ok, served s = true → WritesNotPerformed s a len w ok) ∧ ∀ s rank a op, served s = true → ReadsNotPerformed s rank a op := by
  refine ⟨fun h => ⟨fun s a len w ok hs => ?_, fun s rank a op hs => ?_⟩, fun h s a len w ok rank op hs => ?_⟩
  · obtain ⟨hsize, hplace, hunit, hbusy, -⟩ := h s a len w ok 0 .read64 hs
    exact ⟨hsize, hplace, hunit, hbusy⟩
  · obtain ⟨-, -, -, -, hread⟩ := h s a 0 0 true rank op hs
    exact hread
  · obtain ⟨hsize, hplace, hunit, hbusy⟩ := h.1 s a len w ok hs
    exact ⟨hsize, hplace, hunit, hbusy, h.2 s rank a op hs⟩

/-! ## Where it holds -/

theorem writeIgnored_of_refused {s : State} (hs : served s = true) {a : BitVec 36} {len : Fin 17} {w : Word} (ok : Bool)
    (h : writeRefusal s a.toNat len w ≠ none) : WriteIgnored s a len w ok :=
  let ⟨c, hc, he⟩ := execMgmtWrite_refused hs a len w ok h
  ⟨_, he, c, discardAt_discarded s true a.isLt hc⟩

/-- All that O59 says of writes holds. -/
theorem writesNotPerformed {s : State} (hs : served s = true) (a : BitVec 36) (len : Fin 17) (w : Word) (ok : Bool) :
    WritesNotPerformed s a len w ok := by
  have ignored := writeIgnored_of_refused hs (a := a) (len := len) (w := w) ok
  refine ⟨fun h => ignored fun hn => ?_, fun h => ignored fun hn => ?_, fun h => ignored fun hn => ?_, fun c x hp hc hb => ?_⟩
  · obtain ⟨h8, hal, -⟩ := writeRefusal_none hn
    exact h.elim (· h8) (· hal)
  · obtain ⟨-, -, hplace, -⟩ := writeRefusal_none hn
    exact hplace h
  · obtain ⟨-, -, -, hunit, -⟩ := writeRefusal_none hn
    exact hunit h
  · have href : writeRefusal s a.toNat len w ≠ none := fun hn => by
      obtain ⟨-, -, -, -, hidle⟩ := writeRefusal_none hn
      exact hidle c x hp hc hb
    obtain ⟨d, -, he⟩ := execMgmtWrite_refused hs a len w ok href
    obtain ⟨hcount, hlast⟩ := not_disc_of_cmd hp hc
    exact ⟨ignored href, _, he, rd_discardAt_ne s true d hcount hlast⟩

/-- A read aims at an aligned register or an aligned half exactly where it does not miss. -/
theorem aligned_iff_not_misses {op : MgmtOp} (hop : op ≠ .write64) (r : Nat) :
    ((opLen op = 8 ∧ r % 8 = 0) ∨ (opLen op = 4 ∧ r % 4 = 0)) ↔ ¬ Misses op r := by
  cases op <;> simp [opLen, Misses] at hop ⊢

/-- All that O59 says of reads holds of a read whose bytes begin inside management space. -/
theorem readsNotPerformed_of_inside {s : State} (hs : served s = true) (rank : Fin 16) (a : BitVec 36) (op : MgmtOp)
    (hin : a.toNat + opOff op < 2 ^ 36) : ReadsNotPerformed s rank a op := by
  intro hup hr hop
  have zero {st : Nat} {u : State} {P : State → Prop} (h : mgmtRead s (a.toNat + opOff op) (opLen op) = (st, 0, u)) (hu : u.hub = s.hub) (hP : P u) :
      ReadsZero s rank a op (if st = 2 then .poisoned else .done) P :=
    ⟨_, execBar2_read hs hup hr a hop 0 h, barDone_done hu _ _ _, by rw [barDone_restore hu]; exact hP⟩
  refine ⟨fun hm => ?_, fun hm hp => ⟨fun hv => ?_, fun hh hd => ?_⟩⟩
  · exact zero (mgmtRead_misses s fun h => (aligned_iff_not_misses hop _).mp h hm) (discardAt_hub ..) (discardAt_discarded s false hin (by decide))
  · exact zero (mgmtRead_nowhere s ((aligned_iff_not_misses hop _).mpr hm) hp hv) (discardAt_hub ..) (discardAt_discarded s false hin (by decide))
  · exact zero (mgmtRead_dieAway s ((aligned_iff_not_misses hop _).mpr hm) hh hd) rfl rfl

/-! ## Where it fails -/

/-- The machine at reset with its power on and the host port's link up. -/
def hostLinked : State := bootMod (portMod State.reset (fun p => { p with up := true })) (fun b => { b with pwrok := true })

/-- The address from which the upper half is read in the counterexample: four past it is 2^36 + 1. -/
def lastBytes : BitVec 36 := 0xFFFFFFFFD

/-- The read of the upper half from there is discarded, and the record shows address 1. -/
theorem readHigh_lastBytes : Goes (exec (.bar2RemoteAccess 0 lastBytes .readHigh 0) hostLinked)
    (fun t => getF t (SN_DISC_LAST_ADDR 0) = 1 ∧ getF t (SN_DISC_COUNT 0) = 1) :=
  ⟨_, rfl, by decide +kernel⟩

/-- Refutes O59. The statement wants SN_DISC_LAST.ADDR to show the address of a discarded read; but a read of an upper half from one of the last four
bytes of management space reads at 2^36 or beyond, which ADDR's 36 bits cannot show: for 2^36 + 1 they show 1. Everything else that O59 says holds
(`writesNotPerformed`, `readsNotPerformed_of_inside`). -/
theorem not_accessesNotPerformed : ¬ Obligations.AccessesNotPerformed := by
  rw [accessesNotPerformed_iff]
  rintro ⟨-, hread⟩
  obtain ⟨hmiss, -⟩ := hread hostLinked 0 lastBytes .readHigh (by decide +kernel) (by decide +kernel) (by decide +kernel) (by decide)
  obtain ⟨t, ht, -, -, haddr, -⟩ := hmiss (show (0xFFFFFFFFD + 4) % 4 ≠ 0 by decide)
  obtain ⟨t', ht', hone, -⟩ := readHigh_lastBytes
  cases ht.symm.trans ht'
  exact absurd (hone.symm.trans haddr) (by decide)

end Sys2Proof.Claims
end

/-! # Branches (R94, Table 3-10) -/

section
/-! What the parts of an issued instruction that runs to its end change: its own effect on the registers, its scoreboard entry, and the ply's move. -/
namespace Sys2Proof.Machine
open Claims

/-! ## Changes of registers only -/

/-- Only registers change, and of these only the ones listed. -/
structure RegsOnly (s t : State) (regs : List Nat) : Prop where
  sameRegs : SameRegs s t regs
  rest : t = { s with regs := t.regs }

theorem RegsOnly.refl (s : State) (regs : List Nat) : RegsOnly s s regs := ⟨fun _ _ => rfl, rfl⟩

theorem SameRegs.trans {s u t : State} {l l' : List Nat} (hu : SameRegs s u l) (ht : SameRegs u t l') : SameRegs s t (l ++ l') := fun a ha =>
  (ht a (mt (List.mem_append_right l) ha)).trans (hu a (mt (List.mem_append_left l') ha))

theorem RegsOnly.trans {s u t : State} {l l' : List Nat} (hu : RegsOnly s u l) (ht : RegsOnly u t l') : RegsOnly s t (l ++ l') :=
  ⟨hu.sameRegs.trans ht.sameRegs, ht.rest.trans (by rw [hu.rest])⟩

theorem regsOnly_wr (s : State) (a : Nat) (v : Word) : RegsOnly s (wr s a v) [a] :=
  ⟨fun _ h => rd_wr_ne s v (List.ne_of_not_mem_cons h), rfl⟩

theorem RegsOnly.plyGet_eq {s t : State} {regs : List Nat} (h : RegsOnly s t regs) (n b q : Nat) : plyGet t n b q = plyGet s n b q := by
  rw [h.rest]; rfl

/-- A register write changes that register alone; a write to s0 changes nothing. -/
theorem regsOnly_setS (s : State) (p : PlyId) (i : Nat) (v : Word) : RegsOnly s (setS s p i v) (sDest p i) := by
  by_cases h : i = 0
  · subst h; exact .refl s _
  · simpa [setS, sDest, h] using regsOnly_wr s (CD_PLY_S p.n p.b p.q i) v

/-- Table 3-1: what a scalar register reads after it is written. -/
theorem getS_setS (s : State) (p : PlyId) (i : Nat) (v : Word) : getS (setS s p i v) p i = if i = 0 then 0 else v := by
  split
  next h => rw [h, getS_zero]
  next h => exact getS_setS_same s p v h

/-! ## The scoreboard entry -/

theorem sbFree_lt (s : State) (n b : Nat) : sbFree s n b < 32 := by
  unfold sbFree
  cases h : (List.range 32).find? (fun e => getF s (CD_BK_SB_VALID n b e) == 0) with
  | none => decide
  | some e => exact List.mem_range.mp (List.mem_of_find?_eq_some h)

/-- The free entry depends on the scoreboard's registers alone. -/
theorem sbFree_congr {s t : State} {n b : Nat} (h : ∀ e < 32, rd t (CD_BK_SB n b e) = rd s (CD_BK_SB n b e)) : sbFree t n b = sbFree s n b := by
  have hvalid : ∀ e ∈ List.range 32, (getF t (CD_BK_SB_VALID n b e) == 0) = (getF s (CD_BK_SB_VALID n b e) == 0) := fun e he => by
    simp only [getF, CD_BK_SB_VALID, h e (List.mem_range.mp he)]
  unfold sbFree
  rw [← List.head?_filter, ← List.head?_filter, List.filter_congr hvalid]

/-- The registers that an instruction's scoreboard entry may write. -/
def entryRegs (s : State) (p : PlyId) (maj mi : Nat) (o : IOp) : List Nat :=
  if ((findOp maj mi).map (fun r => r.cls.holds o.d.val)).getD false then [CD_BK_SB p.n p.b (sbFree s p.n p.b)] else []

theorem issueRegs_eq (s : State) (p : PlyId) (maj mi : Nat) (o : IOp) :
    issueRegs s p maj mi o = [CD_PLY_PC p.n p.b p.q, CD_PLY_STS p.n p.b p.q] ++ entryRegs s p maj mi o := rfl

theorem exists_of_mem_entryRegs {s : State} {p : PlyId} {maj mi a : Nat} {o : IOp} (h : a ∈ entryRegs s p maj mi o) :
    ∃ e < 32, a = CD_BK_SB p.n p.b e := by
  unfold entryRegs at h
  split at h
  · exact ⟨_, sbFree_lt s _ _, List.mem_singleton.mp h⟩
  · cases h

theorem entryRegs_congr {s t : State} {p : PlyId} (h : ∀ e < 32, rd t (CD_BK_SB p.n p.b e) = rd s (CD_BK_SB p.n p.b e)) (maj mi : Nat) (o : IOp) :
    entryRegs t p maj mi o = entryRegs s p maj mi o := by
  unfold entryRegs; rw [sbFree_congr h]

/-- Taking the entry changes at most the register of the free entry. -/
theorem regsOnly_issueEntry (s : State) (p : PlyId) (o : IOp) (maj mi : Nat) : RegsOnly s (issueEntry s p o maj mi) (entryRegs s p maj mi o) := by
  unfold issueEntry entryRegs
  cases hop : findOp maj mi with
  | none => exact .refl s _
  | some r =>
    cases hh : r.cls.holds o.d.val with
    | false => simpa [hh] using RegsOnly.refl s _
    | true =>
      simp only [Option.map_some, Option.getD_some, hh, if_true]
      split
      · exact regsOnly_wr s _ _
      · exact .refl s _

/-! ## The ply's move -/

/-- What `advance` does before it looks at the target: the counts of the ply, and its PC. -/
def moveOn (s : State) (p : PlyId) (pc next : Nat) : State :=
  setPc (plyMod (setIssued s p.n p.b p.q ((plyGet s p.n p.b p.q).issued + 1)) p.n p.b p.q
    (fun x => { x with fbuf := x.fbuf.filter (fun e => e.1 != pc), age := 0, held := none, rewait := none })) p next

theorem advance_eq (s : State) (p : PlyId) (pc next : Nat) :
    advance s p pc next = if next < 0x100000 then moveOn s p pc next else raiseTrap (moveOn s p pc next) p 4 pc next := rfl

theorem sameRegs_moveOn (s : State) (p : PlyId) (pc next : Nat) :
    SameRegs s (moveOn s p pc next) [CD_PLY_PC p.n p.b p.q, CD_PLY_STS p.n p.b p.q] := fun a ha => by
  simp only [List.mem_cons, List.not_mem_nil, or_false, not_or] at ha
  exact (rd_setF_ne _ _ _ ha.1).trans (rd_setF_ne _ (CD_PLY_STS_ISSUED p.n p.b p.q) _ ha.2)

/-- The move writes no register but the PC and the status. -/
theorem sameRegs_advance (s : State) (p : PlyId) (pc next : Nat) :
    SameRegs s (advance s p pc next) [CD_PLY_PC p.n p.b p.q, CD_PLY_STS p.n p.b p.q] := fun a ha => by
  rw [advance_eq]
  split
  · exact sameRegs_moveOn s p pc next a ha
  · exact (rd_plyMod ..).trans (sameRegs_moveOn s p pc next a ha)

theorem moveOn_otherPlies (s : State) (p : PlyId) (pc next : Nat) : OtherPlies s (moveOn s p pc next) p := fun n b q h => by
  rw [moveOn, plyGet_setPc, plyGet_plyMod_ne _ _ h, setIssued, plyGet_setF, plyGet_plyMod_ne _ _ h]

theorem advance_otherPlies (s : State) (p : PlyId) (pc next : Nat) : OtherPlies s (advance s p pc next) p := fun n b q h => by
  rw [advance_eq]
  split
  · exact moveOn_otherPlies s p pc next n b q h
  · exact (plyGet_plyMod_ne _ _ h).trans (moveOn_otherPlies s p pc next n b q h)

theorem advance_rest (s : State) (p : PlyId) (pc next : Nat) :
    advance s p pc next = { s with regs := (advance s p pc next).regs, plies := (advance s p pc next).plies } := by
  rw [advance_eq]
  by_cases h : next < 0x100000
  · rw [if_pos h]; rfl
  · rw [if_neg h]; rfl

/-- A ply with no trap moves to any address that is a multiple of 8; past the end of the store it raises the address trap. -/
theorem advance_moves (s : State) (p : PlyId) {next : Nat} (h8 : next % 8 = 0) (hw : next < 2 ^ 64) (ht : (plyGet s p.n p.b p.q).trap = none) :
    Moved s (advance s p (getPc s p) next) p next := by
  by_cases hn : next < 0x100000
  · exact advance_moved s p next h8 hn ht
  · exact advance_moved_end s p next h8 hn hw

theorem Moved.congr {s u t : State} {p : PlyId} {next : Nat} (h : Moved u t p next) (hpc : getPc u p = getPc s p)
    (hply : plyGet u p.n p.b p.q = plyGet s p.n p.b p.q) : Moved s t p next := by
  unfold Moved at h ⊢
  rwa [hpc, hply] at h

theorem trap_none_of_mayIssue {s : State} {p : PlyId} (h : mayIssue s p = true) : (plyGet s p.n p.b p.q).trap = none := by
  simp only [mayIssue, Bool.and_eq_true, Option.isNone_iff_eq_none] at h
  obtain ⟨⟨⟨⟨⟨⟨-, htrap⟩, -⟩, -⟩, -⟩, -⟩, -⟩ := h
  exact htrap

theorem getPc_lt (s : State) (p : PlyId) : getPc s p < 2 ^ 20 := by
  have : getF s (CD_PLY_PC_PC p.n p.b p.q) < 2 ^ 17 := Nat.mod_lt _ (Nat.two_pow_pos 17)
  unfold getPc; omega

/-- The address after an instruction is a target that a ply may move to. -/
theorem getPc_next (s : State) (p : PlyId) : (getPc s p + 8) % 8 = 0 ∧ getPc s p + 8 < 2 ^ 64 := by
  have := getPc_mod8 s p
  have := getPc_lt s p
  omega

/-! ## An instruction that runs to its end -/

/-- The registers listed are none that the issue of an instruction reads or writes: not the PC, no scoreboard entry. -/
structure OffIssue (p : PlyId) (regs : List Nat) : Prop where
  pc : CD_PLY_PC p.n p.b p.q ∉ regs
  sb : ∀ e < 32, CD_BK_SB p.n p.b e ∉ regs

theorem offIssue_nil (p : PlyId) : OffIssue p [] := ⟨List.not_mem_nil, fun _ _ => List.not_mem_nil⟩

theorem CD_PLY_S_notMem_advance (p : PlyId) (i : Nat) : CD_PLY_S p.n p.b p.q i ∉ [CD_PLY_PC p.n p.b p.q, CD_PLY_STS p.n p.b p.q] := by
  simp only [List.mem_cons, List.not_mem_nil, or_false]
  unfold CD_PLY_S CD_PLY_PC CD_PLY_STS adr; omega

theorem CD_PLY_S_notMem_issueRegs (s : State) (p : PlyId) (maj mi : Nat) (o : IOp) (i : Nat) :
    CD_PLY_S p.n p.b p.q i ∉ issueRegs s p maj mi o := fun h => by
  rcases List.mem_append.mp (issueRegs_eq s p maj mi o ▸ h) with h | h
  · exact CD_PLY_S_notMem_advance p i h
  · obtain ⟨e, he, h⟩ := exists_of_mem_entryRegs h
    unfold CD_PLY_S CD_BK_SB adr at h; omega

theorem offIssue_sDest (p : PlyId) (i : Nat) : OffIssue p (sDest p i) := by
  unfold sDest
  split
  · exact offIssue_nil p
  · refine ⟨fun h => ?_, fun e he h => ?_⟩ <;> rw [List.mem_singleton] at h
    · unfold CD_PLY_PC CD_PLY_S adr at h; omega
    · unfold CD_BK_SB CD_PLY_S adr at h; omega

theorem getPc_congr {s t : State} {p : PlyId} {regs : List Nat} (h : SameRegs s t regs) (hpc : CD_PLY_PC p.n p.b p.q ∉ regs) :
    getPc t p = getPc s p := by
  simp only [getPc, getF, CD_PLY_PC_PC, h _ hpc]

theorem getS_congr {s t : State} {p : PlyId} {regs : List Nat} {i : Nat} (h : SameRegs s t regs) (hi : CD_PLY_S p.n p.b p.q i ∉ regs) :
    getS t p i = getS s p i := by
  simp only [getS, h _ hi]

/-- A scalar register written before the issue's own registers reads as written. -/
theorem getS_of_issued_setS {s t : State} {p : PlyId} {maj mi i : Nat} {o : IOp} {v : Word}
    (h : SameRegs (setS s p i v) t (issueRegs s p maj mi o)) : getS t p i = if i = 0 then 0 else v :=
  (getS_congr h (CD_PLY_S_notMem_issueRegs s p maj mi o i)).trans (getS_setS s p i v)

/-- After changes of registers alone, the ply's move changes nothing but registers and the record of the ply. -/
theorem RegsOnly.frame_advance {s u : State} {regs : List Nat} (hu : RegsOnly s u regs) (p : PlyId) (pc next : Nat) (A : Nat → Prop) :
    SameMem s (advance u p pc next) A ∧ BrickOnly s (advance u p pc next) p ∧ (advance u p pc next).bricks = s.bricks := by
  have hrest : advance u p pc next = { s with regs := (advance u p pc next).regs, plies := (advance u p pc next).plies } :=
    (advance_rest u p pc next).trans (by rw [hu.rest])
  have hplies : OtherPlies s (advance u p pc next) p := fun n b q h => (advance_otherPlies u p pc next n b q h).trans (hu.plyGet_eq n b q)
  generalize advance u p pc next = t at hrest hplies ⊢
  have hmem : t.mem = s.mem := by rw [hrest]
  have hbricks : t.bricks = s.bricks := by rw [hrest]
  refine ⟨fun a _ => ?_, ⟨hplies, fun n b _ => ?_, ?_⟩, hbricks⟩
  · unfold memGet; rw [hmem]
  · unfold brickGet; rw [hbricks]
  · rw [hmem, hbricks]; exact hrest

theorem CD_PLY_PC_notMem_entryRegs (s : State) (p : PlyId) (maj mi : Nat) (o : IOp) : CD_PLY_PC p.n p.b p.q ∉ entryRegs s p maj mi o := fun h => by
  obtain ⟨e, he, h⟩ := exists_of_mem_entryRegs h
  unfold CD_PLY_PC CD_BK_SB adr at h; omega

/-- An instruction whose own effect leads from `s` to `u`, and which then takes its entry and moves on, runs: what it promises, `P`, need hold only
of states that read as `u` outside the registers of the issue. -/
theorem runs_of_advance {s u : State} {p : PlyId} {o : IOp} {maj mi next : Nat} {c : PlyId → IOp → Instr} {regs : List Nat} {P : State → Prop}
    (hrun : Issues s p o maj mi → exec (c p o) s = .next (advance (issueEntry u p o maj mi) p (getPc s p) next))
    (h8 : next % 8 = 0) (hw : next < 2 ^ 64) (hu : RegsOnly s u regs) (hoff : OffIssue p regs)
    (hP : ∀ t, SameRegs u t (issueRegs s p maj mi o) → P t) : Runs s p o maj mi c regs nowhere next P := by
  intro hi
  have hentry : RegsOnly u (issueEntry u p o maj mi) (entryRegs s p maj mi o) :=
    entryRegs_congr (fun e he => hu.sameRegs _ (hoff.sb e he)) maj mi o ▸ regsOnly_issueEntry u p o maj mi
  have hpc : getPc (issueEntry u p o maj mi) p = getPc s p :=
    (getPc_congr hentry.sameRegs (CD_PLY_PC_notMem_entryRegs s p maj mi o)).trans (getPc_congr hu.sameRegs hoff.pc)
  have hv := hu.trans hentry
  generalize issueEntry u p o maj mi = v at hrun hentry hpc hv
  have hply := hv.plyGet_eq p.n p.b p.q
  have hmoved : Moved s (advance v p (getPc s p) next) p next :=
    Moved.congr (hpc ▸ advance_moves v p h8 hw (hply ▸ trap_none_of_mayIssue hi.1)) hpc hply
  have hissue : SameRegs u (advance v p (getPc s p) next) (issueRegs s p maj mi o) := fun a ha =>
    hentry.sameRegs.trans (sameRegs_advance v p (getPc s p) next) a
      (mt (fun h => List.mem_append.mpr (List.mem_append.mp h).symm) (issueRegs_eq s p maj mi o ▸ ha))
  exact ⟨_, hrun hi, hP _ hissue, hmoved, hu.sameRegs.trans hissue, hv.frame_advance p (getPc s p) next nowhere⟩

/-- An instruction that completes runs to the address after it. -/
theorem runs_of_done {s u : State} {p : PlyId} {o : IOp} {maj mi : Nat} {c : PlyId → IOp → Instr} {body : State → Body} {regs : List Nat}
    {P : State → Prop} (hex : exec (c p o) s = .next (issue maj mi p o s body)) (hb : body s = .done u) (hu : RegsOnly s u regs)
    (hoff : OffIssue p regs) (hP : ∀ t, SameRegs u t (issueRegs s p maj mi o) → P t) :
    Runs s p o maj mi c regs nowhere (getPc s p + 8) P :=
  runs_of_advance (fun hi => by rw [hex, issue_done hi hb (getPc_congr hu.sameRegs hoff.pc)]) (getPc_next s p).1 (getPc_next s p).2 hu hoff hP

/-- An instruction that changes nothing of its own and completes. -/
theorem runs_of_done_self {s : State} {p : PlyId} {o : IOp} {maj mi : Nat} {c : PlyId → IOp → Instr} {body : State → Body}
    (hex : exec (c p o) s = .next (issue maj mi p o s body)) (hb : body s = .done s) :
    Runs s p o maj mi c [] nowhere (getPc s p + 8) (fun _ => True) :=
  runs_of_done hex hb (.refl s []) (offIssue_nil p) fun _ _ => trivial

/-- An instruction that writes its scalar destination and completes. -/
theorem runs_of_done_setS {s : State} {p : PlyId} {o : IOp} {maj mi : Nat} {c : PlyId → IOp → Instr} {body : State → Body} {v : Word}
    (hex : exec (c p o) s = .next (issue maj mi p o s body)) (hb : body s = .done (setS s p o.d v)) : Gives s p o maj mi c v :=
  runs_of_done hex hb (regsOnly_setS s p o.d v) (offIssue_sDest p o.d) fun _ => getS_of_issued_setS

/-! ## Guard off -/

/-- R85: an instruction whose guard is off only moves the ply on. -/
theorem goes_of_guardOff {s : State} {p : PlyId} {o : IOp} {maj mi : Nat} {i : Instr} {body : State → Body}
    (hex : exec i s = .next (issue maj mi p o s body)) (hm : mayIssue s p = true) (hl : legal (n3Avail s p.n) maj mi o = true)
    (hg : guardOn s p o = false) : Goes (exec i s) (fun t => Moved s t p (getPc s p + 8) ∧ ∀ i : Fin 32, getS t p i = getS s p i) := by
  rw [hex, issue_guardOff maj mi p o s body hm hl hg]
  exact ⟨_, rfl, advance_moves s p (getPc_next s p).1 (getPc_next s p).2 (trap_none_of_mayIssue hm),
    fun i => getS_congr (sameRegs_advance s p _ _) (CD_PLY_S_notMem_advance p i)⟩

end Sys2Proof.Machine
end

section
/-! Branches: where a target may be taken, what a branch does there, and that it only traps elsewhere. -/
namespace Sys2Proof.Machine
open Claims

/-! ## Targets (R94) -/

/-- R94: the targets that a branch may take. -/
def BranchTarget (w : Word) : Prop := w.toNat % 8 = 0 ∧ w.toNat < 2 ^ 20

theorem branchWith_of_target {w : Word} (h : BranchTarget w) (s : State) (f : State → State) : branchWith s f w = .jump (f s) w.toNat := by
  obtain ⟨h8, hlt⟩ := h
  simp only [branchWith, branchTo, h8, show w.toNat ≤ 0xFFFF8 by omega, and_self, if_true]

theorem branchWith_of_not_target {w : Word} (h : ¬ BranchTarget w) (s : State) (f : State → State) : branchWith s f w = .trap 4 w.toNat false := by
  have : ¬ (w.toNat % 8 = 0 ∧ w.toNat ≤ 0xFFFF8) := fun ⟨h8, hle⟩ => h ⟨h8, by omega⟩
  simp only [branchWith, branchTo, this, if_false]

/-- A plain branch is one with no other effect. -/
theorem branchTo_eq (s : State) (w : Word) : branchTo s w = branchWith s id w := by
  unfold branchWith
  unfold branchTo
  split <;> rfl

/-! ## A branch taken, and a branch refused -/

variable {s : State} {p : PlyId} {o : IOp} {maj mi : Nat} {c : PlyId → IOp → Instr} {body : State → Body} {w : Word}

theorem runs_of_branchWith {f : State → State} {regs : List Nat} {P : State → Prop} (hex : exec (c p o) s = .next (issue maj mi p o s body))
    (hb : body s = branchWith s f w) (hw : BranchTarget w) (hu : RegsOnly s (f s) regs) (hoff : OffIssue p regs)
    (hP : ∀ t, SameRegs (f s) t (issueRegs s p maj mi o) → P t) : Runs s p o maj mi c regs nowhere w.toNat P :=
  runs_of_advance (fun hi => by rw [hex, issue_jump hi (hb.trans (branchWith_of_target hw s f)) (getPc_congr hu.sameRegs hoff.pc)])
    hw.1 w.isLt hu hoff hP

/-- A plain branch to a legal target. -/
theorem runs_of_branchTo (hex : exec (c p o) s = .next (issue maj mi p o s body)) (hb : body s = branchTo s w) (hw : BranchTarget w) :
    Runs s p o maj mi c [] nowhere w.toNat (fun _ => True) :=
  runs_of_branchWith hex (hb.trans (branchTo_eq s w)) hw (.refl s []) (offIssue_nil p) fun _ _ => trivial

/-- A branch to a legal target that also writes its scalar destination. -/
theorem runs_of_branchWith_setS {v : State → Word} (hex : exec (c p o) s = .next (issue maj mi p o s body))
    (hb : body s = branchWith s (fun t => setS t p o.d (v t)) w) (hw : BranchTarget w) :
    Runs s p o maj mi c (sDest p o.d) nowhere w.toNat (fun t => getS t p o.d = if o.d.val = 0 then 0 else v s) :=
  runs_of_branchWith hex hb hw (regsOnly_setS s p o.d (v s)) (offIssue_sDest p o.d)
    fun _ => getS_of_issued_setS

/-- R94, R114: a branch to any other target raises trap 4 and does nothing else. -/
theorem exec_of_branchWith_refused {f : State → State} (hex : exec (c p o) s = .next (issue maj mi p o s body)) (hb : body s = branchWith s f w)
    (hw : ¬ BranchTarget w) (hi : Issues s p o maj mi) :
    exec (c p o) s = .next (plyMod s p.n p.b p.q (fun x => { x with trap := some ⟨4, getPc s p, w.toNat⟩ })) := by
  rw [hex, issue_trap hi (hb.trans (branchWith_of_not_target hw s f)), raiseTrap, Nat.mod_eq_of_lt w.isLt]
  rfl

theorem exec_of_branchTo_refused (hex : exec (c p o) s = .next (issue maj mi p o s body)) (hb : body s = branchTo s w)
    (hw : ¬ BranchTarget w) (hi : Issues s p o maj mi) :
    exec (c p o) s = .next (plyMod s p.n p.b p.q (fun x => { x with trap := some ⟨4, getPc s p, w.toNat⟩ })) :=
  exec_of_branchWith_refused hex (hb.trans (branchTo_eq s w)) hw hi

end Sys2Proof.Machine
end

section
/-! The instructions of Table 3-10. -/
namespace Sys2Proof.Machine
open Claims

variable (s : State) (p : PlyId) (o : IOp)

/-! ## What each issues -/

theorem exec_br : exec (.br p o) s = .next (issue 8 0 p o s fun s => branchTo s (relTarget s p o)) := rfl

theorem exec_call : exec (.call p o) s = .next (issue 8 1 p o s fun s =>
    branchWith s (fun s => setS s p o.d (BitVec.ofNat 64 (getPc s p + 8))) (relTarget s p o)) := rfl

theorem exec_jr : exec (.jr p o) s = .next (issue 9 0 p o s fun s => branchTo s (getS s p o.a)) := rfl

theorem exec_jalr : exec (.jalr p o) s = .next (issue 9 1 p o s fun s =>
    branchWith s (fun s => setS s p o.d (BitVec.ofNat 64 (getPc s p + 8))) (getS s p o.a)) := rfl

theorem exec_loop : exec (.loop p o) s = .next (issue 10 0 p o s fun s =>
    if getS s p o.d - 1 ≠ 0 then branchWith s (fun t => setS t p o.d (getS s p o.d - 1)) (relTarget s p o)
    else .done (setS s p o.d (getS s p o.d - 1))) := rfl

theorem exec_bz : exec (.bz p o) s = .next (issue 10 1 p o s fun s =>
    if getS s p o.a = 0 then branchTo s (relTarget s p o) else .done s) := rfl

theorem exec_bnz : exec (.bnz p o) s = .next (issue 10 2 p o s fun s =>
    if getS s p o.a ≠ 0 then branchTo s (relTarget s p o) else .done s) := rfl

theorem exec_nop : exec (.nop p o) s = .next (issue 11 0 p o s .done) := rfl

/-- R94: loop ends where its count reaches 0, and then its target is not looked at. -/
theorem runs_loop_ends {s : State} {p : PlyId} {o : IOp} (h : getS s p o.d - 1 = 0) :
    Runs s p o 10 0 .loop (sDest p o.d) nowhere (getPc s p + 8) (fun t => getS t p o.d = 0) :=
  runs_of_done (exec_loop s p o) (if_neg fun hne => hne h) (regsOnly_setS s p o.d _) (offIssue_sDest p o.d)
    fun _ ht => (getS_of_issued_setS ht).trans (by rw [h, ite_self])

/-- Each branch is the issue of an instruction with its own opcode. -/
theorem exec_branch_issues : ∀ r ∈ [(8, 0, Instr.br), (8, 1, .call), (9, 0, .jr), (9, 1, .jalr), (10, 0, .loop), (10, 1, .bz), (10, 2, .bnz)],
    ∃ body, exec (r.2.2 p o) s = .next (issue r.1 r.2.1 p o s body) := by
  simp only [List.forall_mem_cons]
  exact ⟨⟨_, exec_br s p o⟩, ⟨_, exec_call s p o⟩, ⟨_, exec_jr s p o⟩, ⟨_, exec_jalr s p o⟩, ⟨_, exec_loop s p o⟩, ⟨_, exec_bz s p o⟩,
    ⟨_, exec_bnz s p o⟩, nofun⟩

end Sys2Proof.Machine
end

section
/-! Table 3-10 (R94), clause by clause. -/
namespace Sys2Proof.Claims
open Machine

/-- Settles O3. A legal target is reached with the branch's own effect, any other only traps (`runs_of_branchWith`, `exec_of_branchWith_refused`);
a branch not taken completes, and one whose guard is off never reaches its body. -/
theorem branches : Obligations.Branches := by
  intro s p o pc rel ra link dec can run bad
  refine ⟨runs_of_branchTo (exec_br s p o) rfl, exec_of_branchTo_refused (exec_br s p o) rfl,
    runs_of_branchWith_setS (exec_call s p o) rfl, exec_of_branchWith_refused (exec_call s p o) rfl,
    runs_of_branchTo (exec_jr s p o) rfl, exec_of_branchTo_refused (exec_jr s p o) rfl,
    runs_of_branchWith_setS (exec_jalr s p o) rfl, exec_of_branchWith_refused (exec_jalr s p o) rfl,
    fun taken => runs_of_branchWith_setS (exec_loop s p o) (if_pos taken), fun taken => exec_of_branchWith_refused (exec_loop s p o) (if_pos taken),
    runs_loop_ends,
    fun taken => runs_of_branchTo (exec_bz s p o) (if_pos taken), fun taken => exec_of_branchTo_refused (exec_bz s p o) (if_pos taken),
    fun notTaken => runs_of_done_self (exec_bz s p o) (if_neg notTaken),
    fun taken => runs_of_branchTo (exec_bnz s p o) (if_pos taken), fun taken => exec_of_branchTo_refused (exec_bnz s p o) (if_pos taken),
    fun notTaken => runs_of_done_self (exec_bnz s p o) (if_neg fun hne => hne notTaken),
    runs_of_done_self (exec_nop s p o) rfl, fun r hr hm hl hg => ?_⟩
  obtain ⟨body, hex⟩ := exec_branch_issues s p o r hr
  exact goes_of_guardOff hex hm hl hg

end Sys2Proof.Claims
end

/-! # The queue page of a package that is not PRIMARY, and the role page (R305) -/

section
/-! Which addresses the queue page holds, and what an access does there and in the role page. -/
namespace Sys2Proof.Machine
open Claims

/-! ## The addresses -/

/-- Block 0x060, which R305 divides into its role page and its queue page. -/
def HostPage (a : Nat) : Prop := adrUnit a = 0 ∧ adrBlk a = 0x60

/-- The four ranges of offsets of the role page: its registers, their shadows, the tag, and their occurrence counts. -/
def RolePage (a : Nat) : Prop :=
  adrOff a < 0x1000 ∨ (0x40000 ≤ adrOff a ∧ adrOff a < 0x41000) ∨ adrOff a = 0x7FFF8 ∨ (0x80000 ≤ adrOff a ∧ adrOff a < 0x84000)

theorem hostPage_iff (a : Nat) : HostPage a ↔ a - adrOff a = adr 0 0x60 0 := by
  unfold HostPage adrUnit adrBlk adrOff adr; omega

theorem hostPage_alignDown (a : Nat) : HostPage (a - a % 8) ↔ HostPage a := by
  unfold HostPage adrUnit adrBlk; omega

/-- The queue page is what the role page leaves of block 0x060. -/
theorem queuePage_iff (a : Nat) : queuePage a = true ↔ HostPage a ∧ ¬ RolePage a := by
  rw [hostPage_iff]
  simp only [queuePage, RolePage, tagOff, Bool.and_eq_true, Bool.not_eq_true', Bool.or_eq_false_iff, decide_eq_false_iff_not, beq_iff_eq, beq_eq_false_iff_ne]
  exact and_congr_right fun _ => by omega

/-- The MSI-X table stands in the queue page. -/
theorem queuePage_of_msix {a : Nat} (h : placeOf a = .msix) : queuePage a = true := by
  simp only [placeOf] at h
  split at h
  · split at h <;> cases h
  split at h
  · split at h <;> cases h
  split at h
  · split at h
    · split at h <;> cases h
    · cases h
  next hshadow =>
  split at h
  · cases h
  split at h
  next hmsix =>
    obtain ⟨hbase, hoff⟩ := hmsix
    refine (queuePage_iff a).mpr ⟨(hostPage_iff a).mpr hbase, ?_⟩
    unfold RolePage; unfold shadowOff at hshadow; omega
  · cases h

/-- Block 0x060 is not a compute die's. -/
theorem dieAway_hostPage (s : State) {a : Nat} (h : HostPage a) : dieAway s a = false := by
  obtain ⟨hunit, -⟩ := h
  simp [dieAway, hunit]

/-! ## Writes -/

/-- R305: a write to the queue page of a package that is not PRIMARY is refused. -/
theorem writeRefusal_queuePage {s : State} {a : Nat} (hq : queuePage a = true) (hr : roleOf s ≠ 2) (len : Nat) (v : Word) :
    writeRefusal s a len v ≠ none := by
  unfold writeRefusal
  split; · nofun
  split; · nofun
  split; · nofun
  split; · nofun
  cases placeOf a with
  | reg c x =>
    intro h
    cases (if_pos ⟨hq, hr⟩).symm.trans h
  | msix => nofun -- the splits above have used `hr` to settle this branch as cause 6
  | shadow | tag | occ | none => nofun

/-- Cause 6, the role, is given for the queue page only. -/
theorem queuePage_of_writeRefusal {s : State} {a len : Nat} {v : Word} (h : writeRefusal s a len v = some 6) : queuePage a = true := by
  unfold writeRefusal at h
  split at h; · cases h
  split at h; · cases h
  split at h; · cases h
  split at h; · cases h
  cases hp : placeOf a with
  | reg c x =>
    simp only [hp] at h
    split at h
    next hq => exact hq.1
    split at h; · cases h
    split at h; · cases h
    split at h <;> cases h
  | msix => exact queuePage_of_msix hp
  | shadow | tag | occ | none => simp only [hp] at h; cases h

/-! ## Reads -/

/-- R305: a read of the queue page of a package that is not PRIMARY is not poisoned and gives 0, whether it is performed or discarded. -/
theorem mgmtRead_queuePage {s : State} {r : Nat} (hq : queuePage (r - r % 8) = true) (hr : roleOf s ≠ 2) (len : Nat) :
    ∃ st u, mgmtRead s r len = (st, 0, u) ∧ st ≠ 2 ∧ u.hub = s.hub := by
  have hd : dieAway s r = false := dieAway_hostPage s ((hostPage_alignDown r).mp ((queuePage_iff _).mp hq).1)
  by_cases hal : (len = 8 ∧ r % 8 = 0) ∨ (len = 4 ∧ r % 4 = 0)
  · cases hh : hidden s r with
    | true => exact ⟨1, discardAt s r false 2, by simp [mgmtRead, hal, hh], by decide, discardAt_hub ..⟩
    | false =>
      cases hp : placeOf (r - r % 8) with
      | none => exact ⟨1, _, mgmtRead_nowhere s hal hp (.inr hd), by decide, discardAt_hub ..⟩
      | reg | shadow | tag | occ | msix => exact ⟨0, s, by simp [mgmtRead, hal, hh, hd, hp, hq, hr], by decide, rfl⟩
  · exact ⟨1, _, mgmtRead_misses s hal, by decide, discardAt_hub ..⟩

/-- A read of 8 bytes that is performed gives the register as it reads. -/
theorem mgmtRead_of_Reads {s : State} {a : Nat} (h : Reads s a) : mgmtRead s a 8 = (0, readReg s a, s) := by
  obtain ⟨hal, hh, hd, hp, hq⟩ := h
  have hnot : ¬ (queuePage a = true ∧ roleOf s ≠ 2) := by rcases hq with hq | hq <;> simp [hq]
  cases hpl : placeOf a with
  | none => exact absurd hpl hp
  | reg | shadow | tag | occ | msix => simp [mgmtRead, hal, hh, hd, hpl, hnot]

end Sys2Proof.Machine
end

section
/-! The queue page and the role page (R305), clause by clause. -/
namespace Sys2Proof.Claims
open Machine

/-- Settles O60. In a package that is not PRIMARY every write to the queue page is refused (`writeRefusal_queuePage`) and every read of it gives 0
(`mgmtRead_queuePage`); the role page is no part of the queue page, so that its registers read as they stand (`mgmtRead_of_Reads`) and no write
to it is refused for the role (`queuePage_of_writeRefusal`). -/
theorem queuePage : Obligations.QueuePage := by
  intro s a len w ok op page role r read hs
  refine ⟨fun hrole hpage hnot => ?_, fun hrole hpage hnot rank hrank hup hop => ?_,
    fun hpage hin hal hh hp => ⟨fun rank hrank hup hop => ?_, fun v hv => ?_⟩⟩
  · exact writeIgnored_of_refused hs ok (writeRefusal_queuePage ((queuePage_iff _).mpr ⟨hpage, hnot⟩) hrole len w)
  · have hq : Machine.queuePage (r - r % 8) = true := (queuePage_iff _).mpr ⟨(hostPage_alignDown r).mpr hpage, hnot⟩
    obtain ⟨st, u, hread, hst, hu⟩ := mgmtRead_queuePage hq hrole (opLen op)
    refine ⟨_, execBar2_read hs hup hrank a hop 0 hread, 0, rfl, ?_⟩
    rw [if_neg hst, barDone_done hu]
  · have hq : Machine.queuePage a.toNat = false := Bool.eq_false_iff.mpr fun h => ((queuePage_iff _).mp h).2 hin
    exact ⟨_, execBar2_read hs hup hrank a hop 0 (mgmtRead_of_Reads ⟨hal, hh, dieAway_hostPage s hpage, hp, .inl hq⟩), _, rfl, barDone_done rfl ..⟩
  · exact ((queuePage_iff _).mp (queuePage_of_writeRefusal hv)).2 hin

end Sys2Proof.Claims
end
